-- ==== Sys2Proof/Word.lean ====
section
/-! DEFINITION. The word types of the Trogar (R12): bytes, 16-, 32-, 64- and 128-bit words, and the unit of time. -/

namespace Sys2Proof

/-- A byte of memory. -/
abbrev Byte := BitVec 8
/-- A register word: registers are 32 bits wide, or two such words with the low word first (R12). -/
abbrev Word := BitVec 32
/-- A 64-bit scalar register, instruction or slot entry (R86, R105). -/
abbrev DWord := BitVec 64
/-- A token payload, or a 128-bit engine instruction (R87, R250). -/
abbrev QWord := BitVec 128
/-- An instant or an interval in units of 1/65,536 ns, the FRAC unit of R39. -/
abbrev Tick := Nat

end Sys2Proof
end

