-- ==== Sys2Proof/Config.lean ====
section
/-! DEFINITION. What the manual leaves open: the free values.  Each is an opaque constant without a body, so that
no proof can lean on a value of it; `notes/assumptions/2.md` says where each is used. -/

namespace Sys2Proof

/-- A fresh 64-bit value the manual does not fix.  The machine applies it to the counter `State.free`, which every
use advances (log entry 2). -/
opaque Config.freeValue : Nat → BitVec 64

/-- The outlier channels of a grouped output at an address (R221, log entry 101). -/
opaque Config.outliersOf : Nat → List Nat

/-- Whether a binding of an epoch has launched outputs (R215, log entry 102). -/
opaque Config.launches : Nat → Nat → Bool

/-- What SLHVER's bytes give: public key, message, signature and context string (R295).  The manual gives the descriptor no
layout beyond DATA, LEN and RESULT, so which bytes they are is a free function of the descriptor and the data (log entry 3). -/
opaque Config.slhInput : List Byte → List Byte × List Byte × List Byte × List Byte

/-- The context string of SLHSIGN, and that of the attestation report: R295 and R565 state none (log entry 3). -/
opaque Config.slhContext : List Byte
opaque Config.attContext : List Byte

/-- The 96 bytes of the identity key's seeds, which no address maps (R35, R563, log entry 3). -/
opaque Config.idSeed : Nat → Byte

/-- Length and bytes of the certificate Ceavaton signs for the identity key at manufacture (R563, log entry 3). -/
opaque Config.certLen : Nat
opaque Config.certByte : Nat → Byte

/-- The 32-symbol marker of a Nenath training frame, and the state of PRBS31 behind it on a lane: R354 gives neither (log
entry 109). -/
opaque Config.trainMarker : Nat → Bool
opaque Config.prbsSeed : Nat → Nat

/-- Where a byte of saved cell state lies, from CELL_ADDR on: R514 says what is saved and gives it no layout.  The
argument is cell × 2^20 + item (log entry 2). -/
opaque Config.cellSaved : Nat → Nat

/-- Where a byte of a context's 64-byte entry lies in it: R514 names the fields and gives them no offsets (log
entry 2). -/
opaque Config.ctxSaved : Nat → Nat

end Sys2Proof
end

