-- ==== Sys2Proof/Syntax.lean ====
section
/-! DEFINITION. The commands of the Trogar: one constructor per row of the table of operations and events
(spec/opcode_table.json).  Every command carries `t`, the instant at which it happens in reference time
(log entry 1); the other operands are what the row's rule needs. -/

namespace Sys2Proof

/-- The two time domains of Saffron (R44). -/
inductive Dom where
  /-- Domain A. -/
  | a
  /-- Domain B. -/
  | b
  deriving DecidableEq, Repr

/-- The ports of a switch point (R86, R105): 0 = N; 1 = E; 2 = S; 3 = W; 4 = X. -/
inductive Port where
  /-- North, one row up. -/
  | n
  /-- East, one usable column to the right. -/
  | e
  /-- South, one row down. -/
  | s
  /-- West, one usable column to the left. -/
  | w
  /-- Express, eight positions away in the direction of CL_BIND.XDIR. -/
  | x
  deriving DecidableEq, Repr

/-- A link of the Lattice (R85, R99): an outgoing link of a physical cell, or the link from an edge unit into its
edge cell. -/
inductive LinkId where
  /-- The outgoing link of a physical cell at a port. -/
  | out (cell : Nat) (port : Port)
  /-- From the trigger engine into the W port of a row's column-0 cell. -/
  | westIn (row : Nat)
  /-- From the parser into the E port of a row's column-95 cell. -/
  | eastIn (row : Nat)
  deriving DecidableEq, Repr

/-- Who waits on a WAITT deadline (R74): a cell plane or a stream sequencer. -/
inductive Waiter where
  /-- The plane that holds a physical cell. -/
  | cell (cell : Nat)
  /-- An engine context, by global number. -/
  | context (ctx : Nat)
  deriving DecidableEq, Repr

/-- Where a servo measurement comes from (R49). -/
inductive TimeSource where
  /-- PTP on an Ethernet port: PROFILE (0 = delay request-response; 1 = peer delay; 2 = 802.1AS) and domainNumber. -/
  | ptp (port profile number : Nat)
  /-- Time transfer on a Nenath port. -/
  | nenath (port : Nat)
  /-- The 1PPS input. -/
  | pps
  deriving DecidableEq, Repr

/-- The request that MEMORY_REQUEST_PERFORM performs: one that waits, by its number, or a host's access to BAR4 as it arrives
(R526). -/
inductive ReqOf where
  | waiting (id : Nat)
  | barRead (off len : Nat)
  | barWrite (off : Nat) (data : List Byte)
  deriving DecidableEq, Repr

/-- A measurement of a domain's time: the source it came from and the offset measured, in 1 ns / 2^16 (R44, R49). -/
structure Measured where
  src : TimeSource
  offset : Int
  deriving DecidableEq, Repr

/-- How a frame arrives: the reference instant of its first byte, and of each later fragment its first byte's offset and
instant. -/
structure Arrival where
  first : Tick
  later : List (Nat × Tick) := []
  deriving DecidableEq, Repr

/-- The commands, in the order of the table. -/
inductive Instr where
  /-- REGISTER_WRITE (R13). A write to a register field that has no behaviour of its own stores the value under its access code. -/
  | registerWrite (t : Tick) (off width value : Nat)
  /-- REGISTER_READ_CLEAR (R15). A read of an RC register returns its value and clears it; a low-word read of a 64-bit RC register latches the high word. -/
  | registerReadClear (t : Tick) (off width : Nat)
  /-- DOMAIN_ENABLE (R44). A write of TB_DOM_CFG.ENABLE moves a domain servo to ACQUIRE when set with a source, or to FREERUN when cleared. -/
  | domainEnable (t : Tick) (dom : Dom) (on : Bool)
  /-- REACQUIRE (R48). A REACQUIRE write returns the non-selected domain to FREERUN then ACQUIRE; it is ignored for the selected domain. -/
  | reacquire (t : Tick) (dom : Dom)
  /-- DOMAIN_MEASUREMENT (R44). A servo offset measurement from PTP, a Nenath TIME flit or a 1PPS pulse updates the domain and may move it between ACQUIRE, LOCKED and HOLDOVER. -/
  | domainMeasurement (t : Tick) (dom : Dom) (m : Measured)
  /-- SOURCE_SILENT_TIMEOUT (R44). A source silent for 4 expected measurement intervals sends a LOCKED domain to HOLDOVER. -/
  | sourceSilentTimeout (t : Tick) (dom : Dom)
  /-- SEL_WRITE (R53). A write of TB_CTRL.SEL requests a domain switch, made only when the target domain is LOCKED. -/
  | selWrite (t : Tick) (sel : Dom)
  /-- SLEW_COMPLETE (R54). The residual reaches zero and SLEWING returns to 0. -/
  | slewComplete (t : Tick)
  /-- PPS_IN_PULSE (R51). A rising edge on 1PPS in sets a PPS-sourced domain's time to TB_PPS_SEC seconds and increments TB_PPS_SEC if not rewritten. -/
  | ppsInPulse (t : Tick)
  /-- PPS_OUT_RISE (R52). With PPS_OUT_EN = 1, 1PPS out launches its rising edge at each Saffron whole second. -/
  | ppsOutRise (t : Tick)
  /-- PPS_OUT_FALL (R52). 1PPS out falls after TB_PPS_CFG.WIDTH microseconds. -/
  | ppsOutFall (t : Tick)
  /-- REFCLK_LOSS (R603). The time-base reference stops; REFCLK_OK clears, the servos enter HOLDOVER and Saffron runs on the internal oscillator. -/
  | refclkLoss (t : Tick)
  /-- REFCLK_RETURN (R77). The time-base reference returns and REFCLK_OK reads 1 again. -/
  | refclkReturn (t : Tick)
  /-- RESULT_ENTER_HOLD (R59). A launched or untimed result enters its edge's egress holding stage, or waits in the core while the stage is full. -/
  | resultEnterHold (t : Tick) (edge : Nat)
  /-- HOLD_RELEASE (R22). At its release time a held result is released to depart exactly at its launch time, or is judged late under its policy. -/
  | holdRelease (t : Tick) (edge : Nat)
  /-- UNTIMED_RELEASE (R390). An untimed result is released at the first grain at which its occupancy overlaps no present or held departure. -/
  | untimedRelease (t : Tick) (edge : Nat)
  /-- EVENT_QUIET_INTERVAL_END (R620). The end of a rate-limited event's quiet interval posts one event carrying the occurrences counted in it, if any. -/
  | eventQuietIntervalEnd (t : Tick) (code unit : Nat)
  /-- REFRESH_WINDOW_START (R70). A DRAM refresh window starts on all channels of all present stacks, on the interval grid in force. -/
  | refreshWindowStart (t : Tick)
  /-- REFRESH_WINDOW_END (R71). A refresh window ends after 280 ns and requests that waited are served. -/
  | refreshWindowEnd (t : Tick)
  /-- GOVERNOR_INTERVAL (R26). Over each 1 ms interval the governor compares power and slack with limits and lowers or raises VDD_CORE or paces work. -/
  | governorInterval (t : Tick) (total : Nat) (domain : List Nat) (slack : List Int)
  /-- SLACK_HOLD_EXPIRY (R66). After margin has stayed at or above 2 % for 1 s, the raised effective floor is released. -/
  | slackHoldExpiry (t : Tick)
  /-- LINK_HANDSHAKE (R99). A link completes one handshake carrying a token from its source to its sink at the slot its rotation visits. -/
  | linkHandshake (t : Tick) (link : LinkId)
  /-- WAIT_BOUND_EXPIRY (R95). A waiting instruction's bound runs out with its condition unmet and the plane halts with the fault for the first unmet condition. -/
  | waitBoundExpiry (t : Tick) (cell : Nat)
  /-- POISON_PUSH_DEFERRED (R92). A poison token owed to a full owned queue is pushed when a place frees. -/
  | poisonPushDeferred (t : Tick) (cell : Nat) (queue : Nat)
  /-- MQ_REQUEST_ISSUE (R464). A memory request leaves its mq when the matching mp has an unreserved entry, reserving it for the response. -/
  | mqRequestIssue (t : Tick) (cell : Nat) (mq : Nat)
  /-- MEMORY_RESPONSE_ARRIVE (R98). A memory response enters mp, or is discarded for a stale epoch, or arrives as poison and may fault the issuing plane. -/
  | memoryResponseArrive (t : Tick) (cell : Nat) (mp : Nat)
  /-- NOP (R149). Cell instruction that does nothing. -/
  | nop (t : Tick) (cell : Nat)
  /-- HALT (R153). Cell instruction that halts the plane without fault. -/
  | halt (t : Tick) (cell : Nat)
  /-- ROT (R113). Cell instruction that ends the plane's turn and passes the cell to the next plane in rotation. -/
  | rot (t : Tick) (cell : Nat)
  /-- JMP (R149). Cell instruction that jumps to TARGET. -/
  | jmp (t : Tick) (cell : Nat)
  /-- BR (R145). Cell instruction that jumps when xRA COND xRB holds. -/
  | br (t : Tick) (cell : Nat)
  /-- BRF (R152). Cell instruction that jumps when FLAGS bits masked by IMM20 are not zero. -/
  | brf (t : Tick) (cell : Nat)
  /-- LOOP (R151). Cell counted loop on kK. -/
  | loopI (t : Tick) (cell : Nat)
  /-- KCYC (R151). Cell cyclic count on kK that branches on every IMM20-th execution. -/
  | kcyc (t : Tick) (cell : Nat)
  /-- FAULT (R149). Cell instruction that raises PROGRAM_FAULT with its argument. -/
  | faultI (t : Tick) (cell : Nat)
  /-- RDFLG (R149). Cell instruction that copies FLAGS into xRD. -/
  | rdflg (t : Tick) (cell : Nat)
  /-- CLRFLG (R139). Cell instruction that clears the selected FLAGS bits. -/
  | clrflg (t : Tick) (cell : Nat)
  /-- KSET (R149). Cell instruction that sets counter kRD to IMM. -/
  | kset (t : Tick) (cell : Nat)
  /-- KTOX (R149). Cell instruction that copies a counter into an x register. -/
  | ktox (t : Tick) (cell : Nat)
  /-- XTOK (R149). Cell instruction that copies xRA[31:0] into a counter. -/
  | xtok (t : Tick) (cell : Nat)
  /-- ADD (R150). Cell 64-bit addition modulo 2^64. -/
  | addR (t : Tick) (cell : Nat)
  /-- SUB (R150). Cell 64-bit subtraction modulo 2^64. -/
  | subR (t : Tick) (cell : Nat)
  /-- MUL (R150). Cell multiplication giving the low 64 bits. -/
  | mulR (t : Tick) (cell : Nat)
  /-- AND (R150). Cell bitwise AND. -/
  | andR (t : Tick) (cell : Nat)
  /-- OR (R150). Cell bitwise OR. -/
  | orR (t : Tick) (cell : Nat)
  /-- XOR (R150). Cell bitwise XOR. -/
  | xorR (t : Tick) (cell : Nat)
  /-- SHL (R150). Cell left shift by the low 6 bits. -/
  | shlR (t : Tick) (cell : Nat)
  /-- SHR (R150). Cell logical right shift. -/
  | shrR (t : Tick) (cell : Nat)
  /-- SRA (R150). Cell arithmetic right shift. -/
  | sraR (t : Tick) (cell : Nat)
  /-- MIN (R150). Cell signed 64-bit minimum. -/
  | minR (t : Tick) (cell : Nat)
  /-- MAX (R150). Cell signed 64-bit maximum. -/
  | maxR (t : Tick) (cell : Nat)
  /-- FADD (R154). Cell FP32 addition with the case table. -/
  | fadd (t : Tick) (cell : Nat)
  /-- FMUL (R154). Cell FP32 multiplication with the case table. -/
  | fmul (t : Tick) (cell : Nat)
  /-- FMAX (R155). Cell FP32 maximum. -/
  | fmax (t : Tick) (cell : Nat)
  /-- FMIN (R155). Cell FP32 minimum. -/
  | fmin (t : Tick) (cell : Nat)
  /-- CVT (R156). Cell scalar conversion between INT32 and FP32 selected by RB. -/
  | cvt (t : Tick) (cell : Nat)
  /-- ADD_IMMEDIATE (R149). Immediate form of ADD. -/
  | addImmediate (t : Tick) (cell : Nat)
  /-- SUB_IMMEDIATE (R149). Immediate form of SUB. -/
  | subImmediate (t : Tick) (cell : Nat)
  /-- MUL_IMMEDIATE (R149). Immediate form of MUL. -/
  | mulImmediate (t : Tick) (cell : Nat)
  /-- AND_IMMEDIATE (R149). Immediate form of AND. -/
  | andImmediate (t : Tick) (cell : Nat)
  /-- OR_IMMEDIATE (R149). Immediate form of OR. -/
  | orImmediate (t : Tick) (cell : Nat)
  /-- XOR_IMMEDIATE (R149). Immediate form of XOR. -/
  | xorImmediate (t : Tick) (cell : Nat)
  /-- SHL_IMMEDIATE (R149). Immediate form of SHL. -/
  | shlImmediate (t : Tick) (cell : Nat)
  /-- SHR_IMMEDIATE (R149). Immediate form of SHR. -/
  | shrImmediate (t : Tick) (cell : Nat)
  /-- SRA_IMMEDIATE (R149). Immediate form of SRA. -/
  | sraImmediate (t : Tick) (cell : Nat)
  /-- MIN_IMMEDIATE (R149). Immediate form of MIN. -/
  | minImmediate (t : Tick) (cell : Nat)
  /-- MAX_IMMEDIATE (R149). Immediate form of MAX. -/
  | maxImmediate (t : Tick) (cell : Nat)
  /-- FADD_IMMEDIATE (R149). Immediate form of FADD with IMM as FP32 bits. -/
  | faddImmediate (t : Tick) (cell : Nat)
  /-- FMUL_IMMEDIATE (R149). Immediate form of FMUL. -/
  | fmulImmediate (t : Tick) (cell : Nat)
  /-- FMAX_IMMEDIATE (R149). Immediate form of FMAX. -/
  | fmaxImmediate (t : Tick) (cell : Nat)
  /-- FMIN_IMMEDIATE (R149). Immediate form of FMIN. -/
  | fminImmediate (t : Tick) (cell : Nat)
  /-- MOVI (R149). Cell instruction loading a sign-extended immediate. -/
  | movi (t : Tick) (cell : Nat)
  /-- MOVHI (R149). Cell instruction setting the high word of xRD. -/
  | movhi (t : Tick) (cell : Nat)
  /-- RDT (R160). Cell instruction writing Saffron time into a register pair. -/
  | rdt (t : Tick) (cell : Nat)
  /-- AMAX (R157). Cell instruction writing the largest accumulator magnitude to xRD. -/
  | amax (t : Tick) (cell : Nat)
  /-- MOV (R158). Cell instruction moving one token between queues and register pairs. -/
  | mov (t : Tick) (cell : Nat)
  /-- DROP (R158). Cell instruction popping and discarding one token of any kind. -/
  | dropTok (t : Tick) (cell : Nat)
  /-- WAITQ (R159). Cell instruction that completes when a queue reaches a fill or free level. -/
  | waitq (t : Tick) (cell : Nat)
  /-- WAITT (R160). Cell instruction that completes at or after a Saffron deadline. -/
  | waitt (t : Tick) (cell : Nat)
  /-- LDS (R161). Cell load of 16 bytes from its SRAM to an operand. -/
  | lds (t : Tick) (cell : Nat)
  /-- STS (R161). Cell store of 16 bytes from an operand to its SRAM. -/
  | sts (t : Tick) (cell : Nat)
  /-- LDX (R161). Cell load of 8 bytes into an x register. -/
  | ldx (t : Tick) (cell : Nat)
  /-- STX (R161). Cell store of an x register to SRAM. -/
  | stx (t : Tick) (cell : Nat)
  /-- ACCLD (R162). Cell load of the accumulators from 64 bytes of SRAM, clearing APSN. -/
  | accld (t : Tick) (cell : Nat)
  /-- ACCST (R162). Cell store of the accumulators to SRAM. -/
  | accst (t : Tick) (cell : Nat)
  /-- MLD (R163). Cell 16-byte load request placed in an mq queue. -/
  | mld (t : Tick) (cell : Nat)
  /-- MST (R163). Cell 16-byte store request placed in an mq queue, optionally asking completion. -/
  | mst (t : Tick) (cell : Nat)
  /-- WAVE (R166). Cell MAC-slab wave adding a tile product into the accumulators. -/
  | wave (t : Tick) (cell : Nat)
  /-- AADD (R169). Cell addition of a four-lane token into one accumulator group. -/
  | aadd (t : Tick) (cell : Nat)
  /-- AOUT (R169). Cell push of one accumulator group as a token. -/
  | aout (t : Tick) (cell : Nat)
  /-- ACT (R171). Cell rescale, saturation and look-up of the 16 accumulators into output tokens. -/
  | act (t : Tick) (cell : Nat)
  /-- JOIN (R108). Steering instruction passing COUNT+1 data tokens under a control token. -/
  | joinI (t : Tick) (cell : Nat)
  /-- ROUTE (R108). Steering instruction sending governed data tokens to output SEL. -/
  | routeTok (t : Tick) (cell : Nat)
  /-- GATE (R108). Steering instruction passing or discarding governed tokens by PASS. -/
  | gateTok (t : Tick) (cell : Nat)
  /-- MERGE (R108). Steering instruction taking governed tokens from input SEL. -/
  | mergeTok (t : Tick) (cell : Nat)
  /-- FIRST (R111). Steering instruction taking the first head token among its inputs and counting a timing-dependent choice. -/
  | firstTok (t : Tick) (cell : Nat)
  /-- RUN_WRITE (R622). A write of CL_CTRL.RUN starts the planes in rotation, is refused for a bad configuration, or halts them after the current instruction. -/
  | runWrite (t : Tick) (cell : Nat) (run : Bool)
  /-- EDGE_STOP_WRITE (R118). A write of CL_CTRL.EDGE_STOP stops or resumes token entry from the edge unit to the cell. -/
  | edgeStopWrite (t : Tick) (cell : Nat) (stop : Bool)
  /-- CELL_RESET (R121). A write of CL_CTRL.CELL_RESET clears the cell's queues, registers and counters and halts every plane. -/
  | cellReset (t : Tick) (cell : Nat)
  /-- CL_BIND_WRITE (R119). A write to CL_BIND that changes EPOCH discards tokens of other epochs from queues and switch point. -/
  | clBindWrite (t : Tick) (cell : Nat) (value : Word)
  /-- CL_IND_DATA_WRITE (R129). A write through the indirect window updates code, registers, tables or slot entries, or is refused. -/
  | clIndDataWrite (t : Tick) (cell : Nat) (data : DWord)
  /-- LDRAIN_GO (R513). A write of RV_LDRAIN.GO starts the timing of a Lattice drain for a binding. -/
  | ldrainGo (t : Tick) (bind : Nat)
  /-- LDRAIN_DONE (R513). Every cell of the binding shows DRAINED within the bound and BUSY returns to 0. -/
  | ldrainDone (t : Tick)
  /-- LDRAIN_BOUND_EXPIRY (R513). The drain bound runs out; Clove clears RUN, resets undrained cells and records the failure. -/
  | ldrainBoundExpiry (t : Tick)
  /-- DISPATCH_STORE (R256). A store to a dispatch window slot writes an instruction and sets its presence bit, or is discarded as overrun, bad write or stale epoch. -/
  | dispatchStore (t : Tick) (win off : Nat) (data : List Byte) (bind epoch : Nat)
  /-- COMMAND_START (R257). The sequencer starts a command once all its slots through the sealing point are present, latching the checkpoint. -/
  | commandStart (t : Tick) (ctx : Nat)
  /-- ENGINE_INSTRUCTION_COMPLETE (R261). An engine instruction's reads are done and writes issued, and the engine arbitrates the next instruction among ready contexts. -/
  | engineInstructionComplete (t : Tick) (ctx : Nat)
  /-- COMMAND_COMPLETE (R261). A command completes when all its writes are visible; its slots are released and CX_DONE increments. -/
  | commandComplete (t : Tick) (ctx : Nat)
  /-- CMD_TIMEOUT (R263). A command's timeout expires before its writes are visible; the context faults and Clove takes the engine. -/
  | cmdTimeout (t : Tick) (ctx : Nat)
  /-- SEQ_NOP (R267). Sequencer instruction that does nothing. -/
  | seqNop (t : Tick) (ctx : Nat)
  /-- SEAL (R267). Sequencer sealing point with no action. -/
  | seal (t : Tick) (ctx : Nat)
  /-- SEQ_LOOP (R270). Sequencer counted branch on a loop counter. -/
  | seqLoop (t : Tick) (ctx : Nat)
  /-- SEQ_WAITT (R268). Sequencer wait for a Saffron time. -/
  | seqWaitt (t : Tick) (ctx : Nat)
  /-- SEQ_WAITQ (R269). Sequencer wait until a counter or memory word reaches a count. -/
  | seqWaitq (t : Tick) (ctx : Nat)
  /-- WAITQ_POLL (R269). Every 100 ns a waiting WAITQ re-reads its memory word. -/
  | waitqPoll (t : Tick) (ctx : Nat)
  /-- SIGNAL (R271). Sequencer fence followed by a store of a signal word. -/
  | signalStore (t : Tick) (ctx : Nat)
  /-- FENCE (R267). Sequencer wait until earlier writes of the command are visible. -/
  | fence (t : Tick) (ctx : Nat)
  /-- SETREF (R272). Sequencer instruction setting CX_REF. -/
  | setref (t : Tick) (ctx : Nat)
  /-- MAT (R274). Matrix array matrix multiplication with mode, steps and output conversion. -/
  | mat (t : Tick) (ctx : Nat)
  /-- VEW (R279). Vector element-wise operation selected by OPF. -/
  | vew (t : Tick) (ctx : Nat)
  /-- VRED (R279). Vector per-row reduction. -/
  | vred (t : Tick) (ctx : Nat)
  /-- SOFTMAX (R282). Vector per-row softmax. -/
  | softmax (t : Tick) (ctx : Nat)
  /-- NORM (R282). Vector per-row RMS or layer normalisation. -/
  | normV (t : Tick) (ctx : Nat)
  /-- VQUANT (R279). Vector encoding into a grouped output with scale history. -/
  | vquant (t : Tick) (ctx : Nat)
  /-- TBUILD (R284). Dequantisation engine builds CB4 product tables. -/
  | tbuild (t : Tick) (ctx : Nat)
  /-- SAMPLE (R287). Sampling engine draws a token from logits with a seeded generator. -/
  | sampleTok (t : Tick) (ctx : Nat)
  /-- ALLREDUCE (R288). Reduction engine all-reduce on a fixed tree. -/
  | allreduce (t : Tick) (ctx : Nat)
  /-- REDSCAT (R288). Reduction engine reduce-scatter. -/
  | redscat (t : Tick) (ctx : Nat)
  /-- ALLGATHER (R288). Reduction engine all-gather. -/
  | allgather (t : Tick) (ctx : Nat)
  /-- BCAST (R288). Reduction engine broadcast. -/
  | bcast (t : Tick) (ctx : Nat)
  /-- CRC (R293). Check engine CRC computation. -/
  | crc (t : Tick) (ctx : Nat)
  /-- IPSUM (R294). Check engine one's-complement checksum. -/
  | ipsum (t : Tick) (ctx : Nat)
  /-- SHAKE (R295). Check engine SHAKE256 digest. -/
  | shake (t : Tick) (ctx : Nat)
  /-- SLHVER (R295). Check engine SLH-DSA signature verification. -/
  | slhver (t : Tick) (ctx : Nat)
  /-- SLHSIGN (R295). Check engine signing with the device identity key. -/
  | slhsign (t : Tick) (ctx : Nat)
  /-- COPY (R297). Data mover copy, optionally timed to another chip or host. -/
  | copyMem (t : Tick) (ctx : Nat)
  /-- COPY2D (R296). Data mover two-dimensional copy. -/
  | copy2d (t : Tick) (ctx : Nat)
  /-- GATHER (R296). Data mover gather from a list of addresses. -/
  | gather (t : Tick) (ctx : Nat)
  /-- SCATTER (R296). Data mover scatter to a list of addresses. -/
  | scatter (t : Tick) (ctx : Nat)
  /-- FILL (R296). Data mover fill with a 16-byte pattern. -/
  | fillMem (t : Tick) (ctx : Nat)
  /-- CX_HALT (R301). CX_CTRL.HALT stops the context at the next instruction boundary. -/
  | cxHalt (t : Tick) (ctx : Nat)
  /-- CX_GO (R301). CX_CTRL.GO resumes a HALTED context. -/
  | cxGo (t : Tick) (ctx : Nat)
  /-- CX_SKIP (R301). CX_CTRL.SKIP releases the present command of a FAULTED or HALTED context. -/
  | cxSkip (t : Tick) (ctx : Nat)
  /-- CX_RESET (R301). CX_CTRL.RESET stops the context, clears presence bits and counters and returns it to IDLE. -/
  | cxReset (t : Tick) (ctx : Nat)
  /-- SAMPLE_PRESENT (R303). A sample group is presented to the trigger engine; comparators, conditions, feature and condition tokens and drift anchors are evaluated. -/
  | samplePresent (t : Tick) (lane : Nat)
  /-- FEATURE_TOKEN_SEND (R310). A feature or condition token enters the west-edge port 4.0 ns after its newest sample, or is held under EDGE_STOP. -/
  | featureTokenSend (t : Tick) (row slot : Nat)
  /-- TG_EDGE_TOKEN_RECEIVE (R313). A token from the Lattice west edge is paired with a period and becomes an event, a non-event, a SAT mark or a discard. -/
  | tgEdgeTokenReceive (t : Tick) (row : Nat)
  /-- LVDS_INPUT_EDGE (R322). An active edge on an LVDS trigger input becomes a stamped event. -/
  | lvdsInputEdge (t : Tick) (input : Nat) (level : Bool)
  /-- COMBINER_EVENT_RECEIVE (R317). An event reaches a combiner; one later than its stamp plus ALIGN is counted late. -/
  | combinerEventReceive (t : Tick) (comb : Nat)
  /-- COMBINER_DECIDE (R318). At u + ALIGN a combiner decides instant u and may accept a trigger, suppress events or start mask tests. -/
  | combinerDecide (t : Tick) (comb : Nat)
  /-- DEAD_TIME_END (R319). A combiner's dead interval ends at E once holdoff has passed and its stream is out of backpressure. -/
  | deadTimeEnd (t : Tick) (comb : Nat)
  /-- MARK_RECORD_DELIVER (R321). The record former delivers a MARK record to the stream buffer at T + ALIGN + 24 ns. -/
  | markRecordDeliver (t : Tick) (comb : Nat)
  /-- SAMPLE_REACH_CHECK_POINT (R324). A sample reaches its stream's check point, is recorded per DMODE and checked against a running mask. -/
  | sampleReachCheckPoint (t : Tick) (chan : Nat)
  /-- STREAM_HEAD_POLL (R329). Every 1 µs a memory-ring stream reads the reader's consumed count. -/
  | streamHeadPoll (t : Tick) (stream : Nat)
  /-- STREAM_TIME_WRAP (R339). A stream emits a TIME record when SEC[15:0] wraps to 0. -/
  | streamTimeWrap (t : Tick) (stream : Nat)
  /-- TSTART (R340). Trigger instruction starting a stream with a START TIME record. -/
  | tstart (t : Tick) (ctx : Nat)
  /-- TSTOP (R340). Trigger instruction disarming combiners and completing when the last record is visible. -/
  | tstop (t : Tick) (ctx : Nat)
  /-- TARM (R340). Trigger instruction arming combiners. -/
  | tarm (t : Tick) (ctx : Nat)
  /-- TDISARM (R340). Trigger instruction disarming combiners. -/
  | tdisarm (t : Tick) (ctx : Nat)
  /-- TREARM (R340). Trigger instruction clearing STOPPED on a channel. -/
  | trearm (t : Tick) (ctx : Nat)
  /-- TSOFT (R340). Trigger instruction sending one software event to a combiner. -/
  | tsoft (t : Tick) (ctx : Nat)
  /-- SN_ENABLE (R303). A write of SN_CTRL.EN starts or stops a channel's sample count. -/
  | snEnable (t : Tick) (chan : Nat) (on : Bool)
  /-- SN_REARM (R327). A write of SN_CTRL.REARM clears STOPPED. -/
  | snRearm (t : Tick) (chan : Nat)
  /-- LANE_ENABLE (R349). A write of LN_CTRL.EN starts a lane in ACQUIRE or sends it OFF. -/
  | laneEnable (t : Tick) (lane : Nat) (on : Bool)
  /-- RETRAIN (R349). LN_CTRL.RETRAIN discards trained settings and returns the lane to ACQUIRE. -/
  | retrain (t : Tick) (lane : Nat)
  /-- TX_SLEEP (R369). A write of TX_SLEEP sleeps or wakes a lane's transmit half. -/
  | txSleep (t : Tick) (lane : Nat) (sleep : Bool)
  /-- RX_SLEEP (R349). A write of RX_SLEEP sends the lane to SLEEP or wakes it to ACQUIRE. -/
  | rxSleep (t : Tick) (lane : Nat) (sleep : Bool)
  /-- LANE_LOCK (R348). A lane in ACQUIRE locks and moves to EQUALISE, MEASURE or UP. -/
  | laneLock (t : Tick) (lane : Nat)
  /-- LANE_LOCK_LOSS (R349). A lane loses lock and returns to ACQUIRE. -/
  | laneLockLoss (t : Tick) (lane : Nat)
  /-- TRAINING_FRAME_RECEIVE (R351). A training request or status arrives and the tap handshake advances. -/
  | trainingFrameReceive (t : Tick) (lane : Nat) (req req2 status status2 : Nat)
  /-- EYE_MEASURE (R371). Every 10 ms the receiver measures its eye; meeting targets sends DONE. -/
  | eyeMeasure (t : Tick) (lane : Nat) (width height : Nat)
  /-- LANE_TRAIN_TIMEOUT (R353). The 280 ms training limit is reached and the lane enters FAILED. -/
  | laneTrainTimeout (t : Tick) (lane : Nat)
  /-- MEASURE_DONE (R361). A sensor lane finishes its 20 µs latency measurement and enters UP. -/
  | measureDone (t : Tick) (lane : Nat) (latency : Tick)
  /-- SIGNAL_LOSS (R370). A receive half loses its far-end signal, sets LOS and stays in ACQUIRE. -/
  | signalLoss (t : Tick) (lane : Nat)
  /-- CODEWORD_RECEIVE (R356). A Nenath lane receives a codeword, corrects or marks it uncorrectable. -/
  | codewordReceive (t : Tick) (lane : Nat) (bytes : List Byte)
  /-- SENSOR_CHARACTER_RECEIVE (R358). A sensor lane decodes an 8b/10b character and advances its block framing, time symbols and marks. -/
  | sensorCharacterReceive (t : Tick) (lane : Nat) (code : Nat)
  /-- GROUP_FIX (R362). A write of LN_SL_GRP.FIX computes and writes the group's deskew offset. -/
  | groupFix (t : Tick) (group : Nat)
  /-- EM_ENABLE (R381). A write of EM_CTRL.EN brings an Ethernet port up or down. -/
  | emEnable (t : Tick) (port : Nat) (on : Bool)
  /-- RESTART_AN (R403). EM_CTRL.RESTART_AN restarts auto-negotiation. -/
  | restartAn (t : Tick) (port : Nat)
  /-- LINK_UP (R405). An Ethernet port's link comes up. -/
  | linkUp (t : Tick) (port : Nat) (twTx twRx : Nat)
  /-- LINK_DOWN (R393). An Ethernet port's link goes down and held frames are discarded. -/
  | linkDown (t : Tick) (port : Nat)
  /-- FRAME_RECEIVE (R384). A frame arrives at a port and the MAC reaches its verdict.  `later`: of each fragment after the first,
  the offset of its first byte and that byte's arrival; `assyAt`: when its reassembly has failed. -/
  | frameReceive (t : Tick) (port : Nat) (first : Tick) (bytes : List Byte) (later : List (Nat × Tick)) (assyAt : Option Tick)
  /-- PFC_FRAME_RECEIVE (R392). A received PFC frame pauses the named priorities. -/
  | pfcFrameReceive (t : Tick) (port : Nat) (times : List (Nat × Nat))
  /-- PFC_PAUSE_EXPIRY (R392). A received pause time runs out and the priority resumes. -/
  | pfcPauseExpiry (t : Tick) (port : Nat) (prio : Nat)
  /-- HOST_PATH_FRAME_WRITE (R387). An accepted unclaimed frame is written into its host ring, truncated or dropped for lack of descriptors. -/
  | hostPathFrameWrite (t : Tick) (port : Nat)
  /-- PFC_FRAME_SEND (R388). The owned count crossing LOW or HIGH sends a PFC frame. -/
  | pfcFrameSend (t : Tick) (port : Nat)
  /-- PFC_REPEAT (R388). Half the pause time passes and the PFC frame is repeated. -/
  | pfcRepeat (t : Tick) (port : Nat)
  /-- PREEMPT_VERIFY (R391). The preemption verify procedure completes and activates preemption. -/
  | preemptVerify (t : Tick) (port : Nat) (ok : Bool)
  /-- LPI_ENTER (R398). After LPI_DELAY idle the transmitter enters low-power idle. -/
  | lpiEnter (t : Tick) (port : Nat)
  /-- LPI_WAKE (R398). The transmitter wakes for an untimed frame or TW_TX before a launched occupancy. -/
  | lpiWake (t : Tick) (port : Nat)
  /-- AUTO_RATE_INTERVAL (R399). At each INTERVAL the port may retrain one step down or up. -/
  | autoRateInterval (t : Tick) (port : Nat) (txUtil rxUtil : Nat)
  /-- SC_FRAME_RECEIVE (R401). SC0 receives a frame into its host ring. -/
  | scFrameReceive (t : Tick) (bytes : List Byte)
  /-- SC_FRAME_TRANSMIT (R401). SC0 sends a frame under CSMA/CD. -/
  | scFrameTransmit (t : Tick)
  /-- SC_COLLISION (R401). A collision triggers back-off, or drops after 16 or a late collision. -/
  | scCollision (t : Tick) (sent : Nat)
  /-- MDIO_GO (R406). SC_MDIO.GO runs an MDIO access to the PHY. -/
  | mdioGo (t : Tick) (value : Word) (phyData : Nat)
  /-- HEADER_WALK (R409). The parser walks a frame's header nodes as its bytes arrive. -/
  | headerWalk (t : Tick) (port : Nat) (arrival : Arrival) (bytes : List Byte)
  /-- FIELD_TOKEN_SEND (R413). A field token enters the east-edge port at its stamp plus 18.0 ns. -/
  | fieldTokenSend (t : Tick) (row slot : Nat)
  /-- DECISION_RECEIVE (R417). A decision token from the east edge is matched to a claimed frame and may start a reply. -/
  | decisionReceive (t : Tick) (row : Nat)
  /-- REPLY_FILL_COMPLETE (R420). A fill unit completes a reply 8.0 ns after start and hands it to the holding stage. -/
  | replyFillComplete (t : Tick) (port : Nat)
  /-- VERDICT_APPLY (R425). The incoming frame's bad verdict reaches the composer, withdrawing, stomping or orphaning its replies. -/
  | verdictApply (t : Tick) (port : Nat)
  /-- PSTART (R429). Parser instruction starting walks on named ports. -/
  | pstart (t : Tick) (ctx : Nat)
  /-- PSTOP (R429). Parser instruction stopping claims and completing when replies are done. -/
  | pstop (t : Tick) (ctx : Nat)
  /-- TLOAD (R422). Parser instruction loading a template once no held reply uses it. -/
  | tload (t : Tick) (ctx : Nat)
  /-- PSEND (R429). Parser instruction sending a template frame. -/
  | psend (t : Tick) (ctx : Nat)
  /-- NF_ENABLE (R433). A write of NF_CTRL.EN starts a port training or takes it down. -/
  | nfEnable (t : Tick) (port : Nat) (on : Bool)
  /-- NF_RETRAIN (R454). NF_CTRL.RETRAIN retrains every lane of the port. -/
  | nfRetrain (t : Tick) (port : Nat)
  /-- PORT_UP (R433). Enough lanes UP and identities exchanged move a port to UP. -/
  | portUp (t : Tick) (port : Nat) (peer peerPort : Nat)
  /-- PORT_TRAIN_TIMEOUT (R433). A port training for 280 ms without success goes DOWN. -/
  | portTrainTimeout (t : Tick) (port : Nat)
  /-- LANES_BELOW_MIN (R433). Active lanes fall below MIN_LANES and the port enters RECOVERING. -/
  | lanesBelowMin (t : Tick) (port : Nat)
  /-- PORT_GRACE_EXPIRY (R433). A port RECOVERING for RECOVERY_GRACE goes DOWN. -/
  | portGraceExpiry (t : Tick) (port : Nat)
  /-- DATA_FLIT_RECEIVE (R436). A DATA flit is accepted in sequence or discarded, with NAK and replay handling. -/
  | dataFlitReceive (t : Tick) (port : Nat) (flit : List Byte)
  /-- RECOVER (R433). A RECOVER control flit moves the port to RECOVERING. -/
  | recoverFlit (t : Tick) (port : Nat) (flit : List Byte)
  /-- RESUMED (R437). A RESUMED control flit starts the ACK exchange that returns the port to UP. -/
  | resumedFlit (t : Tick) (port : Nat) (flit : List Byte)
  /-- LANE_MAP (R434). A LANE_MAP control flit switches the active lane mask and replays unacknowledged flits. -/
  | laneMap (t : Tick) (port : Nat) (flit : List Byte)
  /-- TIME_FLIT_SEND (R449). Every PERIOD µs a port sends a TIME flit with its stamps. -/
  | timeFlitSend (t : Tick) (port : Nat)
  /-- TIME_FLIT_RECEIVE (R449). A TIME flit gives delay and offset to the Nenath domain. -/
  | timeFlitReceive (t : Tick) (port : Nat) (flit : List Byte)
  /-- READ (R439). A READ request reaches its target or a router and is performed or answered. -/
  | readMsg (t : Tick) (src : Nat)
  /-- WRITE (R439). A WRITE request reaches its target and is performed or answered. -/
  | writeMsg (t : Tick) (src : Nat)
  /-- READ_DATA (R439). A READ_DATA answer returns to the issuer and completes the request. -/
  | readData (t : Tick) (src : Nat)
  /-- WRITE_ACK (R439). A WRITE_ACK answer completes a write, COLL or probe request. -/
  | writeAck (t : Tick) (src : Nat)
  /-- EPOCH_MISMATCH (R440). The answer for a stale-epoch request reaches the issuer. -/
  | epochMismatch (t : Tick) (src : Nat)
  /-- UNMAPPED (R440). The answer for a request to an unmapped offset reaches the issuer. -/
  | unmappedAns (t : Tick) (src : Nat)
  /-- NO_ROUTE (R445). A router answers an unroutable message, and the answer faults the issuer. -/
  | noRouteAns (t : Tick) (src : Nat)
  /-- RECOVERING (R451). A RECOVERING answer marks the destination RECOVERING and holds its messages. -/
  | recoveringAns (t : Tick) (src : Nat)
  /-- PROBE (R450). A PROBE reaches its target and is answered READY or RECOVERING. -/
  | probeMsg (t : Tick) (src : Nat)
  /-- PROBE_SEND (R451). Every NF_PROBE µs the issuer probes a RECOVERING destination. -/
  | probeSend (t : Tick) (dest : Nat)
  /-- READY (R451). A READY answer returns the destination to READY and resends held messages. -/
  | readyMsg (t : Tick) (src : Nat)
  /-- COLL (R289). A collective message reaches a tree member and is combined or discarded. -/
  | collMsg (t : Tick) (src : Nat)
  /-- DEST_GRACE_EXPIRY (R453). A destination RECOVERING for RECOVERY_GRACE becomes LOST and held messages fail. -/
  | destGraceExpiry (t : Tick) (dest : Nat)
  /-- NF_DEST_WRITE (R455). A write of 0 to a LOST NF_DEST entry sets READY. -/
  | nfDestWrite (t : Tick) (dest : Nat) (value : Word)
  /-- INJECT_HOLD (R447). A write of NF_GLB_CTRL.INJECT_HOLD stops or resumes new requests and probes. -/
  | injectHold (t : Tick) (on : Bool)
  /-- LOCAL_RECOVERING (R450). A write of NF_GLB_CTRL.LOCAL_RECOVERING makes the chip answer RECOVERING or serve again. -/
  | localRecovering (t : Tick) (on : Bool)
  /-- MEMORY_REQUEST_PERFORM (R240). A request reaches a local target, is checked against its region's epoch and is performed or answered. -/
  | memoryRequestPerform (t : Tick) (req : ReqOf)
  /-- PATROL_SCRUB (R235). Patrol scrub reads words on unclaimed channel turns and writes back corrections. -/
  | patrolScrub (t : Tick) (stack addr : Nat)
  /-- DRAM_TEMP_SAMPLE (R236). Every 1 ms the DRAM junction temperatures are sampled. -/
  | dramTempSample (t : Tick) (temps : List Nat)
  /-- RG_CFG_WRITE (R239). A region write setting VALID is accepted or refused with RG_REFUSED. -/
  | rgCfgWrite (t : Tick) (entry : Nat) (value : Word)
  /-- RING_POLL (R530). Every POLL ns the Trogar reads descriptors of an enabled ring and updates its owned count. -/
  | ringPoll (t : Tick) (ring : Nat)
  /-- TRANSMIT_FRAME_ENQUEUE (R538). A transmit descriptor's frame enters its port's holding stage. -/
  | transmitFrameEnqueue (t : Tick) (ring : Nat)
  /-- RECORD_BUFFER_COAL (R536). COAL µs after its first record a record buffer is returned. -/
  | recordBufferCoal (t : Tick) (ring : Nat)
  /-- RING_DISABLE (R533). A write of HI_RING_CFG.EN = 0 stops all claims and clears OWNER. -/
  | ringDisable (t : Tick) (ring : Nat)
  /-- MSIX_HOLDOFF_EXPIRY (R542). At the end of a ring's holdoff the returns inside it signal once. -/
  | msixHoldoffExpiry (t : Tick) (ring : Nat)
  /-- MSIX_UNMASK (R542). Unmasking a vector with its pending bit set signals it. -/
  | msixUnmask (t : Tick) (vector : Nat)
  /-- RA_REQUEST (R544). A remote access datagram is served and answered by firmware. -/
  | raRequest (t : Tick) (bytes : List Byte)
  /-- PW_ON_WRITE (R550). A write of PW_CTRL.ON powers a domain on, or off if its switch rule allows. -/
  | pwOnWrite (t : Tick) (dom : Nat) (on : Bool)
  /-- PW_RESET (R557). PW_CTRL.RESET resets a domain unless a binding or Clove holds it. -/
  | pwReset (t : Tick) (dom : Nat)
  /-- DOMAIN_POWER_SETTLED (R550). A domain finishes powering on or off. -/
  | domainPowerSettled (t : Tick) (dom : Nat)
  /-- AUTO_POWER_OFF (R552). With AUTO = 1, the release of a domain's last held resource writes ON = 0. -/
  | autoPowerOff (t : Tick) (dom : Nat)
  /-- FLOOR_BIND_WRITE (R553). A write of PW_FLOOR_BIND sets a binding's floor and raises VDD_CORE to the new effective floor. -/
  | floorBindWrite (t : Tick) (bind : Nat) (value : Word)
  /-- PW_LIMIT_WRITE (R554). A write of PW_LIMIT sets the power limit unless it would force step 3. -/
  | pwLimitWrite (t : Tick) (value : Word)
  /-- THERMAL_SAMPLE (R555). Every 100 µs logic junction is read and thermal pacing or trip applied. -/
  | thermalSample (t : Tick) (temps : List Int)
  /-- AVS_TRANSACTION_FAIL (R602). An AVSBus transaction fails three times; rails are treated as fixed and work is paced. -/
  | avsTransactionFail (t : Tick)
  /-- AVS_RETRY (R602). Every 1 ms the governor retries AVSBus and ends pacing on success. -/
  | avsRetry (t : Tick) (ok : Bool)
  /-- PORST (R556). porst_n going low, or a pwr_good fall, holds a cold reset; its rise starts boot. -/
  | porst (t : Tick) (level : Bool) (pwrGood : Bool)
  /-- PERST (R556). perst_n going low starts a warm reset outside hostless operation. -/
  | perst (t : Tick)
  /-- GL_RESET_WARM (R570). A keyed write of GL_RESET.WARM starts a warm reset. -/
  | glResetWarm (t : Tick) (value : Word)
  /-- BOOT_PHASE_COMPLETE (R558). A start-up phase completes and the next begins, or boot stops as failed. -/
  | bootPhaseComplete (t : Tick) (ok : Bool) (slotB : Bool) (failedCells : List Nat) (chFail : List Nat)
  /-- FIXED_ONLY_WRITE (R481). A write of FIXED_ONLY starts a DET_SIG recompute unless a binding holds resources. -/
  | fixedOnlyWrite (t : Tick) (on : Bool)
  /-- DET_SIG_COMPUTED (R481). The DET_SIG recompute finishes and SIG_BUSY clears. -/
  | detSigComputed (t : Tick)
  /-- MEAS_GO (R564). SE_MEAS_CTRL.GO measures an image into a binding's log entry. -/
  | measGo (t : Tick) (value : Word)
  /-- MEAS_CLEAR (R564). SE_MEAS_CTRL.CLEAR empties a measurement log entry. -/
  | measClear (t : Tick) (value : Word)
  /-- MEASUREMENT_COMPLETE (R564). A measurement finishes and writes its log entry. -/
  | measurementComplete (t : Tick)
  /-- ATT_GO (R565). SE_ATT_CTRL.GO builds an attestation report. -/
  | attGo (t : Tick)
  /-- ATTESTATION_COMPLETE (R565). The report's last byte is visible and status reads 2. -/
  | attestationComplete (t : Tick)
  /-- TAMPER_FIRE (R567). A tamper sensor fires; the seed is zeroised and the part held in cold reset. -/
  | tamperFire (t : Tick) (sensor : Nat)
  /-- ENGINE_DRAIN_COMPLETE (R500). A held engine drains within the bound and Clove goes to replay. -/
  | engineDrainComplete (t : Tick) (eng : Nat)
  /-- ENGINE_DRAIN_BOUND_EXPIRY (R501). The engine drain bound runs out; Clove isolates the scope and takes dump image 0. -/
  | engineDrainBoundExpiry (t : Tick) (eng : Nat)
  /-- SCAN_UNIT_TIMEOUT (R503). A dump unit not read within RV_SCAN_TIMEOUT is recorded UNREADABLE. -/
  | scanUnitTimeout (t : Tick) (unit : Nat)
  /-- DUMP_IMAGE_COMPLETE (R504). A dump image has been written to the dump ring. -/
  | dumpImageComplete (t : Tick) (units : List (Nat × List Byte))
  /-- SCOPE_RESET_COMPLETE (R501). The 50 µs scope reset ends and the pattern check starts. -/
  | scopeResetComplete (t : Tick) (eng : Nat)
  /-- SCOPE_CHECK_COMPLETE (R501). The scope check ends; a pass leads to image 1 and replay, a failure to chip-level recovery. -/
  | scopeCheckComplete (t : Tick) (eng : Nat) (ok : Bool)
  /-- CONTEXT_REPLAY_START (R507). Clove restores the next active context's checkpoint and runs its command alone. -/
  | contextReplayStart (t : Tick) (eng : Nat)
  /-- ENGINE_RELEASE (R507). After the last replay Clove releases the engine and contexts continue. -/
  | engineRelease (t : Tick) (eng : Nat)
  /-- CELL_PATTERN_TEST (R512). After LINK_SEQ Clove tests both cells of the link and may mark one failed. -/
  | cellPatternTest (t : Tick) (cellA cellB : Nat) (okA okB : Bool)
  /-- CHIP_RECOVER (R519). RV_CTRL.CHIP_RECOVER, or a failed scope check, starts a chip-level recovery. -/
  | chipRecover (t : Tick)
  /-- CHIP_RECOVERY_PHASE_COMPLETE (R519). A phase of the chip-level recovery ends and the next begins. -/
  | chipRecoveryPhaseComplete (t : Tick) (ok : Bool)
  /-- EXTEST (R573). TAP instruction driving the boundary-scan balls and holding their edges. -/
  | extest (t : Tick) (dr : Nat)
  /-- IDCODE (R572). TAP instruction selecting the identification register. -/
  | idcode (t : Tick) (dr : Nat)
  /-- SAMPLE_PRELOAD (R572). TAP instruction sampling the boundary balls. -/
  | samplePreload (t : Tick) (dr : Nat)
  /-- CLAMP (R573). TAP instruction holding the boundary balls at preloaded values. -/
  | clamp (t : Tick) (dr : Nat)
  /-- HIGHZ (R573). TAP instruction placing boundary outputs in high impedance. -/
  | highz (t : Tick) (dr : Nat)
  /-- BYPASS (R572). TAP instruction selecting the bypass register. -/
  | bypass (t : Tick) (dr : Nat)
  /-- DBGREQ (R575). Update-DR of the DBGREQ register starts one debug memory or register access. -/
  | dbgreq (t : Tick) (addr : DWord) (data : QWord) (byteEn : Nat) (write : Bool)
  /-- DEBUG_ACCESS_COMPLETE (R575). A debug access finishes and its STATUS becomes done or error. -/
  | debugAccessComplete (t : Tick)
  /-- DB_HALT (R577). DB_CMD HALT halts a cell plane, context, binding or part at its next boundary. -/
  | dbHalt (t : Tick) (value : Word)
  /-- DB_GO (R577). DB_CMD GO releases a debug halt. -/
  | dbGo (t : Tick) (value : Word)
  /-- DB_STEP (R577). DB_CMD STEP executes exactly one instruction and halts again. -/
  | dbStep (t : Tick) (value : Word)
  /-- DB_DUMP (R584). DB_DUMP.GO takes a dump image of an idle or halted engine. -/
  | dbDump (t : Tick) (value : Word)
  /-- BREAKPOINT_TIME_MATCH (R582). A TYPE 5 breakpoint fires at the first Saffron instant in its window. -/
  | breakpointTimeMatch (t : Tick) (bp : Nat)
  /-- LIFETIME_SAMPLE (R586). Every 100 µs junction, voltage and slack are sampled into the accumulators. -/
  | lifetimeSample (t : Tick) (junction : Int) (vcore : Nat) (slack : Int)
  /-- LIFETIME_AGGREGATE (R586). Every 60 s the aggregator folds accumulators into the other image copy and writes a minute record. -/
  | lifetimeAggregate (t : Tick) (writeOk : Bool)
  /-- AGG_NOW (R586). LF_CTRL.AGG_NOW starts an aggregation at once and restarts the interval. -/
  | aggNow (t : Tick) (writeOk : Bool)
  /-- WAITT_DEADLINE (R74). Saffron time reaches the deadline of a waiting cell or sequencer WAITT and the instruction completes within 4 ns. -/
  | waittDeadline (t : Tick) (who : Waiter)
  /-- UNDEFINED_CELL_OPCODE (R135). A cell instruction whose opcode is not in the opcode table issues and raises INVALID_OPCODE. -/
  | undefinedCellOpcode (t : Tick) (cell : Nat)
  /-- UNDEFINED_ENGINE_OPCODE (R252). An engine instruction with an opcode outside its engine's table or in 0x08 to 0x0F starts and ends in INVALID_OPCODE. -/
  | undefinedEngineOpcode (t : Tick) (ctx : Nat)
  /-- SIGNAL_RETURN (R370). The far-end signal returns to a receive half that shows LOS, clearing LOS and letting the lane acquire again. -/
  | signalReturn (t : Tick) (lane : Nat)
  /-- TX_HALF_AWAKE (R369). A waking transmit half becomes usable and TX_AWAKE reads 1 within the guaranteed wake time. -/
  | txHalfAwake (t : Tick) (lane : Nat)
  /-- IDLE_FLIT_RECEIVE (R436). An IDLE flit arrives carrying ACK, NAK and credit returns, or is discarded for a bad CRC and counted. -/
  | idleFlitReceive (t : Tick) (port : Nat) (flit : List Byte)
  /-- HOST_LINK_UP (R547). The PCIe link trains up and HI_STATUS.LINK_UP becomes 1, making host memory mapped again. -/
  | hostLinkUp (t : Tick) (speed lanes : Nat)
  /-- HOST_LINK_DOWN (R227). The PCIe link goes down, HI_STATUS.LINK_UP clears and host-memory offsets become unmapped. -/
  | hostLinkDown (t : Tick)
  /-- PPS_IN_LOSS (R77). No 1PPS input pulse is seen for 1.1 s and PPS_IN_OK returns to 0. -/
  | ppsInLoss (t : Tick)
  /-- PARTNER_LOW_POWER_IDLE (R405). The link partner enters or leaves low-power idle and EM_STATUS.RX_LPI and EM_LPI_RX_NS follow. -/
  | partnerLowPowerIdle (t : Tick) (port : Nat) (idle : Bool)
  /-- TAP_RESET (R572). trst_n or the TAP state machine enters Test-Logic-Reset, selecting IDCODE and ending EXTEST, CLAMP or HIGHZ. -/
  | tapReset (t : Tick)
  /-- VDD_AON_LOSS (R599). VDD_AON is lost, losing all state except fuses, SPI NOR and the lifetime log, and stopping tamper sensing. -/
  | vddAonLoss (t : Tick)
  /-- VDD_AON_RISE (R598). VDD_AON rises first in the power-up order, powering PW00 and starting tamper sensing before porst_n rises. -/
  | vddAonRise (t : Tick)
  /-- SMBUS_TRANSACTION (R608). An SMBus transaction to target address 0x4C is served by firmware, including rewrites of SPI NOR and the boot configuration. -/
  | smbusTransaction (t : Tick) (addr : Nat) (data : List Byte)
  deriving DecidableEq, Repr

end Sys2Proof
end

