-- ==== Sys2Proof/Decode.lean ====
section
/-! DEFINITION. Reading a command from the bits of the table.  The rows of spec/opcode_table.json are operations and
events: none has bits, so no word spells one.  (The instructions that the part itself decodes, those of the cells and of
the engines, are read by Machine/Operands.lean, Machine/Engine.lean and Machine/Tensor.lean.) -/

namespace Sys2Proof

/-- The command a word spells by the table's bits: none, since no row has bits. -/
def decodeTableWord (_nbits _w : Nat) : Option Instr := none

end Sys2Proof
end

