-- ==== Sys2Proof/Machine/Bits.lean ====
section
/-! DEFINITION. Bit fields of numbers, little-endian byte lists (R12) and two's-complement readings. -/

namespace Sys2Proof.Machine

/-- Field `[hi:lo]` of a number. -/
def fld (v hi lo : Nat) : Nat := (v >>> lo) % 2 ^ (hi + 1 - lo)

/-- The number with field `[hi:lo]` replaced by the low bits of `x`. -/
def setFld (v hi lo x : Nat) : Nat :=
  v - (fld v hi lo) <<< lo + (x % 2 ^ (hi + 1 - lo)) <<< lo

/-- Bit `i` of a number. -/
def bit (v i : Nat) : Bool := (v >>> i) % 2 == 1

/-- 1 for true, 0 for false. -/
def b2n (b : Bool) : Nat := if b then 1 else 0

/-- `n` little-endian bytes of a number (R12). -/
def leBytes : Nat → Nat → List Byte
  | 0, _ => []
  | n + 1, v => BitVec.ofNat 8 v :: leBytes n (v / 256)

/-- The number that little-endian bytes encode (R12). -/
def ofLe : List Byte → Nat
  | [] => 0
  | b :: r => b.toNat + 256 * ofLe r

/-- The number that big-endian bytes encode. -/
def ofBe (l : List Byte) : Nat := l.foldl (fun a b => a * 256 + b.toNat) 0

/-- Byte `i` of a list, 0 beyond its end. -/
def byteAt (l : List Byte) (i : Nat) : Nat := (l.getD i 0).toNat

/-- The little-endian number in bytes `off` to `off + n - 1`. -/
def leAt (l : List Byte) (off n : Nat) : Nat := ofLe ((l.drop off).take n)

/-- A `w`-bit pattern read as a two's-complement integer. -/
def signed (w v : Nat) : Int :=
  let u := v % 2 ^ w
  if u < 2 ^ (w - 1) then Int.ofNat u else Int.ofNat u - Int.ofNat (2 ^ w)

/-- The `w`-bit two's-complement pattern of an integer. -/
def ofSigned (w : Nat) (i : Int) : Nat := (i % Int.ofNat (2 ^ w)).toNat

/-- An integer limited to a range. -/
def clamp (lo hi i : Int) : Int := if i < lo then lo else if hi < i then hi else i

/-- Round up to a multiple. -/
def roundUp (v m : Nat) : Nat := (v + m - 1) / m * m

/-- A word with the bits `m` taken from `v`. -/
def mixBits (m old v : Nat) : Nat := Nat.xor old (Nat.land old m) + Nat.land v m

/-- Bit order reversed within `w` bits. -/
def reverseBits : Nat → Nat → Nat
  | 0, _ => 0
  | w + 1, v => (v % 2) <<< w + reverseBits w (v / 2)

end Sys2Proof.Machine
end

