-- ==== Sys2Proof/Machine/Num.lean ====
section
/-! DEFINITION. Number formats, exact values, rounding and conversion (chapter Number Formats and Rounding). -/

namespace Sys2Proof.Machine

/-- An exact value: NaN, a signed infinity, or ± num ÷ den with a signed zero (R191). -/
inductive Num where
  | nan
  | inf (neg : Bool)
  | fin (neg : Bool) (num den : Nat)
  deriving DecidableEq, Repr

/-- The indication classes of R197. -/
inductive Ind where
  | none
  | inv
  | inf
  | sat
  deriving DecidableEq, Repr

/-- num ÷ den rounded to nearest, ties to even (R177). -/
def rneDiv (n d : Nat) : Nat :=
  let q := n / d
  let r := n % d
  if 2 * r < d then q else if d < 2 * r then q + 1 else q + q % 2

/-- A fraction in lowest terms. -/
def lowest (n d : Nat) : Nat × Nat := let g := Nat.gcd n d; if g = 0 then (n, d) else (n / g, d / g)

/-- ± n ÷ d. -/
def Num.frac (neg : Bool) (n d : Nat) : Num := let p := lowest n d; .fin neg p.1 p.2

/-- ± n × 2^e. -/
def Num.dyad (neg : Bool) (n : Nat) (e : Int) : Num :=
  if e < 0 then .frac neg n (2 ^ e.natAbs) else .fin neg (n * 2 ^ e.natAbs) 1

/-- An integer, with +0 for 0. -/
def Num.ofInt (i : Int) : Num := .fin (decide (i < 0)) i.natAbs 1

def Num.zero : Num := .fin false 0 1
def Num.one : Num := .fin false 1 1

def Num.isNan : Num → Bool | .nan => true | _ => false
def Num.isInf : Num → Bool | .inf _ => true | _ => false
def Num.isZero : Num → Bool | .fin _ n _ => n == 0 | _ => false
def Num.isNeg : Num → Bool | .nan => false | .inf s => s | .fin s _ _ => s
def Num.finite : Num → Bool | .fin _ _ _ => true | _ => false

/-- Sign changed, and cleared. -/
def Num.neg : Num → Num | .nan => .nan | .inf s => .inf (!s) | .fin s n d => .fin (!s) n d
def Num.abs : Num → Num | .nan => .nan | .inf _ => .inf false | .fin _ n d => .fin false n d

/-- The signed numerator of a finite value. -/
def Num.top : Num → Int | .fin s n _ => if s then -Int.ofNat n else Int.ofNat n | _ => 0
def Num.bot : Num → Nat | .fin _ _ d => d | _ => 1

/-- Exact sum of finite values; an exact zero sum of nonzero operands, or of zeros of both signs, is +0, and the sum of
two zeros of one sign keeps it. -/
def Num.addFin (a b : Num) : Num :=
  let n := a.top * Int.ofNat b.bot + b.top * Int.ofNat a.bot
  if n = 0 then .fin (a.isZero && b.isZero && a.isNeg && b.isNeg) 0 1
  else .frac (decide (n < 0)) n.natAbs (a.bot * b.bot)

/-- Exact sum with the invalid combination ∞ − ∞ (R196). -/
def Num.add (a b : Num) : Num × Ind :=
  match a, b with
  | .nan, _ => (.nan, .none)
  | _, .nan => (.nan, .none)
  | .inf s, .inf t => if s = t then (.inf s, .none) else (.nan, .inv)
  | .inf s, _ => (.inf s, .none)
  | _, .inf t => (.inf t, .none)
  | a, b => (a.addFin b, .none)

/-- Exact product with the invalid combination 0 × ∞ (R196). -/
def Num.mul (a b : Num) : Num × Ind :=
  match a, b with
  | .nan, _ => (.nan, .none)
  | _, .nan => (.nan, .none)
  | .inf s, .inf t => (.inf (s != t), .none)
  | .inf s, b => if b.isZero then (.nan, .inv) else (.inf (s != b.isNeg), .none)
  | a, .inf t => if a.isZero then (.nan, .inv) else (.inf (t != a.isNeg), .none)
  | .fin s n d, .fin t m e => (.frac (s != t) (n * m) (d * e), .none)

/-- Exact quotient with 0 ÷ 0 and ∞ ÷ ∞ invalid; a nonzero value ÷ 0 is an infinity. -/
def Num.div (a b : Num) : Num × Ind :=
  match a, b with
  | .nan, _ => (.nan, .none)
  | _, .nan => (.nan, .none)
  | .inf _, .inf _ => (.nan, .inv)
  | .inf s, b => (.inf (s != b.isNeg), .none)
  | .fin s _ _, .inf t => (.fin (s != t) 0 1, .none)
  | .fin s n d, .fin t m e =>
    if m = 0 then (if n = 0 then (.nan, .inv) else (.inf (s != t), .none))
    else (.frac (s != t) (n * e) (d * m), .none)

/-- `a < b` on values that are not NaN; both zeros are equal. -/
def Num.lt (a b : Num) : Bool :=
  match a, b with
  | .nan, _ => false
  | _, .nan => false
  | .inf s, .inf t => s && !t
  | .inf s, _ => s
  | _, .inf t => !t
  | a, b => decide (a.top * Int.ofNat b.bot < b.top * Int.ofNat a.bot)

/-- ⌊log2⌋ of n ÷ d, both positive. -/
def floorLog2 (n d : Nat) : Int :=
  let k := Int.ofNat (Nat.log2 n) - Int.ofNat (Nat.log2 d)
  let le (e : Int) : Bool := if e < 0 then decide (d ≤ n * 2 ^ e.natAbs) else decide (d * 2 ^ e.natAbs ≤ n)
  if le (k + 1) then k + 1 else if le k then k else k - 1

/-! ### Floating-point formats (R183) -/

/-- A floating-point format. -/
structure FFmt where
  eb : Nat
  mb : Nat
  bias : Nat
  /-- Largest finite code without its sign. -/
  maxF : Nat
  /-- Infinity and canonical NaN, where the format has them. -/
  inf : Option Nat
  nan : Option Nat
  deriving DecidableEq, Repr

def FFmt.width (f : FFmt) : Nat := 1 + f.eb + f.mb

def fp32 : FFmt := ⟨8, 23, 127, 0x7F7FFFFF, some 0x7F800000, some 0x7FC00000⟩
/-- BF16. -/
def bf16 : FFmt := ⟨8, 7, 127, 0x7F7F, some 0x7F80, some 0x7FC0⟩
def fp16 : FFmt := ⟨5, 10, 15, 0x7BFF, some 0x7C00, some 0x7E00⟩
def e5m2 : FFmt := ⟨5, 2, 15, 0x7B, some 0x7C, some 0x7E⟩
def e4m3 : FFmt := ⟨4, 3, 7, 0x7E, none, some 0x7F⟩
def e3m2 : FFmt := ⟨3, 2, 3, 0x1F, none, none⟩
def e2m3 : FFmt := ⟨2, 3, 1, 0x1F, none, none⟩
def e2m1 : FFmt := ⟨2, 1, 1, 0x7, none, none⟩

/-- The exact value of a code (R183, R191). -/
def FFmt.decode (f : FFmt) (v : Nat) : Num :=
  let s := bit v (f.eb + f.mb)
  let mag := v % 2 ^ (f.eb + f.mb)
  if f.maxF < mag then (if f.inf = some mag then .inf s else .nan)
  else
    let e := mag / 2 ^ f.mb
    let m := mag % 2 ^ f.mb
    let k : Int := -(Int.ofNat (f.bias + f.mb))
    if e = 0 then .dyad s m (k + 1) else .dyad s (2 ^ f.mb + m) (k + Int.ofNat e)

/-- The code without sign that n ÷ d rounds to, as if the exponent range were unbounded upward (R177 to R179). -/
def FFmt.roundMag (f : FFmt) (n d : Nat) : Nat :=
  if n = 0 then 0
  else
    let e := max (floorLog2 n d) (1 - Int.ofNat f.bias)
    let q := e - Int.ofNat f.mb
    let r := if q < 0 then rneDiv (n * 2 ^ q.natAbs) d else rneDiv n (d * 2 ^ q.natAbs)
    (e + Int.ofNat f.bias - 1).toNat * 2 ^ f.mb + r

/-- A code with its sign. -/
def FFmt.signed (f : FFmt) (s : Bool) (mag : Nat) : Nat := mag + b2n s * 2 ^ (f.eb + f.mb)

/-- Encoding into a floating-point destination (R192, R193).  NaN into a format without NaN gives 0: the block rule of
R187 decides there. -/
def FFmt.encode (f : FFmt) (satfp : Bool) (x : Num) : Nat × Ind :=
  match x with
  | .nan => (f.nan.getD 0, .none)
  | .inf s =>
    match f.inf with
    | some i => if satfp && f == e5m2 then (f.signed s f.maxF, .sat) else (f.signed s i, .none)
    | none => (f.signed s f.maxF, .sat)
  | .fin s n d =>
    let mag := f.roundMag n d
    if f.maxF < mag then
      match f.inf with
      | some i => if satfp && f == e5m2 then (f.signed s f.maxF, .sat) else (f.signed s i, .inf)
      | none => (f.signed s f.maxF, .sat)
    else (f.signed s mag, .none)

/-- The indication of an operation followed by the encoding of its result: the first class of R197 that applies. -/
def Ind.first : Ind → Ind → Ind
  | .none, b => b
  | a, _ => a

/-- Round an exact result with its indication into a format. -/
def FFmt.put (f : FFmt) (r : Num × Ind) : Nat × Ind :=
  let e := f.encode false r.1
  (e.1, r.2.first e.2)

/-! ### Integer formats (R181, R194) -/

/-- An exact value rounded to nearest even integer. -/
def Num.rne : Num → Int
  | .fin s n d => if s then -Int.ofNat (rneDiv n d) else Int.ofNat (rneDiv n d)
  | _ => 0

/-- Encoding into an integer range [lo, hi] with zero point `z` (R182, R194). -/
def toInt (lo hi z : Int) (x : Num) : Int × Ind :=
  match x with
  | .nan => (z, .inv)
  | .inf s => (if s then lo else hi, .sat)
  | x =>
    let v := x.rne + z
    if hi < v then (hi, .sat) else if v < lo then (lo, .sat) else (v, .none)

/-- Saturation of an exact integer to a signed range of `w` bits. -/
def satInt (w : Nat) (v : Int) : Int := clamp (-(2 ^ (w - 1))) (2 ^ (w - 1) - 1) v

/-! ### FP32 arithmetic -/

/-- FP32 code of an exact value. -/
def f32 (x : Num) : Nat := (fp32.encode false x).1

/-- FP32 sum and product of codes. -/
def f32Add (a b : Nat) : Nat × Ind := fp32.put ((fp32.decode a).add (fp32.decode b))
def f32Mul (a b : Nat) : Nat × Ind := fp32.put ((fp32.decode a).mul (fp32.decode b))

end Sys2Proof.Machine
end

