-- ==== Sys2Proof/Machine/Codes.lean ====
section
/-! DEFINITION. The fault, answer and event codes of R476 that the hardware raises, under the manual's names.
Loader results (kind L) are returned to the loader's caller and the part never raises them (R473). -/

namespace Sys2Proof.Machine

/-- Opcode not defined (fault; R476). -/
abbrev Code.INVALID_OPCODE : Nat := 0x0101
/-- Reserved or forbidden field or combination (fault; R476). -/
abbrev Code.INVALID_FIELD : Nat := 0x0102
/-- Misaligned address (fault; R476). -/
abbrev Code.MISALIGNED : Nat := 0x0103
/-- Address beyond SRAM or unmapped (fault; R476). -/
abbrev Code.ADDR_RANGE : Nat := 0x0104
/-- Push bound ran out (fault; R476). -/
abbrev Code.QUEUE_OVERFLOW : Nat := 0x0105
/-- Pop bound ran out (fault; R476). -/
abbrev Code.QUEUE_UNDERFLOW : Nat := 0x0106
/-- WAITQ or WAITT bound ran out (fault; R476). -/
abbrev Code.WAIT_TIMEOUT : Nat := 0x0107
/-- Steering step bound ran out (fault; R476). -/
abbrev Code.STEER_TIMEOUT : Nat := 0x0108
/-- SEL or COUNT out of range (fault; R476). -/
abbrev Code.STEER_RANGE : Nat := 0x0109
/-- Poison in a control position (fault; R476). -/
abbrev Code.STEER_POISON : Nat := 0x010A
/-- Reserved kind, or control as operand (fault; R476). -/
abbrev Code.TOKEN_KIND : Nat := 0x010B
/-- Break in SEQ on a circuit (fault; R476). -/
abbrev Code.LINK_SEQ : Nat := 0x010C
/-- Turn exceeded TURN_BOUND (fault; R476). -/
abbrev Code.FOLD_OVERFLOW : Nat := 0x010D
/-- Valid slot rewritten; circuit leaves its binding (fault; R476). -/
abbrev Code.SLOT_COLLISION : Nat := 0x010E
/-- FAULT instruction (fault; R476). -/
abbrev Code.PROGRAM_FAULT : Nat := 0x010F
/-- Poison reached an egress edge (fault; R476). -/
abbrev Code.POISON_EGRESS : Nat := 0x0110
/-- Launch time too far ahead (fault; R476). -/
abbrev Code.LAUNCH_RANGE : Nat := 0x0111
/-- Absent unit addressed or required (fault; R476). -/
abbrev Code.ENGINE_ABSENT : Nat := 0x0201
/-- Command exceeded its timeout (fault; R476). -/
abbrev Code.CMD_TIMEOUT : Nat := 0x0202
/-- Full window without a sealing point (fault; R476). -/
abbrev Code.COMMAND_UNSEALED : Nat := 0x0203
/-- Collective message with another STEP (fault; R476). -/
abbrev Code.COLL_MISMATCH : Nat := 0x0204
/-- No matching collective log entry (fault; R476). -/
abbrev Code.REPLAY_MISS : Nat := 0x0205
/-- Context hung again on replay (fault; R476). -/
abbrev Code.HANG_GUILTY : Nat := 0x0206
/-- Target answered EPOCH_MISMATCH (fault; R476). -/
abbrev Code.STALE_TARGET : Nat := 0x0301
/-- No route to the destination; as an answer, OP 6 (fault and answer; R476). -/
abbrev Code.NO_ROUTE : Nat := 0x0302
/-- Destination lost after RECOVERY_GRACE (fault; R476). -/
abbrev Code.PEER_LOST : Nat := 0x0303
/-- Request epoch differs from the region's; OP 4 (answer; R476). -/
abbrev Code.EPOCH_MISMATCH : Nat := 0x0304
/-- Command with IRQ completed (event; R476). -/
abbrev Code.CMD_DONE : Nat := 0x8001
/-- Late launches on an edge (event; R476). -/
abbrev Code.LATE_LAUNCH : Nat := 0x8002
/-- First-lock step (event; R476). -/
abbrev Code.TB_STEPPED : Nat := 0x8003
/-- Switch to an unlocked domain (event; R476). -/
abbrev Code.TB_SWITCH_REFUSED : Nat := 0x8004
/-- Margin negative at 0.82 V (event; R476). -/
abbrev Code.SLACK_EXHAUSTED : Nat := 0x8005
/-- Power above 1,250 W at the floor (event; R476). -/
abbrev Code.POWER_OVER_BUDGET : Nat := 0x8006
/-- Refresh interval changed (event; R476). -/
abbrev Code.REFRESH_RATE_CHANGE : Nat := 0x8007
/-- Double-bit DRAM error (event; R476). -/
abbrev Code.DRAM_UE : Nat := 0x8008
/-- Stack at or above 95 °C (event; R476). -/
abbrev Code.DRAM_OVERTEMP : Nat := 0x8009
/-- Write into a REPLICATED region (event; R476). -/
abbrev Code.REPL_WRITE : Nat := 0x800A
/-- Mirrored region DEGRADED (event; R476). -/
abbrev Code.MIRROR_LOST : Nat := 0x800B
/-- Store to a present slot (event; R476). -/
abbrev Code.DISPATCH_OVERRUN : Nat := 0x800C
/-- Anchor drift above the limit (event; R476). -/
abbrev Code.SAMPLE_DRIFT : Nat := 0x800D
/-- Event too late for its combiner (event; R476). -/
abbrev Code.COMB_LATE_INPUT : Nat := 0x800E
/-- Network output before its period (event; R476). -/
abbrev Code.TG_EDGE_EXTRA : Nat := 0x800F
/-- Decision before its frame (event; R476). -/
abbrev Code.PA_EDGE_EXTRA : Nat := 0x8010
/-- Lane training limit reached (event; R476). -/
abbrev Code.LANE_TRAIN_FAIL : Nat := 0x8011
/-- Group offset above 400 ns (event; R476). -/
abbrev Code.LANE_DESKEW_RANGE : Nat := 0x8012
/-- Sensor lane slipped (event; R476). -/
abbrev Code.LANE_SLIP : Nat := 0x8013
/-- Sensor group substituted (event; R476). -/
abbrev Code.LANE_SUBST : Nat := 0x8014
/-- Nenath lane mask changed (event; R476). -/
abbrev Code.LANE_REMAP : Nat := 0x8015
/-- Nenath port went down (event; R476). -/
abbrev Code.NP_DOWN : Nat := 0x8016
/-- Destination entered RECOVERING (event; R476). -/
abbrev Code.PEER_RECOVERING : Nat := 0x8017
/-- Destination READY again (event; R476). -/
abbrev Code.PEER_RESUMED : Nat := 0x8018
/-- Clove took an engine (event; R476). -/
abbrev Code.HANG_DETECTED : Nat := 0x8019
/-- Chip-level recovery began (event; R476). -/
abbrev Code.RECOVERY_START : Nat := 0x801A
/-- Recovery completed (event; R476). -/
abbrev Code.RECOVERY_DONE : Nat := 0x801B
/-- A spare column took over a cell (event; R476). -/
abbrev Code.CELL_SPARED : Nat := 0x801C
/-- Spare chip took over a binding (event; R476). -/
abbrev Code.CHIP_TAKEOVER : Nat := 0x801D
/-- Start-up complete (event; R476). -/
abbrev Code.READY_TO_LOAD : Nat := 0x801E
/-- Self-test failed (event; R476). -/
abbrev Code.SELFTEST_FAIL : Nat := 0x801F
/-- Thermal protection acted (event; R476). -/
abbrev Code.THERMAL_TRIP : Nat := 0x8020
/-- Seed zeroised, first boot after (event; R476). -/
abbrev Code.TAMPER_ZEROISED : Nat := 0x8021
/-- Hardware breakpoint matched (event; R476). -/
abbrev Code.BREAKPOINT_HIT : Nat := 0x8022
/-- A Lattice drain ran past RV_DRAIN_BOUND (event; R476). -/
abbrev Code.LATTICE_DRAIN_FAIL : Nat := 0x8023
/-- Request to an unmapped offset (answer, OP 5; R476). -/
abbrev Code.UNMAPPED : Nat := 0x0305
/-- Target chip, or a port on the route, recovering (answer, OP 7; R476). -/
abbrev Code.RECOVERING : Nat := 0x0306
/-- Recovered target answers a PROBE (answer, OP 9; R476). -/
abbrev Code.READY : Nat := 0x0307

end Sys2Proof.Machine
end

