-- ==== Sys2Proof/Machine/RegMap.lean ====
section
/-! DEFINITION. The register map of BAR0 (R546): every register of the spec's tables with its reset value and the
access of its bits (R13).  Bits a write of which has behaviour of its own are `act`; Machine/RegBus.lean gives it. -/

namespace Sys2Proof.Machine

/-- One register of a block's map, possibly an array of equal registers. -/
structure RegDef where
  /-- Offset from the block base. -/
  off : Nat
  /-- 32-bit words of the register (1, 2 or 3, or the words of a byte field). -/
  words : Nat := 1
  /-- Elements of the array and their distance. -/
  n : Nat := 1
  step : Nat := 4
  /-- Reset value of the whole register. -/
  rst : Nat := 0
  /-- Bits a write stores as they are. -/
  rw : Nat := 0
  /-- Bits a write of which acts by a rule of its own. -/
  act : Nat := 0
  /-- Bits that a 1 clears. -/
  w1c : Nat := 0
  /-- Bits that are not RSV. -/
  dfn : Nat := 0xFFFFFFFF
  /-- Cleared by a read (RC). -/
  rc : Bool := false
  deriving DecidableEq, Repr

/-- A block of BAR0, repeated `n` times. -/
structure RegBlock where
  base : Nat
  stride : Nat := 0x10000
  n : Nat := 1
  regs : List RegDef
  deriving DecidableEq, Repr

/-- All bits of `w` words. -/
def ones (w : Nat) : Nat := 2 ^ (32 * w) - 1

/-- An RW register whose bits `m` exist. -/
def RegDef.plain (off rst m : Nat) (words : Nat := 1) (n : Nat := 1) (step : Nat := 4) : RegDef :=
  { off := off, words := words, n := n, step := step, rst := rst, rw := m, dfn := m }

/-- An RO register. -/
def RegDef.ro (off : Nat) (rst : Nat := 0) (words : Nat := 1) (n : Nat := 1) (step : Nat := 4) : RegDef :=
  { off := off, words := words, n := n, step := step, rst := rst, dfn := ones words }

/-- An RC counter. -/
def RegDef.cnt (off : Nat) (words : Nat := 1) (n : Nat := 1) (step : Nat := 4) : RegDef :=
  { off := off, words := words, n := n, step := step, dfn := ones words, rc := true }

/-- A register all of whose defined bits act. -/
def RegDef.acts (off rst m : Nat) (words : Nat := 1) (n : Nat := 1) (step : Nat := 4) : RegDef :=
  { off := off, words := words, n := n, step := step, rst := rst, act := m, dfn := m }

/-- GL (R7 to R10, R494, R495, R570, R610, R611). -/
def regsGL : List RegDef :=
  [.ro 0x20 0 1 4, .ro 0x40 0 2,
   { off := 0x48, rst := 0x101, act := 0x40000, dfn := 0x801FFFFF },
   .cnt 0x50 2,
   .plain 0x60 0 0xFFFF, .ro 0x64, .ro 0x68, .acts 0x70 0 0xFFFF0001, .ro 0x74,
   { off := 0x80, w1c := 4, dfn := 0x3FFF }, .cnt 0x84, .cnt 0x1000 2 256 8]

/-- A PW domain block (R568). -/
def regsPW (ctrl : Nat) (stat : Nat) : List RegDef :=
  [{ off := 0, rst := ctrl, rw := 2, act := 5, dfn := 7 }, { off := 4, rst := stat, w1c := 4, dfn := 0x1F },
   { off := 8, dfn := 0xFFFF }, { off := 0xC, dfn := 0xFF }, .ro 0x10]

/-- The governor (R569). -/
def regsGov : List RegDef :=
  [{ off := 0, dfn := 0x7FFFFF }, .ro 4, .acts 8 1250 0x7FF, .cnt 0x10 2,
   .acts 0x1000 0 0x3FF 1 256]

/-- A time domain (R75, R78). -/
def regsDom (b : Nat) : List RegDef :=
  [{ off := b, rw := 0xFF0000, act := 0x7FF, dfn := 0xFF07FF }, .plain (b + 4) 0x03E80064 0xFFFFFFFF,
   .ro (b + 8) 0 2, .ro (b + 0x10)]

/-- TB (R75 to R80). -/
def regsTB : List RegDef :=
  [{ off := 0, rst := 2, rw := 6, act := 9, dfn := 0xF }, { off := 4, dfn := 0x1FF }, .cnt 8,
   .acts 0xC 200 0x3FF, .ro 0x10 0 3, .ro 0x20 0 2, .ro 0x28 0 2]
  ++ regsDom 0x40 ++ regsDom 0x80 ++
  [.acts 0xC0 0x3E8 0xFFFFF, .acts 0xC8 0 0xFFFFFFFFFFFF 2, { off := 0x100, rst := 0x11801, dfn := 0xFFF01 },
   .ro 0x108 0 3, .cnt 0x140 2, .ro 0x150 0 3, { off := 0x15C, dfn := 0x7FF }, .ro 0x160, .cnt 0x164]

/-- RV (R523, R524). -/
def regsRV : List RegDef :=
  [{ off := 0, rst := 2, rw := 2, act := 1, dfn := 3 }, { off := 4, dfn := 0xFFFFF },
   .acts 8 100 0xFFFF, .acts 0xC 10 0xFF, .plain 0x10 0 0xFFFFFFFFFFFF0000 2, .plain 0x18 0 0xFFFFFFFF, .ro 0x1C,
   .cnt 0x20, .cnt 0x24, .cnt 0x28, .cnt 0x2C, .ro 0x30, .cnt 0x34,
   { off := 0x38, act := 0x1FF, w1c := 0x400, dfn := 0xFFFF07FF },
   .plain 0x1000 0 0xFFFFFFFFFFFFFF81 2 256 8]

/-- SE (R571). -/
def regsSE : List RegDef :=
  [{ off := 0, dfn := 0x1F }, .ro 4, .ro 8, { off := 0xC, dfn := 0x1F }, .ro 0x20 0 8, .ro 0x40 0 16,
   .plain 0x80 0 (ones 2) 2, .plain 0x88 0 (ones 1), { off := 0x8C, rw := 0xFFFF, act := 0x30000, dfn := 0x3FFFF },
   .plain 0x90 0 (ones 8) 8, .plain 0xB0 0 0xFFFFFFFFFFFFFFF0 2, .acts 0xB8 0 1, { off := 0xBC, dfn := 0xFFFF0003 },
   .ro 0xC0, .ro 0x1000 0 12 256 48, .ro 0x8000 0 1 8192]

/-- A breakpoint (R591, R592). -/
def regsBP (b : Nat) : List RegDef :=
  [.acts b 0 (ones 1), .acts (b + 4) 0 0x7FFF, .acts (b + 8) 0 0x1FFF, .acts (b + 0x10) 0 (ones 2) 2,
   .acts (b + 0x18) 0 (ones 2) 2, .acts (b + 0x20) 0 (ones 3) 3, .acts (b + 0x30) 0 (ones 3) 3, .cnt (b + 0x3C)]

/-- DB (R591). -/
def regsDB : List RegDef :=
  [{ off := 0, dfn := 3 }, .acts 4 0 0x1F, .plain 8 0 0xFF7FFF, { off := 0xC, dfn := 7 },
   { off := 0x10, w1c := 0xFFFF, dfn := 0xFFFF }, .cnt 0x14, .acts 0x18 0 0x1FF]
  ++ (List.range 16).flatMap fun k => regsBP (0x100 + 0x40 * k)

/-- A ring (R547, R548); the event and fault rings have no KIND. -/
def regsRing (b : Nat) (kind : Nat) : List RegDef :=
  [.plain b 0 0xFFFFFFFFFFFFFFC0 2, { off := b + 8, rst := 0x2000, act := 0x7FFFF9 + kind, dfn := 0x7FFFFF }, .acts (b + 0xC) 0 0xFFFF,
   .plain (b + 0x10) 0 (ones 1), .plain (b + 0x14) 0 (ones 1), { off := b + 0x18, dfn := 0xF01FF }, .cnt (b + 0x1C),
   .cnt (b + 0x20) 2]

/-- HI outside the rings (R547), with the MSI-X table and pending bits (R542).  An MSI-X vector's mask bit is 1 after
reset, as the PCIe specification the spec names has it. -/
def regsHI : List RegDef :=
  [{ off := 0, dfn := 0x3FF }, .plain 8 0 0xFFFFFFE000000000 2, .ro 0x10 37, .cnt 0x20, .cnt 0x24, { off := 0x28, dfn := 0x7F003F },
   .plain 0x30 0xB9640000 0xFFFF001F, .cnt 0x34, .cnt 0x38,
   { off := 0x8000, words := 4, n := 64, step := 16, rst := 2 ^ 96, rw := 2 ^ 96 - 1, act := 2 ^ 96, dfn := 2 ^ 97 - 1 },
   .ro 0x9000 0 2]
  ++ regsRing 0x800 0 ++ regsRing 0x840 0

/-- EM (R403 to R405). -/
def regsEM : List RegDef :=
  [.acts 0 0 3, { off := 4, dfn := 0xFF }, .acts 8 0xC3 0x7FF, .acts 0xC 1522 0x3FFF,
   { off := 0x10, rst := 0xA0000, act := 0xFFFF0F, dfn := 0x7FFFF0F }, .plain 0x14 0xFFFF00FF (ones 1),
   .plain 0x18 0x400010 (ones 1), .plain 0x20 0 (ones 1), .plain 0x24 0 (ones 1), .plain 0x28 0xA 0xFFFF,
   .ro 0x2C 0x07D007D0, .acts 0x30 0x03E8460A 0xFFFF7F7F, .cnt 0x100 2 25 8]

/-- SC0 (R406). -/
def regsSC : List RegDef :=
  [.plain 0 0 1, .acts 4 0x5F2 0x3FFFF, .acts 8 0 0xFFFFFFF, .cnt 0x100 2 9 8]

/-- A lane (R372 to R377): reset values of LN_CTRL, LN_STATUS.FAMILY, LN_CFG and LN_EYE_CFG by family. -/
def regsLN (ctrl fam cfg eye : Nat) (sensor : Bool) : List RegDef :=
  [{ off := 0, rst := ctrl, act := 0xF, rw := 0x10, dfn := 0x1F },
   { off := 4, rst := fam * 256, dfn := 0x3FF }, .acts 8 cfg 0x1FFFF,
   { off := 0xC, rst := 0x400000, act := if sensor then 0x7F3F3F else 0, dfn := 0x7F3F3F },
   { off := 0x10, dfn := 0xFFFF }, .ro 0x14, { off := 0x18, dfn := 0xFF00FF }, .plain 0x1C eye 0xFF00FF,
   .cnt 0x20 1 3 4]
  ++ if sensor then [.ro 0x30, .acts 0x34 0x80 0xFFF, .cnt 0x38, .cnt 0x3C, .ro 0x40 0 2, .ro 0x48 0 2, .cnt 0x50] else []

/-- LN_SL_GRP, in lanes 192 and 240 (R377). -/
def regGrp : RegDef := { off := 0x80, rst := 0x10000, rw := 0x3FFFF, act := 0x40000, dfn := 0xFFFFF }

/-- SN (R343). -/
def regsSN : List RegDef :=
  [.acts 0 0 3, { off := 4, dfn := 7 }, .acts 8 0xC 0x1FFFFF, .acts 0xC 0x20000 (ones 1), .ro 0x10 0 2, .ro 0x18 0 3,
   .ro 0x24, .plain 0x28 0 (ones 1), .plain 0x2C 0 (ones 1), .plain 0x30 0 0xFFFF, .plain 0x34 0 (ones 1),
   .plain 0x38 0 0xF3F, .plain 0x40 0 7 1 4 0x10, .plain 0x44 0 (ones 1) 1 4 0x10, .plain 0x48 0 (ones 1) 1 4 0x10,
   .cnt 0x4C 1 4 0x10, .plain 0x80 0 0x0FFF0FFF, .plain 0x84 1024 0x3FFF, .plain 0x88 0 0xFFFF,
   .plain 0x90 0 0xFFFFFFFFFFFFFFC0 2, .plain 0x98 0 0x7F, .cnt 0xA0, .cnt 0xA4, .cnt 0xA8, .ro 0xB0 0 2,
   .plain 0xB8 0xA0000 (ones 1)]

/-- The engine-wide registers of R298. -/
def regsEng (type ctxs inst timeout : Nat) : List RegDef :=
  [.ro 0 (type + 256 * ctxs + 65536 * inst), { off := 4, dfn := 3 }, .acts 8 timeout (ones 1), .cnt 0x10 2, .cnt 0x18 2,
   .cnt 0x20]

/-- The registers of one context (R299, R300). -/
def regsCx (b : Nat) : List RegDef :=
  [.acts b 0 0xF, { off := b + 4, w1c := 0x78, dfn := 0x7F }, .acts (b + 8) 0 0xFFFF, .plain (b + 0xC) 0 0x1FF,
   .plain (b + 0x10) 0 0xFFFFFFFFFFFFFFF0 2, { off := b + 0x18, dfn := 0x1FFF }, .ro (b + 0x1C), .ro (b + 0x20),
   { off := b + 0x24, rc := true, dfn := 0xF }, { off := b + 0x28, w1c := 0x80000000, dfn := 0x9FFFFFFF },
   .acts (b + 0x30) 0 (ones 3) 3]

/-- The registers of `n` contexts. -/
def regsCxs (n : Nat) (extra : Nat → List RegDef) : List RegDef :=
  (List.range n).flatMap fun c => regsCx (0x1000 + 0x100 * c) ++ extra (0x1000 + 0x100 * c)

/-- TG engine-wide registers, streams, LVDS outputs and edge tables (R344). -/
def regsTG : List RegDef :=
  regsEng 8 4 0 100000 ++ [.plain 0x100 0 0xFFFF, .cnt 0x104, .cnt 0x108,
    .plain 0x120 0 0x1FF 1 8 0x10, .plain 0x124 0 (ones 1) 1 8 0x10, .acts 0x128 1 (ones 1) 1 8 0x10, .cnt 0x12C 1 8 0x10,
    { off := 0x200, n := 4, step := 0x40, dfn := 7 }, .ro 0x204 0 1 4 0x40, .ro 0x208 0 1 4 0x40, .cnt 0x20C 1 4 0x40,
    .cnt 0x210 2 4 0x40, .cnt 0x218 1 4 0x40]
  ++ regsCxs 4 (fun _ => [])

/-- The edge tables of one row (R344, R430). -/
def regsEdge (out inn : Nat) : List RegDef := [.acts 0 0 out 1 16, .acts 0x40 0 inn 1 16]

/-- A combiner (R345). -/
def regsComb : List RegDef :=
  [.acts 0 0 0xFFFFF, .acts 4 0 (ones 1), .acts 8 0 (ones 1), .acts 0xC 0 (ones 1), .cnt 0x10, .cnt 0x14, .cnt 0x18,
   .cnt 0x20 2, .ro 0x40 0 3, .acts 0x100 0 0x87FF87FF 1 32]

/-- NF (R454). -/
def regsNF : List RegDef :=
  [{ off := 0, rst := 8, rw := 0x7A, act := 5, dfn := 0x7F }, { off := 4, dfn := 0x3FF },
   { off := 8, dfn := 0x801FFFFF }, .ro 0xC, .ro 0x10, .plain 0x14 0 (ones 1), .acts 0x18 0xA 0xFFFF, .cnt 0x20 2,
   .cnt 0x28 2, .cnt 0x30, .cnt 0x34, .cnt 0x38, .cnt 0x3C, .cnt 0x40]

/-- Fabric-wide registers (R455). -/
def regsFab : List RegDef :=
  [.acts 0 0 3, .acts 4 50 0xFFFF, .acts 8 20 0xFFFF, .ro 0xC, .ro 0x10, .cnt 0x14, .cnt 0x18 2, .cnt 0x20, .cnt 0x24,
   .cnt 0x28, .acts 0x1000 0 3 1 4096]

/-- PA (R430, R408, R411, R418, R419). -/
def regsPA : List RegDef :=
  regsEng 6 4 0 10000 ++ [.plain 0x100 0 0x77777777, .cnt 0x104, .cnt 0x108]
  ++ (List.range 4).flatMap (fun c => [.cnt (0x200 + 0x80 * c) 2 9 8,
       .acts (0x400 + 0x40 * c) 0 0x7F 1 4 0x10, .acts (0x404 + 0x40 * c) 0 (ones 1) 1 4 0x10,
       .acts (0x408 + 0x40 * c) 0 (ones 1) 1 4 0x10, .acts (0x800 + 0x80 * c) 0 0x7FFFFF 1 32])
  ++ regsCxs 4 (fun _ => [])
  ++ [.plain 0x2000 0 0x1FFFFFFF 1 64 0x10, .plain 0x2004 0 0x3FFF 1 64 0x10,
      .acts 0x4000 0 0x1FF1FFF 1 256 0x40, .acts 0x4004 0 0xFF1FFFFF 1 256 0x40, .acts 0x4008 0 (ones 1) 1 256 0x40,
      .acts 0x400C 0 0xFF 1 256 0x40]
  ++ (List.range 4).flatMap (fun i => [.acts (0x4010 + 8 * i) 0 (ones 1) 1 256 0x40, .acts (0x4014 + 8 * i) 0 0x1FF 1 256 0x40])
  ++ (List.range 16).map (fun k => .acts (0x3000 + 4 * k) 0 0x1FFFFFF 1 64 0x40)

/-- SS and its regions (R246, R247). -/
def regsSS : List RegDef :=
  [{ off := 0, w1c := 1, dfn := 1 }, .cnt 4, .cnt 8, .ro 0xC 0x01000100, .ro 0x10 0x01000100, .cnt 0x18 2, .cnt 0x20 2,
   .acts 0x1000 0 0xFFFFFFFFFFFFF000 2 64 0x20, .acts 0x1008 0 0xFFFFFFFFFFFFF000 2 64 0x20,
   .acts 0x1010 0 0xFFFF07 1 64 0x20, .acts 0x1014 0 0x1FF01FF 1 64 0x20, .acts 0x1018 0 0xFFFF 1 64 0x20,
   { off := 0x101C, n := 64, step := 0x20, w1c := 1, dfn := 1 }]

/-- DM (R248). -/
def regsDM : List RegDef :=
  [{ off := 0, dfn := 0xF }, { off := 4, dfn := 0xFF }, .cnt 8, .cnt 0xC, .ro 0x10 0 2, .acts 0x18 0x1801 0xFF01,
   .cnt 0x1C, .cnt 0x20, .cnt 0x28 2, .cnt 0x30 2, .ro 0x40]

/-- CL (R122 to R128, R475). -/
def regsCL : List RegDef :=
  [.acts 0 0 7, { off := 4, w1c := 0x10, dfn := 0x1F }, .acts 8 0 0x7FFFF, .acts 0xC 0 0xFFFF0003,
   .cnt 0x10, .cnt 0x14, .cnt 0x18, .plain 0x1C 0 0xFFFF, .ro 0x20 0 2, .ro 0x28 0 2, .ro 0x30, { off := 0x40, act := 0x80000000 },
   { off := 0x60, n := 4, dfn := 0x1FFF }, .plain 0x80 0 0x3FFFF, .acts 0x88 0 (ones 2) 2]

/-- The LF window (R585, R591): control, both images and the minute ring, the latter two written by nobody but the
aggregator. -/
def regsLF : List RegDef :=
  [{ off := 0, dfn := 7 }, .acts 4 0 1, { off := 8, dfn := 0x1FFFF }, .ro 0x1000 0 1 2048, .ro 0x100000 0 1 1835008]

/-- RT_CTRL and RT_FORCED, or MA's operand counters (R298, R617). -/
def regsRT : List RegDef := [.plain 0x80 0 1, .cnt 0x84]

/-- Reset of PW_CTRL: ON in PW00 only; AUTO in PW01 to PW17 and PW27 (R552, R558). -/
def pwCtrlReset (d : Nat) : Nat := if d = 0 then 1 else if d ≤ 17 ∨ d = 27 then 2 else 0

/-- Every block of BAR0 (R546). -/
def regBlocks : List RegBlock :=
  [{ base := 0, regs := regsGL }]
  ++ (List.range 30).map (fun d => RegBlock.mk (0x10000 + 0x100 * d) 0x100 1 (regsPW (pwCtrlReset d) (if d = 0 then 2 else 0)))
  ++ [{ base := 0x1E000, regs := regsGov, stride := 0x2000 }, { base := 0x20000, regs := regsTB },
   { base := 0x30000, regs := regsRV }, { base := 0x40000, regs := regsSE }, { base := 0x50000, regs := regsDB },
   { base := 0x80000, regs := regsHI }, { base := 0x81000, stride := 0x40, n := 128, regs := regsRing 0 6 },
   { base := 0x100000, n := 8, regs := regsEM }, { base := 0x180000, regs := regsSC },
   { base := 0x200000, stride := 0x1000, n := 160, regs := regsLN 0 0 25000 0xA000C false },
   { base := 0x2A0000, stride := 0x1000, n := 32, regs := regsLN 0 1 0 0xA000C false },
   { base := 0x2C0000, stride := 0x1000, n := 96, regs := regsLN 0x10 2 10000 0x280014 true },
   { base := 0x2C0000, stride := 0x30000, n := 2, regs := [regGrp] },
   { base := 0x340000, stride := 0x400, n := 384, regs := regsSN },
   { base := 0x3C0000, stride := 0x8000, regs := regsTG },
   { base := 0x3C8000, stride := 0x80, n := 64, regs := regsEdge 0x7FF 0x3FFFF },
   { base := 0x3E0000, stride := 0x800, n := 64, regs := regsComb },
   { base := 0x400000, n := 20, regs := regsNF }, { base := 0x540000, regs := regsFab },
   { base := 0x550000, stride := 0x4000, n := 21, regs := [.plain 0 0 0x7F 1 4096] }]
  ++ (List.range 4).map (fun i =>
       RegBlock.mk (0x600000 + 0x10000 * i) 0x10000 1 (regsEng 0 8 i 1000 ++ [.cnt 0x80 2, .cnt 0x88 2] ++ regsCxs 8 (fun _ => [])))
  ++ [{ base := 0x640000, regs := regsEng 1 8 0 1000 ++ regsCxs 8 (fun _ => []) },
   { base := 0x650000, regs := regsEng 2 8 0 1000 ++ regsCxs 8 (fun _ => []) },
   { base := 0x660000, regs := regsEng 3 4 0 1000 ++ regsCxs 4 (fun b => [.plain (b + 0x80) 0 (ones 1)]) },
   { base := 0x670000, regs := regsEng 4 4 0 60000 ++ regsRT ++
       regsCxs 4 (fun b => [.plain (b + 0x80) 0 (ones 2) 2, .acts (b + 0x88) 0x1040 0xFFFFFF]) },
   { base := 0x680000, regs := regsEng 5 4 0 100000 ++ regsCxs 4 (fun _ => []) },
   { base := 0x690000, stride := 0x8000, regs := regsPA },
   { base := 0x698000, stride := 0x80, n := 64, regs := regsEdge 0xFF 0x1F }]
  ++ (List.range 4).map (fun i => RegBlock.mk (0x6A0000 + 0x10000 * i) 0x10000 1 (regsEng 7 8 i 1000 ++ regsCxs 8 (fun _ => [])))
  ++ [{ base := 0x6E0000, regs := regsSS }, { base := 0x700000, stride := 0x1000, n := 16, regs := regsDM },
   { base := 0x800000, stride := 0x400, n := 6400, regs := regsCL },
   { base := 0xF00000, stride := 0x6000, regs := [{ off := 0, n := 6144, rw := 0x37F, dfn := 0x77F }] },
   { base := 0x1000000, stride := 0x800000, regs := regsLF }]

/-- What a 32-bit word of BAR0 is. -/
structure RegWord where
  rst : Nat
  rw : Nat
  act : Nat
  w1c : Nat
  dfn : Nat
  rc : Bool
  /-- Offset of word 0 of the register, and its words. -/
  first : Nat
  words : Nat
  deriving DecidableEq, Repr

/-- The word at offset `o` of a register definition, if it lies there. -/
def RegDef.word (d : RegDef) (base o : Nat) : Option RegWord :=
  if o < base + d.off then none
  else
    let r := o - (base + d.off)
    let i := r / d.step
    let j := if d.n = 1 then r / 4 else (r % d.step) / 4
    let i := if d.n = 1 then 0 else i
    if i < d.n ∧ j < d.words then
      let m (v : Nat) := fld v (32 * j + 31) (32 * j)
      some { rst := m d.rst, rw := m d.rw, act := m d.act, w1c := m d.w1c, dfn := m d.dfn, rc := d.rc,
             first := base + d.off + i * d.step, words := d.words }
    else none

/-- The word at offset `o` of a list of definitions. -/
def regWordIn (base o : Nat) : List RegDef → Option RegWord
  | [] => none
  | d :: r => match d.word base o with
    | some w => some w
    | none => regWordIn base o r

/-- The word at offset `o` of a list of blocks. -/
def regWordAt (o : Nat) : List RegBlock → Option RegWord
  | [] => none
  | b :: r =>
    if b.base ≤ o ∧ o < b.base + b.stride * b.n then
      match regWordIn (b.base + (o - b.base) / b.stride * b.stride) o b.regs with
      | some w => some w
      | none => regWordAt o r
    else regWordAt o r

/-- The register word at a BAR0 offset (a multiple of 4); none where the manual assigns no register (R527). -/
def regWord (o : Nat) : Option RegWord := regWordAt o regBlocks

/-- The entry of the virtual-to-physical map of a usable column on a part with no failed cell (R82, R130). -/
def mapEntry (u : Nat) : Nat := u + u / 24 + 1024

/-- What a word that differs from nothing reads as: its reset value. -/
def regReset (o : Nat) : Word :=
  match regWord o with
  | some w =>
    if 0xF00000 ≤ o ∧ o < 0xF06000 then BitVec.ofNat 32 (mapEntry ((o - 0xF00000) / 4 % 96)) else BitVec.ofNat 32 w.rst
  | none => 0

end Sys2Proof.Machine
end

