-- ==== Sys2Proof/Machine/Sparse.lean ====
section
/-! DEFINITION. Sparse maps from numbers to data, in one canonical form: keys strictly rising, and no entry equal to
what an unlisted key reads as.  Memory, the register space and every numbered collection of the machine use them. -/

namespace Sys2Proof.Machine

/-- The value at a key; an unlisted key reads as `d` of the key. -/
def Sparse.get {α : Type} (d : Nat → α) : List (Nat × α) → Nat → α
  | [], k => d k
  | e :: r, k => if k = e.1 then e.2 else Sparse.get d r k

/-- Put an entry before the first one with a larger key. -/
def Sparse.put {α : Type} : List (Nat × α) → Nat → α → List (Nat × α)
  | [], k, v => [(k, v)]
  | e :: r, k, v => if k < e.1 then (k, v) :: e :: r else e :: Sparse.put r k v

/-- Write a value at a key, keeping the canonical form: no entry when it is what an unlisted key reads as. -/
def Sparse.set {α : Type} [DecidableEq α] (d : Nat → α) (m : List (Nat × α)) (k : Nat) (v : α) : List (Nat × α) :=
  let m := m.filter fun e => e.1 != k
  if v = d k then m else Sparse.put m k v

/-- Every key of the list lies above `k`. -/
def Sparse.above {α : Type} (k : Nat) (m : List (Nat × α)) : Bool := m.all fun e => decide (k < e.1)

/-- The canonical form: keys strictly rising, and no entry equal to the default of its key. -/
def Sparse.wf {α : Type} [DecidableEq α] (d : Nat → α) : List (Nat × α) → Bool
  | [] => true
  | e :: r => Sparse.above e.1 r && decide (e.2 ≠ d e.1) && Sparse.wf d r

/-- Apply a function to every listed value, keeping the canonical form. -/
def Sparse.mapV {α : Type} [DecidableEq α] (d : Nat → α) (f : Nat → α → α) (m : List (Nat × α)) : List (Nat × α) :=
  m.foldr (fun e r => Sparse.set d r e.1 (f e.1 e.2)) []

/-- A finite set of numbers as a rising list: add one. -/
def NatSet.insert : List Nat → Nat → List Nat
  | [], k => [k]
  | j :: r, k => if k < j then k :: j :: r else if k = j then j :: r else j :: NatSet.insert r k

end Sys2Proof.Machine
end

