-- ==== Sys2Proof/Machine/State.lean ====
section
/-! DEFINITION. The state of the Trogar as plain data.  Registers live in one word store addressed by BAR0 offset
(`regs`, R546); memory is one byte store addressed by local offset (`mem`, R226); everything a unit holds that no
register shows is a field of that unit's structure.  Numbered collections are sparse maps (Machine/Sparse.lean). -/

namespace Sys2Proof.Machine

/-- How a step of the block can stop.  No command of the table stops the part, so no meaning answers with one:
a fault of the Trogar is a fault RECORD in the state (R473). -/
inductive Fault where
  /-- Reserved: raised by nobody; the part's own faults are fault records (safe). -/
  | none
  deriving DecidableEq, Repr

/-- Why a command is refused. -/
inductive Refusal where
  /-- The command has no meaning yet; raised by its arm of `exec` only (safe). -/
  | notModelled (mnemonic : String)
  deriving DecidableEq, Repr

/-- The grades of R1. -/
inductive Grade where
  /-- QT9-F, the full part. -/
  | f
  /-- QT9-M. -/
  | m
  /-- QT9-T. -/
  | t
  deriving DecidableEq, Repr

/-! ### What survives every reset: fuses and the SPI NOR (R556) -/

/-- Fuses, and the boot configuration and firmware in SPI NOR (R7 to R10, R560, R561, R567). -/
structure Fuses where
  /-- Grade (R1). -/
  grade : Grade := .f
  /-- 0 = A1, 1 = B0 (R10, R11). -/
  stepping : Nat := 0
  /-- Physical cells fused off at manufacture (R82, R130). -/
  cellOff : List Nat := []
  /-- Physical cells whose switch point failed at manufacture (R83, R130). -/
  switchOff : List Nat := []
  /-- Ceavaton's manufacturer identity in IDCODE (R572). -/
  mfr : Nat := 0
  /-- SE_FUSE_SVN (R571). -/
  svn : Nat := 0
  /-- SE_TAMPER (R571). -/
  tamper : Nat := 0
  /-- The ZEROISED fuse (R567). -/
  zeroised : Bool := false
  /-- A zeroisation that no boot has reported yet (R567). -/
  zeroisedNew : Bool := false
  /-- The wrapped identity seed is still there (R563, R567). -/
  seed : Bool := true
  /-- Hostless operation selected by the boot configuration (R543, R560). -/
  hostless : Bool := false
  /-- Register values the boot configuration gives (R560), by BAR0 word offset. -/
  boot : List (Nat × Word) := []
  /-- Security version of the firmware image in the slots (R561). -/
  fwSvn : Nat := 0
  /-- A thermal trip that the next boot must report (R555). -/
  tripNew : Nat := 0
  /-- SPI NOR bytes rewritten over the sideband (R608). -/
  nor : List (Nat × Byte) := []
  deriving DecidableEq, Repr

/-- Pin levels (R556, R566, R598, R604 to R608). -/
structure Pins where
  /-- porst_n. -/
  porst : Bool := true
  /-- pwr_good. -/
  pwrGood : Bool := true
  /-- VDD_AON present. -/
  aon : Bool := true
  /-- thermtrip_n driven low. -/
  thermtrip : Bool := false
  /-- The part is held in cold reset until porst_n next rises (R555, R567). -/
  heldReset : Bool := false
  /-- LVDS trigger inputs 0 to 7. -/
  lvdsIn : Nat := 0
  /-- LVDS trigger outputs 0 to 7, active level as 1. -/
  lvdsOut : Nat := 0
  /-- 1PPS out. -/
  ppsOut : Bool := false
  /-- refclk_tb present. -/
  refclk : Bool := true
  deriving DecidableEq, Repr

/-! ### Time -/

/-- One domain servo (R44, R45).  Its state is in TB_STATUS, its offset and rate in TB_DOM_OFFSET and TB_DOM_RATE. -/
structure Domain where
  /-- Domain time in fine units (`Clock.fine` of them to a FRAC unit). -/
  time : Nat := 0
  /-- Consecutive measurements within the threshold. -/
  good : Nat := 0
  /-- Reference instant of the last measurement. -/
  lastMeas : Tick := 0
  deriving DecidableEq, Repr

/-- Saffron (R39 to R55) and the refresh schedule (R70 to R72). -/
structure Clock where
  /-- The present instant in reference time: the log's own axis (log entry 1). -/
  now : Tick := 0
  /-- Saffron time in fine units. -/
  saf : Nat := 0
  /-- Rate of the running reference against reference time, in 1/1,024 ppb: 0 while refclk_tb runs (R603). -/
  osc : Int := 0
  /-- Domain A. -/
  domA : Domain := {}
  /-- Domain B. -/
  domB : Domain := {}
  /-- Residual under slew, signed, in fine units (R54). -/
  resid : Int := 0
  /-- TB_PPS_SEC was rewritten since the last pulse (R51). -/
  ppsFresh : Bool := false
  /-- Reference instant of the last 1PPS input pulse. -/
  ppsIn : Option Tick := none
  /-- The last Saffron second whose 1PPS out edge rose (R52). -/
  ppsOutSec : Nat := 0
  /-- Saffron instant at which 1PPS out rose. -/
  ppsRose : Int := 0
  /-- Start of the refresh window in progress or last past, in Saffron ticks. -/
  refStart : Nat := 0
  /-- A refresh window is in progress. -/
  refOn : Bool := false
  /-- A change of the refresh interval called for by a sample at a Saffron instant (R72). -/
  refNew : Option (Bool × Nat) := none
  /-- Points between which Saffron time and the residual moved evenly, oldest first: reference instant, Saffron time in fine
  units, residual (R41, R54, R339, R413). -/
  past : List (Tick × Nat × Int) := []
  deriving DecidableEq, Repr

/-! ### Tokens, results and records -/

/-- A token (R87). -/
structure Token where
  /-- KIND: 0 = data; 1 = control; 2 = null; 3 = mark; 4 = poison. -/
  kind : Nat
  /-- EPOCH of the binding that produced it. -/
  epoch : Nat
  /-- SEQ on its circuit. -/
  seq : Nat
  /-- The 128-bit payload. -/
  payload : QWord
  deriving DecidableEq, Repr

/-- An event record before it is written out (R540). -/
structure EventRec where
  code : Nat
  unit : Nat
  count : Nat
  seq : Nat
  time : Nat
  arg : List Byte
  deriving DecidableEq, Repr

/-- A fault record before it is written out (R474). -/
structure FaultRec where
  code : Nat
  origin : Nat
  bind : Nat := 0
  epoch : Nat := 0
  /-- The physical cell and plane, for a fault of a cell. -/
  cell : Option (Nat × Nat) := none
  /-- Virtual row and column, from CL_VPOS. -/
  vpos : Nat × Nat := (0, 0)
  ctx : Option Nat := none
  pc : Nat := 0
  detail : Nat := 0
  arg : Nat := 0
  addr : Option Nat := none
  time : Nat := 0
  seq : Nat := 0
  deriving DecidableEq, Repr

/-- A rate-limited event's quiet interval on a unit (R620). -/
structure Quiet where
  code : Nat
  unit : Nat
  /-- Saffron end of the interval. -/
  until_ : Nat
  /-- Occurrences counted within it. -/
  count : Nat
  /-- Details of the last of them. -/
  arg : List Byte
  /-- Length of the interval. -/
  len : Nat
  deriving DecidableEq, Repr

/-- A Nenath message (R438). -/
structure Msg where
  addr : Nat
  src : Nat
  bind : Nat := 0
  epoch : Nat := 0
  op : Nat
  timed : Bool := false
  mirror : Bool := false
  vc : Nat := 0
  tag : Nat := 0
  data : List Byte := []
  deriving DecidableEq, Repr

/-- The master of a memory request (R231, R240). -/
inductive Issuer where
  /-- A cell's plane through one of its mq queues. -/
  | cell (cell plane mq : Nat) (answered : Bool)
  /-- An engine context at a dispatch slot. -/
  | ctx (ctx slot : Nat)
  /-- A context's shadow store (R260). -/
  | shadow (ctx : Nat)
  /-- The host over PCIe. -/
  | host
  /-- The debug port (R575). -/
  | debug
  /-- A descriptor ring's own writes and reads (R530, R531). -/
  | ring (ring : Nat)
  /-- A trigger stream's ring, tail or head access (R329). -/
  | stream (stream : Nat)
  /-- A channel's mask test, for its envelope (R326). -/
  | mask (chan : Nat)
  /-- Firmware and Clove. -/
  | firmware
  /-- The remote access service (R544). -/
  | remote
  /-- The duplicate write of a MIRRORED region, for a request of this issuer and number (R244). -/
  | mirror (of_ : Issuer) (req : Nat)
  /-- A peer chip's request, by the port it came in on. -/
  | peer (port : Nat) (msg : Msg)
  deriving DecidableEq, Repr

/-- A memory request between its master and its target (R237 to R240). -/
structure MemReq where
  id : Nat
  issuer : Issuer
  /-- Global address. -/
  addr : Nat
  write : Bool
  /-- Bytes to read. -/
  len : Nat := 0
  /-- Bytes to write. -/
  data : List Byte := []
  /-- Bytes of `data` that take part (byte enables); none = all. -/
  enable : Option Nat := none
  bind : Nat := 0
  epoch : Nat := 0
  /-- An engine output formed from poisoned data (R265). -/
  poison : Bool := false
  /-- Part of a timed send (R438). -/
  timed : Bool := false
  /-- It has waited for a refresh window (DM_REFRESH_WAIT counts it once). -/
  waited : Bool := false
  /-- It is performed only after every earlier request of its issuer (R208, R213). -/
  fenced : Bool := false
  /-- A collective message (R288, R438). -/
  coll : Bool := false
  /-- The code that another part of the same duplicate write was answered with (R243). -/
  err : Nat := 0
  /-- Part of a launched result that departs at this Saffron instant: over Nenath, or into a ring on this chip (R21, R57). -/
  due : Option Nat := none
  deriving DecidableEq, Repr

/-- An answer on its way to the issuer of a request (R439, R440). -/
structure MemAns where
  req : MemReq
  /-- 0 = performed; else a code of R476. -/
  code : Nat
  data : List Byte := []
  poison : Bool := false
  deriving DecidableEq, Repr

/-- What a held result puts on the pins or into memory when it departs (R57). -/
inductive Body where
  /-- An Ethernet frame; `fcs`: the last four bytes are its FCS. -/
  | frame (bytes : List Byte) (fcs ip4 l4 : Bool)
  /-- Records of a trigger stream, without their SEQ. -/
  | records (recs : List (List Byte))
  /-- An edge of an LVDS output. -/
  | edge (active : Bool)
  /-- The 1PPS edge. -/
  | pps
  /-- A timed send or a timed posting: bytes to an address. -/
  | store (addr : Nat) (bytes : List Byte)
  /-- A Nenath flit. -/
  | flit (bytes : List Byte)
  deriving DecidableEq, Repr

/-- What asked for a launched or untimed result. -/
inductive Origin where
  /-- A transmit descriptor of a ring, by index. -/
  | txRing (ring index : Nat)
  /-- A reflex reply, by its number in `Pa.replies`. -/
  | reply (id : Nat)
  /-- A cancel or a PSEND frame of a template (R422, R427, R429). -/
  | template (ctx tpl : Nat)
  /-- A trigger stream. -/
  | stream (stream : Nat)
  /-- A combiner's trigger output pulse, by its number. -/
  | pulse (comb id : Nat)
  /-- An engine context's timed instruction, by its slot and the epoch of its binding. -/
  | ctx (ctx slot epoch : Nat)
  /-- A unit of the part itself. -/
  | unit
  deriving DecidableEq, Repr

/-- A result in an egress holding stage, or waiting in the core for a place in it (R21, R58, R59). -/
structure Held where
  /-- Launch time in Saffron ticks; none = untimed (R23). -/
  launch : Option Nat
  /-- Saffron instant of completion. -/
  complete : Nat
  /-- Order of entry. -/
  entry : Nat := 0
  /-- Saffron instant of entry. -/
  entered : Nat := 0
  /-- Late policy DROP (R61). -/
  drop : Bool := false
  prio : Nat := 0
  origin : Origin := .unit
  body : Body
  /-- Poison reached the edge (R92). -/
  poison : Bool := false
  /-- Saffron instant until which its destination had too little free space (R329). -/
  stuck : Nat := 0
  bind : Nat := 0
  /-- A control frame of the MAC's own: it takes no place of the stage and goes ahead of every untimed frame (R388). -/
  ctl : Bool := false
  deriving DecidableEq, Repr

/-- What has left the part at its pins, newest first. -/
structure Departure where
  edge : Nat
  /-- Saffron instant of departure (R57). -/
  at_ : Nat
  body : Body
  stomped : Bool := false
  /-- What asked for it. -/
  origin : Origin := .unit
  /-- The codewords of a flit in order, each with its lane (R355, R431). -/
  line : List (Nat × List Byte) := []
  deriving DecidableEq, Repr

/-- A preemptable frame that has started, or what a cut has left of it (R391). -/
structure Frag where
  /-- Saffron instant of its first byte after the preamble, in 1/25 of a tick. -/
  at_ : Nat
  /-- Bytes from there to the end of its FCS. -/
  left : Nat
  /-- It has been cut before. -/
  cut : Bool := false
  deriving DecidableEq, Repr

/-- An egress holding stage (R58). -/
structure Stage where
  /-- Results held. -/
  held : List Held := []
  /-- Results waiting in the core for a place. -/
  wait : List Held := []
  /-- Next order of entry. -/
  next : Nat := 0
  /-- Saffron instant until which the edge is in use by what yields to nothing, in 1/25 of a tick (the byte times of R389 are
  whole in it). -/
  busy : Nat := 0
  /-- The preemptable frame on the line, or what is left of it. -/
  frag : Option Frag := none
  deriving DecidableEq, Repr

/-! ### The Lattice -/

/-- The state codes of CL_PLANE_STAT (R122). -/
inductive PlaneState where
  /-- 0. -/
  | idle
  /-- 1. -/
  | running
  /-- 2. -/
  | waiting
  /-- 3. -/
  | halted
  /-- 4. -/
  | faulted
  deriving DecidableEq, Repr

/-- What exists once per configuration plane (R86, R139). -/
structure Plane where
  pc : Nat := 0
  /-- x0 to x15. -/
  x : List (Nat × DWord) := []
  /-- k0 to k7. -/
  k : List (Nat × Word) := []
  flags : Nat := 0
  /-- The pending-mark register. -/
  mark : Option QWord := none
  st : PlaneState := .idle
  /-- Saffron instant at which the present instruction found its condition unmet (R95). -/
  waitFrom : Option Nat := none
  /-- WAITT deadline of the present instruction, in Saffron ticks. -/
  deadline : Option Nat := none
  /-- Governed tokens still to move of a started ROUTE, GATE or MERGE (R176). -/
  left : Option Nat := none
  /-- Output queues the plane owns, formed at RUN (R92). -/
  owned : List Nat := []
  /-- Owned queues that are still owed a poison token (R92). -/
  owed : List Nat := []
  /-- A debug halt holds the plane (R577). -/
  dbg : Bool := false
  /-- One debug step is to be taken. -/
  step : Bool := false
  deriving DecidableEq, Repr

/-- A request in an mq queue (R163). -/
structure MqEntry where
  write : Bool
  addr : Nat
  data : QWord
  answered : Bool
  plane : Nat
  epoch : Nat
  /-- Dispatch address of the instruction that made it. -/
  pc : Nat
  deriving DecidableEq, Repr

/-- A request that has left mq and awaits its answer (R98). -/
structure OutReq where
  mq : Nat
  /-- Its number in `Mem`. -/
  id : Nat
  answered : Bool
  pc : Nat
  /-- A CELL_RESET came after it: its answer is discarded (R121, R513). -/
  dead : Bool := false
  /-- A store without completion that has been performed on this chip; its buddy's copy may follow (R244). -/
  here : Bool := false
  deriving DecidableEq, Repr

/-- A cell (R86).  Its SRAM is the cell's window of `Mem.bytes`. -/
structure Cell where
  planes : List (Nat × Plane) := []
  /-- Code: plane × 1,024 + address. -/
  code : List (Nat × DWord) := []
  /-- Activation look-up table. -/
  lut : List (Nat × BitVec 16) := []
  acc : List (Nat × Word) := []
  /-- The accumulators are poisoned (R139). -/
  apsn : Bool := false
  /-- Token queues: 0 to 7 = qi, 8 and 9 = mp0 and mp1, 16 to 23 = qo. -/
  q : List (Nat × List Token) := []
  /-- mq0 and mq1. -/
  mq : List (Nat × List MqEntry) := []
  /-- Requests that have left mq and await an answer, oldest first. -/
  outst : List OutReq := []
  /-- Outgoing slot tables: port × 16 + index (R105). -/
  slotOut : List (Nat × DWord) := []
  /-- Incoming slot tables. -/
  slotIn : List (Nat × DWord) := []
  /-- Token places of through and tap slots (R106). -/
  place : List (Nat × Option Token) := []
  /-- Slot pointer of each outgoing link. -/
  ptr : List (Nat × Nat) := []
  /-- Next SEQ of each outgoing circuit. -/
  seqOut : List (Nat × Nat) := []
  /-- SEQ of the last token of each incoming circuit. -/
  seqIn : List (Nat × Option Nat) := []
  /-- The plane that holds the cell. -/
  turn : Nat := 0
  /-- Instructions executed in the present turn (R114). -/
  turnCnt : Nat := 0
  /-- CELL_RESET holds until RUN is next set (R121). -/
  resetHold : Bool := false
  /-- Epoch changes seen: the edge units restart their counts by them (R312). -/
  gen : Nat := 0
  deriving DecidableEq, Repr

/-- The edge unit's side of one row's edge port (R85). -/
structure EdgeRow where
  /-- Tokens of each outgoing circuit waiting at the port. -/
  out : List (Nat × List Token) := []
  /-- Slot pointer of the link into the edge cell. -/
  ptr : Nat := 0
  /-- Next SEQ of each outgoing circuit. -/
  seq : List (Nat × Nat) := []
  /-- Tokens that have left the Lattice, by slot, not yet taken in. -/
  inq : List (Nat × Token) := []
  deriving DecidableEq, Repr

/-- The Lattice and its edges. -/
structure Lattice where
  cells : List (Nat × Cell) := []
  /-- West-edge ports, by row (the trigger engine). -/
  west : List (Nat × EdgeRow) := []
  /-- East-edge ports, by row (the parser). -/
  east : List (Nat × EdgeRow) := []
  /-- Rows whose map entries changed while a cell of the row ran: their routing is undefined (R130). -/
  unrouted : List Nat := []
  /-- Cells whose switch point self-test found bad (R83, R559). -/
  switchBad : List Nat := []
  deriving DecidableEq, Repr

/-! ### Memory and memory traffic -/

/-- Bytes that reach memory at a Saffron instant (R57). -/
structure Commit where
  at_ : Nat
  off : Nat
  data : List Byte
  /-- The trigger stream they belong to. -/
  stream : Nat
  deriving DecidableEq, Repr

/-- Memory contents by local offset, their markers, and requests and answers in flight. -/
structure Mem where
  /-- DRAM, Shared Store, cell SRAM windows, dispatch slots and host memory (R226). -/
  bytes : List Host.Cell := []
  /-- Granules (offset ÷ 16) with the poison marker set (R265), rising. -/
  poison : List Nat := []
  /-- DRAM words (offset ÷ 8) holding an error: false = one bit, true = two bits (R233). -/
  ecc : List (Nat × Option Bool) := []
  /-- Requests not yet performed, in order of issue. -/
  inflight : List MemReq := []
  /-- Answers not yet taken by their issuers. -/
  answers : List MemAns := []
  nextId : Nat := 0
  /-- Bytes of the Shared Store written in the present instant: offset, the byte before, and the port that wrote (R231). -/
  justNow : List (Nat × Byte × Nat) := []
  /-- Trigger records released towards a ring on this chip, to be committed at their departure (R57). -/
  commits : List Commit := []
  /-- Regions whose buddy was lost, until their RG_BUDDY is rewritten (R245). -/
  degraded : List Nat := []
  /-- Reads of units that have been counted as waiting in the present refresh window: unit, stack, start of the window
  (R71). -/
  waits : List (Nat × Nat × Nat) := []
  deriving DecidableEq, Repr

/-! ### Engines -/

/-- Where a context stands within its command (R257 to R264). -/
inductive CxPhase where
  /-- No command started. -/
  | none
  /-- The present slot's instruction is ready to start. -/
  | ready
  /-- The present slot's instruction is in progress, and waits for data from other chips. -/
  | reading
  /-- The present slot's instruction is in progress. -/
  | busy
  /-- All instructions have completed; writes may be in flight. -/
  | sealed
  deriving DecidableEq, Repr

/-- The command checkpoint Clove keeps in PW00 (R505). -/
structure Ckpt where
  head : Nat
  consumed : Nat
  done : Nat
  loops : List (Nat × (Nat × Bool))
  ref : Nat
  rng : Nat
  deriving DecidableEq, Repr

/-- What a context holds beside its registers (R256, R263, R270, R505). -/
structure Ctx where
  /-- Slots whose presence bit is set, rising. -/
  present : List Nat := []
  /-- Loop counters and their ARMED bits. -/
  loops : List (Nat × (Nat × Bool)) := []
  phase : CxPhase := .none
  /-- The slot of the present instruction. -/
  slot : Nat := 0
  /-- Slots of the present command. -/
  len : Nat := 0
  /-- Whether the present command holds an instruction with IRQ. -/
  irq : Bool := false
  /-- Counted time of the present command in ticks, and the instant it was last brought up to date. -/
  ran : Nat := 0
  ranAt : Tick := 0
  /-- Timeout of the present command in µs; 0 until its first instruction starts (R263). -/
  timeout : Nat := 0
  /-- Saffron deadline of a waiting WAITT. -/
  deadline : Option Nat := none
  /-- Reference instant at which WAITQ started, and the number of its polls. -/
  waitq : Option (Tick × Nat) := none
  ckpt : Option Ckpt := none
  /-- Launched results of the command that have departed (R505). -/
  launched : Nat := 0
  /-- Launched results still to be discarded in a replay (R509). -/
  discard : Nat := 0
  /-- Bytes read from other chips for the present instruction, by global address. -/
  cache : List (Nat × Byte) := []
  /-- Memory as it stood when the present command (R213), and the present instruction once it waits for operands (R297),
  started. -/
  cmdMem : Option (List Host.Cell) := none
  insMem : Option (List Host.Cell) := none
  /-- What the command stores when it completes: address, bytes, poison (R208, R212, R213). -/
  atEnd : List (Nat × List Byte × Bool) := []
  /-- Stacks, with the start of the refresh window, for which the present instruction has been counted as waiting (R71). -/
  refWaits : List (Nat × Nat) := []
  /-- A poll of WAITQ waits for a refresh window (R71, R269). -/
  pollHeld : Bool := false
  /-- A debug halt holds the context, and one step is to be taken (R578). -/
  dbg : Bool := false
  step : Bool := false
  /-- A stop waits for the boundary (R578, R623): 1 = HALT; 2 = RESET; 4 = a debug halt; added together. -/
  stopReq : Nat := 0
  /-- The context was active when Clove took its engine, and the STATE it had; 6 = its command timed out (R498). -/
  wasActive : Bool := false
  prior : Nat := 0
  /-- Found guilty (R508); in TG and PA, resumed once after a time-out of its present command (R511). -/
  guilty : Bool := false
  deriving DecidableEq, Repr

/-- What an engine holds beside its registers (R262). -/
structure Eng where
  /-- The context whose instruction is in progress. -/
  busy : Option Nat := none
  /-- Reference instant at which that instruction started. -/
  since : Tick := 0
  /-- Last local context served, PRIO = 1 and PRIO = 0. -/
  rrHi : Nat := 0
  rrLo : Nat := 0
  deriving DecidableEq, Repr

/-- A collective contribution received into a staging buffer (R288 to R290, R510). -/
structure CollPart where
  buf : Nat
  step : Nat
  /-- Tree position of the sender; 4,096 marks the result on its way down. -/
  pos : Nat
  data : List Byte
  /-- Instant of its last bytes (R290). -/
  at_ : Tick := 0
  deriving DecidableEq, Repr

/-- The engines and their contexts. -/
structure Engines where
  ctxs : List (Nat × Ctx) := []
  engs : List (Nat × Eng) := []
  /-- Collective contributions received and not yet consumed. -/
  parts : List CollPart := []
  /-- Steps completed on each staging buffer: buffer, step (R288, R510). -/
  collDone : List (Nat × Nat) := []
  /-- CBSHIFT of the TBUILD that built the tables at each TBASE (R224, R284). -/
  cbShift : List (Nat × Nat) := []
  deriving DecidableEq, Repr

/-! ### The trigger engine -/

/-- An event of a source at a stamp (R315). -/
structure Ev where
  src : Nat
  stamp : Nat
  deriving DecidableEq, Repr

/-- A sample on its way to its stream's check point (R324). -/
structure Smp where
  idx : Nat
  v : Int
  stamp : Nat
  /-- The stamp on the present timescale, by which the sample travels and its records are launched (R47, R339). -/
  at_ : Nat
  /-- DRIFT, when the sample is an anchor (R305). -/
  drift : Option Int
  /-- The residual at the stamp of an anchor, in fine units (R339). -/
  resid : Int := 0
  deriving DecidableEq, Repr

/-- A DATA record being formed (R324, R335). -/
structure Run where
  /-- Index and stamp of its first sample. -/
  first : Nat
  stamp : Nat
  /-- Index of its last sample, and that sample's stamp on the present timescale. -/
  last : Nat
  basis : Nat
  /-- Values, newest first. -/
  vals : List Int
  deriving DecidableEq, Repr

/-- What a source has lost since its last admitted record (R331, R337). -/
structure Loss where
  first : Nat
  stamp : Nat
  lost : Nat
  records : Nat
  anchors : Nat
  deriving DecidableEq, Repr

/-- A channel (R303 to R311, R324 to R327). -/
structure Chan where
  /-- Saffron instant at which EN was set. -/
  enAt : Nat := 0
  /-- Index of the next sample to be presented. -/
  next : Nat := 0
  /-- Sample 0 has been presented since EN was set. -/
  started : Bool := false
  /-- Comparator states: none before the first sample; true = UP. -/
  lo : Option Bool := none
  hi : Option Bool := none
  /-- Index of the last rising and falling crossing of each comparator. -/
  loRise : Option Nat := none
  loFall : Option Nat := none
  hiRise : Option Nat := none
  hiFall : Option Nat := none
  /-- Consecutive samples of the comparator's present stay. -/
  loStay : Nat := 0
  hiStay : Nat := 0
  /-- The newest samples with their condition masks, newest first, at most 48. -/
  recent : List (Int × Nat) := []
  /-- Samples between presentation and the check point, oldest first. -/
  line : List Smp := []
  /-- Known recording windows [a, b) of ZS and TRIGGERED. -/
  wins : List (Nat × Nat) := []
  /-- The record being formed. -/
  run : Option Run := none
  /-- DECIM partial group: index and stamp of its first sample, sum, samples. -/
  decim : Option (Nat × Nat × Int × Nat) := none
  /-- A running mask test: its first sample and its combiner. -/
  mask : Option (Nat × Nat) := none
  /-- The envelope of the running test: request, first entry, and its bytes once fetched (R326). -/
  env : List (Nat × Nat × Option (List Byte)) := []
  /-- SN_T0 before the first-lock step, and the first sample counted from the SN_T0 after it (R304). -/
  t0Old : Option (Nat × Nat) := none
  /-- Samples presented when the cell at usable column 0 of a row last changed epoch, by row (R312). -/
  base : List (Nat × Nat) := []
  /-- Lost since the last admitted record. -/
  loss : Option Loss := none
  deriving DecidableEq, Repr

/-- A combiner (R316 to R321). -/
structure Comb where
  /-- Events on their way to the combiner. -/
  coming : List Ev := []
  /-- Events received and still able to take part in a decision. -/
  evs : List Ev := []
  /-- The last instant decided. -/
  decided : Option Nat := none
  /-- Trigger time of the dead interval in progress. -/
  deadFrom : Option Nat := none
  /-- Events suppressed in the interval. -/
  supp : Nat := 0
  /-- DEAD and SUPPRESSED the next MARK reports. -/
  report : Nat × Nat := (0, 0)
  /-- Triggers accepted since TARM. -/
  trigs : Nat := 0
  /-- MARK records on their way to the stream buffer: delivery instant, trigger time and the record without SEQ. -/
  marks : List (Nat × Nat × List Byte) := []
  /-- Pulses started, for the trigger outputs. -/
  pulses : Nat := 0
  deriving DecidableEq, Repr

/-- A record admitted to a stream buffer (R330, R332). -/
structure Rec where
  launch : Nat
  bytes : List Byte
  deriving DecidableEq, Repr

/-- A stream (R328 to R333). -/
structure Strm where
  running : Bool := false
  stopping : Bool := false
  kind : Nat := 0
  ring : Nat := 0
  base : Nat := 0
  size : Nat := 0
  offset : Nat := 0
  tail : Nat := 0
  head : Nat := 0
  delay : Nat := 0
  written : Nat := 0
  consumed : Nat := 0
  /-- Bytes in the stream buffer. -/
  fill : Nat := 0
  /-- Saffron start of backpressure. -/
  bp : Option Nat := none
  /-- Saffron start and end of each backpressure that has ended, oldest first (R319). -/
  pastBp : List (Nat × Nat) := []
  /-- The START record has not been released yet (R339). -/
  first : Bool := false
  /-- Saffron instant from which backpressure is not yet counted in TG_ST_BP_TIME. -/
  bpFrom : Nat := 0
  /-- Reference instant of TSTART, and head polls made. -/
  from_ : Tick := 0
  polls : Nat := 0
  /-- The last Saffron second whose wrap was recorded. -/
  wrapSec : Nat := 0
  deriving DecidableEq, Repr

/-- One circuit from the Lattice into the trigger engine (R312, R313). -/
structure NetOut where
  /-- Data and null tokens taken since the row's cell last changed epoch. -/
  count : Nat := 0
  /-- The cell's `gen` when the counts started. -/
  gen : Nat := 0
  /-- Stamps of periods that a mark followed, each with the Saffron instant at which the mark arrived (R313). -/
  sat : List (Nat × Nat) := []
  /-- Lost since the last admitted record. -/
  loss : Option Loss := none
  deriving DecidableEq, Repr

/-- A formed feature or condition token on its way to the west edge (R310, R311). -/
structure Formed where
  row : Nat
  slot : Nat
  payload : QWord
  deriving DecidableEq, Repr

/-- The trigger engine. -/
structure Tg where
  chans : List (Nat × Chan) := []
  combs : List (Nat × Comb) := []
  streams : List (Nat × Strm) := []
  outs : List (Nat × NetOut) := []
  formed : List Formed := []
  /-- Stamp of the last edge of each LVDS input (R605). -/
  lvdsLast : List (Nat × Option Nat) := []
  /-- Channels whose SN_STATUS RUNNING was cleared by a slip, to be started anew only by EN (R364). -/
  slipped : List Nat := []
  deriving DecidableEq, Repr

/-! ### Serial lanes -/

/-- A group in a lane's deskew stage (R363). -/
structure Group where
  /-- Presentation instant: pin arrival of its SOB plus j × SN_PERIOD, before SN_LAT. -/
  at_ : Nat
  bytes : List Byte
  /-- A code or disparity error was detected in it (R365). -/
  bad : Bool
  /-- Marks that preceded it (R366). -/
  mark : Nat
  /-- It is the first group of a block. -/
  first : Bool
  /-- Pin arrival of its block's SOB. -/
  sob : Nat
  deriving DecidableEq, Repr

/-- A lane (R348 to R371). -/
structure Lane where
  /-- Reference instant of the write that started training. -/
  from_ : Tick := 0
  trained : Bool := false
  /-- The request this side holds, and the status it last sent. -/
  req : Nat := 0
  status : Nat := 0
  /-- This side has sent DONE. -/
  done : Bool := false
  /-- Consecutive codewords with zero syndrome, and uncorrectable ones (Nenath). -/
  goodRun : Nat := 0
  badRun : Nat := 0
  /-- Running disparity positive (sensor). -/
  rdPos : Bool := false
  /-- Code violations in the last 16 characters, newest first. -/
  viol : List Bool := []
  /-- K28.5 characters in a row. -/
  commas : Nat := 0
  /-- Inside a block: groups completed; none = between blocks. -/
  block : Option Nat := none
  /-- Bytes of the group being received, newest first, and whether one was in error. -/
  grp : List Byte := []
  grpBad : Bool := false
  /-- Marks that wait for the group that follows them. -/
  markNext : Nat := 0
  /-- Saffron instant at which the present block's SOB reached the pins. -/
  sob : Option Nat := none
  /-- Bytes of a time symbol being received. -/
  tsym : Option (List Byte) := none
  /-- A complete time symbol waits for the next block. -/
  tsymNext : Option Nat := none
  /-- The deskew stage. -/
  fifo : List Group := []
  /-- The lane relocks with settings it has already trained (R348). -/
  relock : Bool := false
  /-- The transmit half sleeps under AUTO_TX_SLEEP (R370). -/
  autoSleep : Bool := false
  /-- The transmit half has been woken and is not yet usable (R369). -/
  txWaking : Bool := false
  /-- Saffron instant at which the lane entered UP (R360). -/
  upAt : Nat := 0
  /-- The offset of the sensor group whose first lane this is (R362). -/
  grpOff : Nat := 0
  /-- What the last codeword handed the port: its payload, and whether it is uncorrectable (R356). -/
  word : Option (List Byte × Bool) := none
  deriving DecidableEq, Repr

/-! ### Ethernet, parser and composer -/

/-- A frame received and judged good, waiting for its host ring (R386). -/
structure RxFrame where
  stamp : Nat
  bytes : List Byte
  prio : Nat
  ip4 : Nat
  l4 : Nat
  deriving DecidableEq, Repr

/-- An Ethernet port (R378 to R400). -/
structure EPort where
  /-- The receive buffer's frames for the host path. -/
  rx : List RxFrame := []
  /-- Saffron end of each priority's pause (R392). -/
  pause : List (Nat × Nat) := []
  /-- Priorities this side has paused, each with the Saffron instant of its last PFC frame (R388). -/
  xoff : List (Nat × Nat) := []
  /-- Saffron instant since which the transmitter is idle. -/
  idleFrom : Nat := 0
  /-- Saffron instant at which a waking transmitter is usable (R398). -/
  wakeAt : Nat := 0
  /-- Reference instant from which low-power idle is not yet counted, per direction. -/
  lpiTx : Option Tick := none
  lpiRx : Option Tick := none
  /-- Reference instant at which the present AUTO_RATE interval started (R399). -/
  rateFrom : Tick := 0
  deriving DecidableEq, Repr

/-- SC0 (R401). -/
structure Sc0 where
  /-- Frames to send: ring, index, bytes. -/
  tx : List (Nat × Nat × List Byte) := []
  /-- Collisions of the present frame in a row. -/
  tries : Nat := 0
  deriving DecidableEq, Repr

/-- A claimed frame (R409 to R413). -/
structure PFrame where
  num : Nat
  /-- The run of the context that claimed it (`PCtx.run`), and its COPY_HOST. -/
  run : Nat := 0
  copyHost : Bool := false
  port : Nat
  /-- Saffron stamp of the frame (R42), and the reference instant of its first byte. -/
  stamp : Nat
  ref : Tick
  /-- The fields of the context: number, stamp, and bytes in frame order; none = null. -/
  fields : List (Nat × Nat × Option (List Byte))
  /-- The META payload. -/
  meta_ : List Byte
  /-- The frame proved bad, and the stamp of its verdict byte (R425). -/
  verdict : Option (Bool × Nat) := none
  /-- Decision entries already decided. -/
  decided : List Nat := []
  /-- VERDICT_APPLY has acted. -/
  applied : Bool := false
  deriving DecidableEq, Repr

/-- A parse context (R407). -/
structure PCtx where
  running : Bool := false
  stopping : Bool := false
  root : Nat := 0
  ports : Nat := 0
  copyHost : Bool := false
  /-- Runs since reset: PSTART begins one, and frames still arriving keep the run that claimed them. -/
  run : Nat := 0
  claims : Nat := 0
  frames : List PFrame := []
  /-- Tokens taken per decision entry. -/
  counts : List (Nat × Nat) := []
  deriving DecidableEq, Repr

/-- A field token waiting for its instant (R413). -/
structure FieldTok where
  row : Nat
  slot : Nat
  due : Nat
  kind : Nat
  payload : QWord
  deriving DecidableEq, Repr

/-- Where a reply stands (R420 to R427). -/
inductive ReplyState where
  /-- In its fill unit. -/
  | filling
  /-- Handed to the holding stage. -/
  | held
  /-- Released at a Saffron instant and departed at another. -/
  | gone (released departed : Nat)
  /-- Withdrawn, or dropped late. -/
  | ended
  deriving DecidableEq, Repr

/-- A reply, or a cancel (R417 to R427). -/
structure Reply where
  id : Nat
  ctx : Nat
  entry : Nat
  frame : Nat
  /-- The run of the context that claimed the frame. -/
  run : Nat := 0
  tpl : Nat
  port : Nat
  /-- It is a cancel. -/
  cancel : Bool
  /-- CANCEL and DATA of the decision. -/
  wants : Bool
  data : Nat
  launch : Nat
  drop : Bool
  /-- Length on the line. -/
  len : Nat := 0
  state : ReplyState := .filling
  /-- Its frame's bad verdict has been applied to it. -/
  judged : Bool := false
  deriving DecidableEq, Repr

/-- The parser and reply composer. -/
structure Pa where
  ctxs : List (Nat × PCtx) := []
  /-- Field tokens not yet due. -/
  toks : List FieldTok := []
  /-- Fill units: decisions in arrival order, by port (numbers of `replies`). -/
  fill : List (Nat × List Nat) := []
  replies : List Reply := []
  nextReply : Nat := 0
  /-- Writes to templates' directory and patch entries that wait for their template to be free (R422): offset, value. -/
  waiting : List (Nat × Nat) := []
  /-- Template memory, 1 MiB (R418). -/
  tmem : List (Nat × Byte) := []
  deriving DecidableEq, Repr

/-- The Ethernet side of the part. -/
structure Eth where
  ports : List (Nat × EPort) := []
  sc : Sc0 := {}
  deriving DecidableEq, Repr

/-! ### Nenath -/

/-- A DATA flit kept until it is acknowledged (R437). -/
structure Flit where
  seq : Nat
  /-- Bytes 16 to 507. -/
  bytes : List Byte
  /-- Reference instant at which it was first sent. -/
  sent : Tick
  deriving DecidableEq, Repr

/-- A Nenath port (R431 to R437, R449). -/
structure NPort where
  txSeq : Nat := 0
  /-- SEQ of the last DATA flit accepted; 4,095 before the first. -/
  rxSeq : Nat := 4095
  /-- A DATA flit has been accepted since the link layer started. -/
  rxAny : Bool := false
  replay : List Flit := []
  /-- Messages routed to the port and not yet sent. -/
  tx : List Msg := []
  /-- Units of a message that runs on into the next flit. -/
  units : List (List Byte) := []
  /-- Messages received, waiting to be acted on. -/
  rx : List Msg := []
  /-- Credit per virtual channel. -/
  credit : List (Nat × Nat) := []
  /-- Units freed since the last return, per virtual channel. -/
  freed : List (Nat × Nat) := []
  /-- Reference instants of the start of training and of RECOVERING. -/
  trainFrom : Tick := 0
  recFrom : Tick := 0
  /-- t3 of the peer's last TIME flit and its arrival stamp here (R449). -/
  peerTime : Option (Nat × Nat) := none
  /-- Reference instant of the last TIME flit sent. -/
  timeSent : Tick := 0
  /-- This side has sent RESUMED since the port entered RECOVERING. -/
  resuming : Bool := false
  deriving DecidableEq, Repr

/-- A request of this chip in the outstanding store (R439, R451). -/
structure Outst where
  tag : Nat
  req : MemReq
  msg : Msg
  /-- Held for a RECOVERING destination. -/
  held : Bool := false
  deriving DecidableEq, Repr

/-- A RECOVERING destination (R451). -/
structure DestRec where
  /-- Reference instant at which its grace and its hold began. -/
  from_ : Tick
  /-- Reference instant of the last PROBE. -/
  probed : Tick
  deriving DecidableEq, Repr

/-- The fabric. -/
structure Nen where
  ports : List (Nat × NPort) := []
  outst : List Outst := []
  nextTag : Nat := 0
  dests : List (Nat × Option DestRec) := []
  /-- Messages this chip sends itself: table 20 (R444). -/
  own : List Msg := []
  /-- Answers this chip's own router gave to its own requests (R440, R445, R450). -/
  self : List Msg := []
  deriving DecidableEq, Repr

/-! ### Host rings -/

/-- What a ring holds beside its registers (R529 to R542). -/
structure Ring where
  /-- Owned descriptors from NEXT onward, as the last poll found them. -/
  descs : List (List Byte) := []
  /-- Reference instant of the last poll. -/
  polled : Tick := 0
  /-- A record buffer being filled: bytes written, records, STAMP of the first, reference instant of the first. -/
  buf : Option (Nat × Nat × Nat × Tick) := none
  /-- Transmit descriptors taken and not yet returned: index, descriptor, STATUS and TIME once known. -/
  taken : List (Nat × List Byte × Option (Nat × Nat)) := []
  /-- End of the present holdoff, and whether a return fell inside it. -/
  quiet : Tick := 0
  owing : Bool := false
  /-- Reads of a poll from another chip, in order, with what has been answered, and NEXT when they were issued. -/
  poll : List (Nat × Option (List Byte)) := []
  pollFrom : Nat := 0
  /-- A transmit frame being read from another chip: descriptor index, descriptor, and the reads in order. -/
  fetch : Option (Nat × List Byte) := none
  parts : List (Nat × Option (List Byte)) := []
  deriving DecidableEq, Repr

/-- A remote access request being served (R544). -/
structure RaReq where
  op : Nat
  tag : Nat
  len : Nat
  addr : Nat
  /-- Its memory requests in order, with what has been answered. -/
  parts : List (Nat × Option (List Byte))
  /-- STATUS of the answer so far. -/
  status : Nat := 0
  deriving DecidableEq, Repr

/-- The host interface. -/
structure HostIf where
  /-- Rings 0 to 127; 128 = event ring; 129 = fault ring. -/
  rings : List (Nat × Ring) := []
  events : List EventRec := []
  faults : List FaultRec := []
  evSeq : Nat := 0
  fltSeq : Nat := 0
  quiets : List Quiet := []
  /-- MSI-X messages signalled, newest first: vector. -/
  msix : List Nat := []
  /-- Remote access requests not yet answered, oldest first, and answers sent, newest first (R544). -/
  ra : List RaReq := []
  raAns : List (List Byte) := []
  /-- Last ring served per Ethernet port (R538). -/
  rr : List (Nat × Nat) := []
  deriving DecidableEq, Repr

/-! ### Power, security, recovery, debug and lifetime -/

/-- Power, governor and start-up (R549 to R558, R600 to R602). -/
structure Pwr where
  /-- Level raised under R66, in mV; 0 = none. -/
  raised : Nat := 0
  /-- Reference instant since which the margin has stayed at or above 2 %. -/
  goodFrom : Option Tick := none
  /-- AVSBus has failed and the rails count as fixed (R602). -/
  avsFail : Bool := false
  /-- DRAM grant turns are halved (R555). -/
  dramHalf : Bool := false
  /-- Reference instant since which pacing is in force and not yet counted in PW_PACED_NS (R569). -/
  pacedFrom : Option Tick := none
  /-- SLACK_EXHAUSTED and POWER_OVER_BUDGET posted and not yet left. -/
  slackOut : Bool := false
  /-- Reference instant of the start of the present boot. -/
  bootFrom : Tick := 0
  /-- Reference instant of the last reset cause that GL_RESET_CAUSE took (R599). -/
  causeAt : Option Tick := none
  /-- Power domains of which a binding has held something since ON was last written 1 (R552). -/
  claimed : List Nat := []
  /-- First DRAM temperature sample after training has been taken, and the grid's start (R236). -/
  tempFrom : Option Tick := none
  /-- Temperature samples taken on the grid. -/
  tempCnt : Nat := 0
  deriving DecidableEq, Repr

/-- The security store (R563 to R567). -/
structure Se where
  /-- A measurement in progress: BIND_ID, EPOCH, address, length. -/
  meas : Option (Nat × Nat × Nat × Nat) := none
  /-- A report in progress: its bytes and its address. -/
  att : Option (List Byte × Nat) := none
  /-- The derived keys are present. -/
  keys : Bool := false
  deriving DecidableEq, Repr

/-- Clove (R496 to R519). -/
structure Clove where
  /-- Engines taken, in order; the first is being worked on. -/
  queue : List Nat := []
  /-- Reference instant at which work on the present engine began. -/
  from_ : Tick := 0
  /-- Suspects still to be replayed. -/
  suspects : List Nat := []
  /-- The context being replayed. -/
  replay : Option Nat := none
  /-- A guilty context was found on the present engine. -/
  guilty : Bool := false
  /-- The step of R501 in progress: 0 = none; 1 = image 0; 2 = reset; 3 = check; 4 = image 1. -/
  step : Nat := 0
  /-- Reference instant at which the present step began. -/
  stepFrom : Tick := 0
  /-- Units of the dump image being read: number and data; none = UNREADABLE. -/
  units : List (Nat × Option (List Byte)) := []
  /-- Fault record SEQ of the image. -/
  dumpSeq : Nat := 0
  /-- SEQ of the CMD_TIMEOUT record with which each engine was last taken (R504). -/
  seqs : List (Nat × Nat) := []
  /-- An image was taken during a replay. -/
  dumpReplay : Bool := false
  /-- Saffron instant at which the present image was started. -/
  imgAt : Nat := 0
  /-- The engine of a dump on demand (R584). -/
  demand : Option Nat := none
  /-- The context whose replay reached its timeout, until it is found guilty (R507). -/
  late : Option Nat := none
  /-- A unit of image 0 was UNREADABLE (R511). -/
  unread : Bool := false
  /-- Register values an engine had when Clove took it (R497), or cells and contexts before a chip-level recovery. -/
  snap : List (Nat × Word) := []
  /-- A drain of the Lattice: reference instant of GO (R513). -/
  drainFrom : Tick := 0
  /-- Step of a chip-level recovery (R519), 8 = the attempt has failed (R520); none = none in progress. -/
  chip : Option Nat := none
  chipFrom : Tick := 0
  /-- Reduction contexts in the replay of R516, with the highest STEP of their logs. -/
  replaying : List (Nat × Nat) := []
  /-- Cells that took LINK_SEQ and await the pattern test (R512). -/
  suspectCells : List Nat := []
  /-- RT_CTRL.FORCE_FIXED as it was before Clove set it (R290, R490). -/
  forced : Option Bool := none
  /-- A spare chip has taken over an identifier and has not yet answered READY (R521). -/
  takeover : Bool := false
  deriving DecidableEq, Repr

/-- The debug port (R572 to R584). -/
structure Dbg where
  /-- The TAP's instruction register. -/
  ir : Nat := 1
  /-- The selected data register as last captured or shifted in. -/
  dr : Nat := 0
  /-- Values preloaded into the boundary register. -/
  preload : Nat := 0
  /-- The access in progress, by request number. -/
  pending : Option Nat := none
  /-- STATUS, DATA of the last access. -/
  status : Nat := 0
  data : QWord := 0
  /-- Matches counted since each breakpoint was enabled. -/
  matches_ : List (Nat × Nat) := []
  /-- A TYPE 5 breakpoint has fired since it was enabled. -/
  fired : List Nat := []
  /-- Bindings a halt with FREEZE reached (R580). -/
  frozen : List Nat := []
  deriving DecidableEq, Repr

/-- The lifetime log's accumulators in PW00 (R586); the log itself is the LF window of `regs`. -/
structure Lf where
  /-- Histogram counts not yet folded in, by image offset. -/
  hist : List (Nat × Nat) := []
  /-- Event counts not yet folded in, by image offset. -/
  cnt : List (Nat × Nat) := []
  /-- Samples of the interval: highest and lowest junction, VDD_CORE, slack; DRAM junction; FLAGS. -/
  tjMax : Int := -128
  tjMin : Int := 127
  vMax : Nat := 0
  vMin : Nat := 65535
  slackMin : Int := 32767
  dramMax : Nat := 0
  flags : Nat := 0
  /-- Sum and number of PW_TOTAL readings. -/
  pSum : Nat := 0
  pNum : Nat := 0
  /-- Reference instant of the last aggregation. -/
  from_ : Tick := 0
  deriving DecidableEq, Repr

/-- The state of the block. -/
structure State where
  fuse : Fuses := {}
  pin : Pins := {}
  clk : Clock := {}
  /-- The register space: words by BAR0 offset, where they differ from their reset value. -/
  regs : List (Nat × Word) := []
  /-- High words latched by a read of a low word (R15, R75). -/
  latch : List (Nat × Word) := []
  /-- Counter words that have counted in the present instant, as they stood when it began (R16). -/
  rcOld : List (Nat × Option Word) := []
  /-- The value of the last register read. -/
  bus : Nat := 0
  mem : Mem := {}
  lat : Lattice := {}
  eng : Engines := {}
  tg : Tg := {}
  lanes : List (Nat × Lane) := []
  eth : Eth := {}
  pa : Pa := {}
  nen : Nen := {}
  host : HostIf := {}
  stages : List (Nat × Stage) := []
  /-- What has left the part, newest first. -/
  out : List Departure := []
  pwr : Pwr := {}
  se : Se := {}
  rv : Clove := {}
  dbg : Dbg := {}
  /-- Bindings whose wait bounds and timeouts do not count (R452, R497, R580), and the Saffron instant since which. -/
  paused : List (Nat × Nat) := []
  lf : Lf := {}
  /-- The model's own counter of free values used (log entry 2). -/
  free : Nat := 0
  /-- Commands waiting, first in first out. -/
  pending : List Instr := []
  deriving DecidableEq, Repr

/-- The part right after a cold reset begins its start-up: porst_n has just risen, GL_BOOT.PHASE is 0 and only PW00 is
on (R556, R558).  Grade QT9-F, stepping A1, no failed cell (log entry 4). -/
def State.reset : State := {}

end Sys2Proof.Machine
end

