-- ==== Sys2Proof/Machine/Ops.lean ====
section
/-! DEFINITION. The named operations every command is built from: registers, units, time, free values, memory bytes,
requests, and the test whether a unit is present and powered. -/

namespace Sys2Proof.Machine

/-- What a step answers. -/
abbrev Result := Host.Outcome State Fault Refusal

/-! ### Registers as stored -/

/-- The stored word at a BAR0 offset. -/
def State.reg (s : State) (o : Nat) : Nat := (Sparse.get regReset s.regs o).toNat

/-- Store a word. -/
def State.setReg (s : State) (o v : Nat) : State :=
  { s with regs := Sparse.set regReset s.regs o (BitVec.ofNat 32 v) }

/-- Field `[hi:lo]` of a stored word. -/
def State.rf (s : State) (o hi lo : Nat) : Nat := fld (s.reg o) hi lo

/-- Replace field `[hi:lo]` of a stored word. -/
def State.setRf (s : State) (o hi lo x : Nat) : State := s.setReg o (setFld (s.reg o) hi lo x)

/-- Bit `i` of a stored word. -/
def State.rb (s : State) (o i : Nat) : Bool := bit (s.reg o) i

/-- Set or clear bit `i` of a stored word. -/
def State.setRb (s : State) (o i : Nat) (b : Bool) : State := s.setRf o i i (b2n b)

/-- The stored 64-bit register at `o`, low word first (R12). -/
def State.reg64 (s : State) (o : Nat) : Nat := s.reg o + s.reg (o + 4) * 2 ^ 32

/-- Store a 64-bit register. -/
def State.setReg64 (s : State) (o v : Nat) : State := (s.setReg o v).setReg (o + 4) (v / 2 ^ 32)

/-- The stored three-word Saffron register at `o`. -/
def State.reg96 (s : State) (o : Nat) : Nat := s.reg64 o + s.reg (o + 8) * 2 ^ 64

/-- Store a three-word register. -/
def State.setReg96 (s : State) (o v : Nat) : State := (s.setReg64 o v).setReg (o + 8) (v / 2 ^ 64)

/-- Keep what a counter word held when the present instant began (R16). -/
def State.rcNote (s : State) (o : Nat) : State :=
  { s with rcOld := match Sparse.get (fun _ => none) s.rcOld o with
      | some _ => s.rcOld
      | none => Sparse.set (fun _ => none) s.rcOld o (some (BitVec.ofNat 32 (s.reg o))) }

/-- Add to a 32-bit counter, modulo 2^32 (log entry 5). -/
def State.inc (s : State) (o : Nat) (n : Nat := 1) : State := (s.rcNote o).setReg o (s.reg o + n)

/-- Add to a 64-bit counter, modulo 2^64 (log entry 5). -/
def State.inc64 (s : State) (o : Nat) (n : Nat := 1) : State :=
  ((s.rcNote o).rcNote (o + 4)).setReg64 o (s.reg64 o + n)

/-- Add to a 64-bit counter that saturates at its maximum (R402). -/
def State.incSat (s : State) (o : Nat) (n : Nat := 1) : State :=
  ((s.rcNote o).rcNote (o + 4)).setReg64 o (min (2 ^ 64 - 1) (s.reg64 o + n))

/-- Add to a 64-bit counter, which may saturate, what it counted before the present instant. -/
def State.incPast (s : State) (o n : Nat) (sat : Bool := false) : State :=
  let old (j : Nat) : Option Word := Sparse.get (fun _ => none) s.rcOld (o + 4 * j)
  let cap (v : Nat) : Nat := if sat then min (2 ^ 64 - 1) v else v
  let s' := s.setReg64 o (cap (s.reg64 o + n))
  match old 0, old 1 with
  | some a, some b =>
    let v := cap (a.toNat + b.toNat * 2 ^ 32 + n)
    let put (l : List (Nat × Option Word)) (k v : Nat) := Sparse.set (fun _ => none) l k (some (BitVec.ofNat 32 v))
    { s' with rcOld := put (put s.rcOld o v) (o + 4) (v / 2 ^ 32) }
  | _, _ => s'

/-- What a register counted by `inc` has counted in the present instant: a read clears it and this lands after (R16). -/
def State.rcFresh (s : State) (first words : Nat) : Nat :=
  let sum (f : Nat → Nat) : Nat := ((List.range words).map fun j => f (first + 4 * j) * 2 ^ (32 * j)).sum
  let old (o : Nat) : Nat := match Sparse.get (fun _ => none) s.rcOld o with | some v => v.toNat | none => s.reg o
  (sum s.reg + 2 ^ (32 * words) - sum old) % 2 ^ (32 * words)

/-! ### Block bases (R546) -/

/-- PW block of domain `d`. -/
def pwB (d : Nat) : Nat := 0x10000 + 0x100 * d
/-- HI block of ring `r`: 0 to 127, 128 = event ring, 129 = fault ring. -/
def ringB (r : Nat) : Nat := if r < 128 then 0x81000 + 0x40 * r else if r = 128 then 0x80800 else 0x80840
/-- EM block of EP`n`. -/
def emB (n : Nat) : Nat := 0x100000 + 0x10000 * n
/-- LN block of lane `n`. -/
def lnB (n : Nat) : Nat := 0x200000 + 0x1000 * n
/-- SN block of channel `n`. -/
def snB (n : Nat) : Nat := 0x340000 + 0x400 * n
/-- TG block of combiner `n`. -/
def combB (n : Nat) : Nat := 0x3E0000 + 0x800 * n
/-- TG registers of stream `n`. -/
def strmB (n : Nat) : Nat := 0x3C0200 + 0x40 * n
/-- TG registers of LVDS output `n`. -/
def gpoB (n : Nat) : Nat := 0x3C0120 + 0x10 * n
/-- NF block of NP`n`. -/
def nfB (n : Nat) : Nat := 0x400000 + 0x10000 * n
/-- CL block of physical cell `n`. -/
def clB (n : Nat) : Nat := 0x800000 + 0x400 * n
/-- DM block of stack `n`. -/
def dmB (n : Nat) : Nat := 0x700000 + 0x1000 * n
/-- Region entry `n`. -/
def rgB (n : Nat) : Nat := 0x6E1000 + 0x20 * n
/-- Registers of domain A or B. -/
def domB (d : Dom) : Nat := match d with | .a => 0x20040 | .b => 0x20080
/-- NF_DEST of chip INDEX `d`. -/
def destR (d : Nat) : Nat := 0x541000 + 4 * d

/-! ### Units by number -/

/-- A physical cell's state. -/
def State.cell (s : State) (n : Nat) : Cell := Sparse.get (fun _ => {}) s.lat.cells n
def State.setCell (s : State) (n : Nat) (c : Cell) : State :=
  { s with lat := { s.lat with cells := Sparse.set (fun _ => {}) s.lat.cells n c } }
/-- A plane of a cell. -/
def Cell.plane (c : Cell) (p : Nat) : Plane := Sparse.get (fun _ => {}) c.planes p
def Cell.setPlane (c : Cell) (p : Nat) (v : Plane) : Cell := { c with planes := Sparse.set (fun _ => {}) c.planes p v }
/-- A token queue of a cell. -/
def Cell.queue (c : Cell) (i : Nat) : List Token := Sparse.get (fun _ => []) c.q i
def Cell.setQueue (c : Cell) (i : Nat) (l : List Token) : Cell := { c with q := Sparse.set (fun _ => []) c.q i l }
/-- An mq queue of a cell. -/
def Cell.mqq (c : Cell) (i : Nat) : List MqEntry := Sparse.get (fun _ => []) c.mq i
def Cell.setMqq (c : Cell) (i : Nat) (l : List MqEntry) : Cell := { c with mq := Sparse.set (fun _ => []) c.mq i l }
/-- West-edge and east-edge ports. -/
def State.west (s : State) (r : Nat) : EdgeRow := Sparse.get (fun _ => {}) s.lat.west r
def State.setWest (s : State) (r : Nat) (e : EdgeRow) : State :=
  { s with lat := { s.lat with west := Sparse.set (fun _ => {}) s.lat.west r e } }
def State.east (s : State) (r : Nat) : EdgeRow := Sparse.get (fun _ => {}) s.lat.east r
def State.setEast (s : State) (r : Nat) (e : EdgeRow) : State :=
  { s with lat := { s.lat with east := Sparse.set (fun _ => {}) s.lat.east r e } }
/-- A context, by global number. -/
def State.cx (s : State) (n : Nat) : Ctx := Sparse.get (fun _ => {}) s.eng.ctxs n
def State.setCx (s : State) (n : Nat) (c : Ctx) : State :=
  { s with eng := { s.eng with ctxs := Sparse.set (fun _ => {}) s.eng.ctxs n c } }
/-- An engine, by the number of `engineOf`. -/
def State.engine (s : State) (n : Nat) : Eng := Sparse.get (fun _ => {}) s.eng.engs n
def State.setEngine (s : State) (n : Nat) (e : Eng) : State :=
  { s with eng := { s.eng with engs := Sparse.set (fun _ => {}) s.eng.engs n e } }
/-- A channel, combiner, stream and west-edge circuit of the trigger engine. -/
def State.chan (s : State) (n : Nat) : Chan := Sparse.get (fun _ => {}) s.tg.chans n
def State.setChan (s : State) (n : Nat) (c : Chan) : State :=
  { s with tg := { s.tg with chans := Sparse.set (fun _ => {}) s.tg.chans n c } }
def State.comb (s : State) (n : Nat) : Comb := Sparse.get (fun _ => {}) s.tg.combs n
def State.setComb (s : State) (n : Nat) (c : Comb) : State :=
  { s with tg := { s.tg with combs := Sparse.set (fun _ => {}) s.tg.combs n c } }
def State.strm (s : State) (n : Nat) : Strm := Sparse.get (fun _ => {}) s.tg.streams n
def State.setStrm (s : State) (n : Nat) (c : Strm) : State :=
  { s with tg := { s.tg with streams := Sparse.set (fun _ => {}) s.tg.streams n c } }
def State.netOut (s : State) (n : Nat) : NetOut := Sparse.get (fun _ => {}) s.tg.outs n
def State.setNetOut (s : State) (n : Nat) (c : NetOut) : State :=
  { s with tg := { s.tg with outs := Sparse.set (fun _ => {}) s.tg.outs n c } }
/-- A lane. -/
def State.lane (s : State) (n : Nat) : Lane := Sparse.get (fun _ => {}) s.lanes n
def State.setLane (s : State) (n : Nat) (l : Lane) : State := { s with lanes := Sparse.set (fun _ => {}) s.lanes n l }
/-- An Ethernet port. -/
def State.ep (s : State) (n : Nat) : EPort := Sparse.get (fun _ => {}) s.eth.ports n
def State.setEp (s : State) (n : Nat) (p : EPort) : State :=
  { s with eth := { s.eth with ports := Sparse.set (fun _ => {}) s.eth.ports n p } }
/-- A parse context, by local number. -/
def State.pctx (s : State) (n : Nat) : PCtx := Sparse.get (fun _ => {}) s.pa.ctxs n
def State.setPctx (s : State) (n : Nat) (c : PCtx) : State :=
  { s with pa := { s.pa with ctxs := Sparse.set (fun _ => {}) s.pa.ctxs n c } }
/-- A Nenath port. -/
def State.np (s : State) (n : Nat) : NPort := Sparse.get (fun _ => {}) s.nen.ports n
def State.setNp (s : State) (n : Nat) (p : NPort) : State :=
  { s with nen := { s.nen with ports := Sparse.set (fun _ => {}) s.nen.ports n p } }
/-- A descriptor ring. -/
def State.ring (s : State) (n : Nat) : Ring := Sparse.get (fun _ => {}) s.host.rings n
def State.setRing (s : State) (n : Nat) (r : Ring) : State :=
  { s with host := { s.host with rings := Sparse.set (fun _ => {}) s.host.rings n r } }
/-- An egress holding stage. -/
def State.stage (s : State) (n : Nat) : Stage := Sparse.get (fun _ => {}) s.stages n
def State.setStage (s : State) (n : Nat) (e : Stage) : State := { s with stages := Sparse.set (fun _ => {}) s.stages n e }

/-! ### Free values (log entry 2) -/

/-- A value the manual does not fix. -/
def State.freeVal (s : State) : Nat := (Config.freeValue s.free).toNat

/-- The state after one free value has been used. -/
def State.useFree (s : State) (n : Nat := 1) : State := { s with free := s.free + n }

/-! ### Writes of reserved bits (R14) -/

/-- Every defined field of a register holds a value the manual does not fix (R14). -/
def State.undefine (s : State) (w : RegWord) : State :=
  (List.range w.words).foldl (fun s j =>
    match regWord (w.first + 4 * j) with
    | some v => s.useFree.setReg (w.first + 4 * j) (mixBits v.dfn (s.reg (w.first + 4 * j)) s.freeVal)
    | none => s) s

/-- A value written to a word, and the state: with a reserved bit written as 1 the register's fields hold values that the
manual does not fix (R14; log entry 91). -/
def State.written (s : State) (o v : Nat) : State × Nat :=
  match regWord o with
  | none => (s, 0)
  | some w =>
    if v &&& w.dfn = v then (s, v)
    else
      let s := s.undefine w
      (s.useFree, s.freeVal % 2 ^ 32 &&& w.dfn)

/-! ### Time (R39, R40, R621) -/

/-- Ticks to a nanosecond. -/
abbrev tns : Nat := 65536
/-- Ticks to a microsecond, a millisecond and a second. -/
abbrev tus : Nat := 65536000
abbrev tms : Nat := 65536000000
abbrev tsec : Nat := 65536000000000
/-- The launch grain of 0.5 ns in ticks (R56). -/
abbrev grain : Nat := 32768
/-- Fine units to a tick: fine enough that a rate in 1/1,024 ppb and a slew in ppb are exact. -/
abbrev fine : Nat := 1024000000000000000000

/-- The three fields of R39 of an instant counted in ticks, as one 96-bit number. -/
def pack96 (t : Nat) : Nat := (t / tsec) * 2 ^ 48 + (t / tns % 1000000000) * 2 ^ 16 + t % tns

/-- The instant in ticks that a 96-bit value names at face value, normalised (R619). -/
def unpack96 (v : Nat) : Nat := (v / 2 ^ 48 * 1000000000 + v / 2 ^ 16 % 2 ^ 32) * tns + v % tns

/-- Saffron time truncated to a tick (R621). -/
def State.sn (s : State) : Nat := s.clk.saf / fine

/-- Saffron time of the present instant rounded up to a tick: an instant of the core is at or before a tick of Saffron
time exactly when this is (R621). -/
def State.snUp (s : State) : Nat := (s.clk.saf + fine - 1) / fine

/-- Whole nanoseconds between two instants of reference time, as the ns counters count them. -/
def nsBetween (a b : Nat) : Nat := b / tns - a / tns

/-- The nanoseconds a counter that has run since an instant counted before the present one (R16). -/
def State.nsPast (s : State) (from_ : Tick) : Nat := nsBetween from_ (s.clk.now - 1)

/-- A nanosecond counter that has run since an instant stops: what it counted is added to its register. -/
def State.settleNs (s : State) (o : Nat) (from_ : Tick) (sat : Bool := false) : State :=
  let now := nsBetween from_ s.clk.now - s.nsPast from_
  let s := s.incPast o (s.nsPast from_) sat
  if sat then s.incSat o now else s.inc64 o now

/-- Half nanoseconds of backpressure that a stream counted before an instant and has not yet added (R16). -/
def Strm.bpPast (t : Strm) (now : Nat) : Nat := (now - 1 - t.bpFrom) / grain

/-- The state codes of TB_STATUS for a domain (R77): 0 = FREERUN; 1 = ACQUIRE; 2 = LOCKED; 3 = HOLDOVER. -/
def State.domSt (s : State) (d : Dom) : Nat := match d with | .a => s.rf 0x20004 2 1 | .b => s.rf 0x20004 4 3
def State.setDomSt (s : State) (d : Dom) (v : Nat) : State :=
  match d with | .a => s.setRf 0x20004 2 1 v | .b => s.setRf 0x20004 4 3 v

/-- The selected domain (R77). -/
def State.selDom (s : State) : Dom := if s.rb 0x20004 0 then .b else .a

/-- TB_STATUS: REFCLK_OK follows the reference from 10 µs after the start of the boot on (R77; log entry 97). -/
def State.tbStatus (s : State) : Nat :=
  setFld (s.reg 0x20004) 7 7 (b2n (s.pin.refclk && (s.rb 0x20004 7 || decide (s.pwr.bootFrom + 10 * tus ≤ s.clk.now))))

def State.dom (s : State) (d : Dom) : Domain := match d with | .a => s.clk.domA | .b => s.clk.domB
def State.setDom (s : State) (d : Dom) (v : Domain) : State :=
  match d with | .a => { s with clk := { s.clk with domA := v } } | .b => { s with clk := { s.clk with domB := v } }

/-- Fine units a domain advances in one tick of reference time: the reference's own rate, and the rate correction in
LOCKED and HOLDOVER (R44, R603). -/
def State.domRate (s : State) (d : Dom) : Int :=
  let r := if s.domSt d = 2 ∨ s.domSt d = 3 then signed 32 (s.reg (domB d + 0x10)) else 0
  Int.ofNat fine + (r + s.clk.osc) * 1000000000

/-- Fine units the residual loses in one tick while it is slewed (R54): the selected domain's advance times
TB_SLEW_MAX ppb. -/
def State.slewRate (s : State) : Nat := (s.domRate s.selDom).toNat / 1000000000 * s.reg 0x2000C

/-- A residual after `m` fine units have been slewed off. -/
def slewed (r : Int) (m : Nat) : Int := if 0 ≤ r then max 0 (r - Int.ofNat m) else min 0 (r + Int.ofNat m)

/-- What a byte of memory reads as when nothing has written it (log entry 6). -/
def memReset (_ : Nat) : Byte := 0

/-- Memory with bytes stored from an offset on. -/
def storeBytes (m : List Host.Cell) (a : Nat) : List Byte → List Host.Cell
  | [] => m
  | b :: r => storeBytes (Sparse.set memReset m a b) (a + 1) r

/-- Bytes reach memory: whole words and granules are written anew, without error or marker (R234, R265). -/
def Mem.put (m : Mem) (off : Nat) (l : List Byte) : Mem :=
  let out (a n : Nat) : Bool := decide (a + n ≤ off) || decide (off + l.length ≤ a)
  { m with bytes := storeBytes m.bytes off l, poison := m.poison.filter (fun g => out (16 * g) 16), ecc := m.ecc.filter fun e => out (8 * e.1) 8 }

/-- Memory once Saffron time has moved on: what was to be committed by then is (R57), and nothing is of the present
instant. -/
def Mem.settle (m : Mem) (sn : Nat) : Mem :=
  (m.commits.filter fun c => decide (c.at_ ≤ sn)).foldl (fun m c => m.put c.off c.data)
    { m with justNow := [], commits := m.commits.filter fun c => decide (sn < c.at_) }

/-- The point at which the residual in hand reaches zero. -/
def State.slewEnd (s : State) : Tick × Nat × Int :=
  let k := (s.clk.resid.natAbs + s.slewRate - 1) / max 1 s.slewRate
  (s.clk.now + k, (Int.ofNat s.clk.saf + s.domRate s.selDom * Int.ofNat k - s.clk.resid).toNat, 0)

/-- Time moves on to reference instant `t`; an instant already past moves nothing (log entry 1). -/
def State.advanceTo (s : State) (t : Tick) : State :=
  if t ≤ s.clk.now then s
  else
    let dt := t - s.clk.now
    let adv (d : Dom) : Nat := (s.domRate d * Int.ofNat dt).toNat
    let resid := slewed s.clk.resid (s.slewRate * dt)
    let saf := (Int.ofNat (s.clk.saf + adv s.selDom) + (resid - s.clk.resid)).toNat
    let done := if s.clk.resid ≠ 0 ∧ resid = 0 then [s.slewEnd] else []
    { s with rcOld := [], mem := s.mem.settle (saf / fine), clk := { s.clk with
        now := t
        domA := { s.clk.domA with time := s.clk.domA.time + adv .a }
        domB := { s.clk.domB with time := s.clk.domB.time + adv .b }
        saf := saf
        resid := resid
        past := s.clk.past ++ done } }

/-- The present point is kept: a rate, or the residual, changes at it. -/
def State.keepTime (s : State) : State :=
  { s with clk := { s.clk with past := s.clk.past ++ [(s.clk.now, s.clk.saf, s.clk.resid)] } }

/-- The last two neighbouring points of a list that satisfy a test. -/
def spanOf (p : Tick × Nat × Int → Tick × Nat × Int → Bool) : List (Tick × Nat × Int) →
    Option ((Tick × Nat × Int) × (Tick × Nat × Int))
  | a :: b :: r =>
    match spanOf p (b :: r) with
    | some x => some x
    | none => if p a b then some (a, b) else none
  | _ => none

/-- The points known, with the present one. -/
def State.timeLine (s : State) : List (Tick × Nat × Int) := s.clk.past ++ [(s.clk.now, s.clk.saf, s.clk.resid)]

/-- Saffron time, in ticks, at an instant of reference time that is not to come; before the first point kept at the present
rate. -/
def State.snPast (s : State) (t : Tick) : Nat :=
  let l := s.timeLine
  let v := match spanOf (fun a b => decide (a.1 ≤ t) && decide (t < b.1)) l with
    | some (a, b) => a.2.1 + (b.2.1 - a.2.1) * (t - a.1) / (b.1 - a.1)
    | none =>
      if s.clk.now ≤ t then s.clk.saf
      else let a := l.headD (s.clk.now, s.clk.saf, 0); a.2.1 - (s.domRate s.selDom).toNat * (a.1 - t)
  v / fine

/-- The residual at a Saffron instant in ticks that is past, or at the present one (R54, R339). -/
def State.residAt (s : State) (t : Nat) : Int :=
  let l := s.timeLine
  match spanOf (fun a b => decide (a.2.1 / fine ≤ t) && decide (t < b.2.1 / fine)) l with
  | some (a, b) => a.2.2 + (b.2.2 - a.2.2) * (Int.ofNat (t * fine) - Int.ofNat a.2.1) / Int.ofNat (b.2.1 - a.2.1)
  | none => if s.sn ≤ t then s.clk.resid else (l.headD (s.clk.now, s.clk.saf, 0)).2.2

/-- The instant in ticks, on the second grid nearest the present, that bits [63:0] of a Saffron time name: the
candidate (R619) that lies nearest to the present Saffron time (R268). -/
def State.nearTime (s : State) (v : Nat) : Nat :=
  let now := s.sn
  let hi := now / tsec / 2 ^ 16
  let cand (h : Nat) : Nat := unpack96 (h * 2 ^ 64 + v % 2 ^ 64)
  let dist (c : Nat) : Nat := if c ≤ now then now - c else c - now
  let best (a b : Nat) : Nat := if dist b < dist a then b else a
  best (best (cand hi) (cand (hi - 1))) (cand (hi + 1))

/-! ### Engines and contexts (R251) -/

/-- The engine of a context: 0 to 3 = MA0 to MA3; 4 = VX; 5 = LQ; 6 = SP; 7 = RT; 8 = CK; 9 = PA; 10 = TG;
11 to 14 = MV0 to MV3. -/
def engineOf (ctx : Nat) : Nat :=
  if ctx < 48 then ctx / 8 else if ctx < 68 then 6 + (ctx - 48) / 4 else 11 + (ctx - 68) / 8

/-- The first global context of an engine. -/
def engFirst (e : Nat) : Nat := if e < 6 then 8 * e else if e < 11 then 48 + 4 * (e - 6) else 68 + 8 * (e - 11)

/-- How many contexts an engine has. -/
def engCtxs (e : Nat) : Nat := if e < 6 then 8 else if e < 11 then 4 else 8

/-- ENG_ID TYPE of an engine (R298). -/
def engType (e : Nat) : Nat :=
  if e < 4 then 0 else if e < 10 then e - 3 else if e = 10 then 8 else 7

/-- ENG_ID instance of an engine. -/
def engInst (e : Nat) : Nat := if e < 4 then e else if 11 ≤ e then e - 11 else 0

/-- BAR0 base of an engine's block (R546). -/
def engB (e : Nat) : Nat := if e < 10 then 0x600000 + 0x10000 * e else if e = 10 then 0x3C0000 else 0x6A0000 + 0x10000 * (e - 11)

/-- BAR0 base of a context's registers (R298). -/
def cxB (ctx : Nat) : Nat := engB (engineOf ctx) + 0x1000 + 0x100 * (ctx - engFirst (engineOf ctx))

/-- The STATE of a context (R300): 0 = IDLE; 1 = RUNNING; 2 = WAITING; 3 = HALTED; 4 = FAULTED; 5 = CLOVE. -/
def State.cxState (s : State) (ctx : Nat) : Nat := s.rf (cxB ctx + 4) 2 0
def State.setCxState (s : State) (ctx v : Nat) : State := s.setRf (cxB ctx + 4) 2 0 v

/-- Binding and epoch of a context (R299), and of a cell (R125). -/
def State.cxBind (s : State) (ctx : Nat) : Nat := s.rf (cxB ctx + 8) 15 8
def State.cxEpoch (s : State) (ctx : Nat) : Nat := s.rf (cxB ctx + 8) 7 0
def State.clBind (s : State) (n : Nat) : Nat := s.rf (clB n + 8) 15 8
def State.clEpoch (s : State) (n : Nat) : Nat := s.rf (clB n + 8) 7 0

/-! ### Presence and power (R1 to R4, R549, R551) -/

/-- Present stacks (R1). -/
def Grade.stacks : Grade → Nat | .f => 16 | .m => 8 | .t => 4
/-- Present Nenath ports (R1). -/
def Grade.ports : Grade → Nat | .f => 20 | .m => 10 | .t => 5
/-- Present matrix arrays (R1). -/
def Grade.mas : Grade → Nat | .f => 4 | .m => 2 | .t => 1

/-- GL_CAP0 to GL_CAP3 (R7 to R10). -/
def State.cap (s : State) (i : Nat) : Nat :=
  match i with
  | 0 => match s.fuse.grade with | .f => 0xFFFF | .m => 0xFFE3 | .t => 0xFFE1
  | 1 => 2 ^ s.fuse.grade.ports - 1
  | 2 => 0x07FF0000 + (2 ^ s.fuse.grade.stacks - 1)
  | _ => 0x046040 + s.fuse.stepping % 16 * 2 ^ 24 + (match s.fuse.grade with | .f => 0 | .m => 1 | .t => 2) * 2 ^ 28

/-- An engine is present (R1). -/
def State.engPresent (s : State) (e : Nat) : Bool :=
  if e < 4 then decide (e < s.fuse.grade.mas) else if e = 6 then decide (s.fuse.grade = .f) else decide (e < 15)

/-- The power domain of an engine (R549). -/
def engDom (e : Nat) : Nat :=
  if e < 4 then 9 + e else if e < 8 then 9 + e else if e = 8 then 29 else if e = 9 then 24 else if e = 10 then 27 else 17

/-- A power domain is of fused-off units only (R2). -/
def State.domFused (s : State) (d : Nat) : Bool :=
  if 9 ≤ d ∧ d ≤ 12 then decide (s.fuse.grade.mas ≤ d - 9)
  else if d = 15 then decide (s.fuse.grade ≠ .f)
  else if d = 19 then decide (s.fuse.grade.stacks ≤ 8)
  else if 20 ≤ d ∧ d ≤ 23 then decide (s.fuse.grade.ports ≤ 5 * (d - 20))
  else false

/-- A power domain is ON (R551). -/
def State.domOn (s : State) (d : Nat) : Bool := s.rf (pwB d + 4) 1 0 == 2 && !s.domFused d

/-- An engine is present and powered. -/
def State.engOn (s : State) (e : Nat) : Bool := s.engPresent e && s.domOn (engDom e)

/-- The domain of a physical cell's strip (R549). -/
def cellDom (n : Nat) : Nat := 1 + n / 100 / 8
/-- A physical cell is powered. -/
def State.cellOn (s : State) (n : Nat) : Bool := decide (n < 6400) && s.domOn (cellDom n)

/-- The domain of a lane (R346, R549). -/
def laneDom (n : Nat) : Nat := if n < 160 then 20 + n / 40 else if n < 192 then 24 else 25 + (n - 192) / 48
/-- A lane is present and powered (R346). -/
def State.laneOn (s : State) (n : Nat) : Bool :=
  decide (n < 288) && (decide (160 ≤ n) || decide (n / 8 < s.fuse.grade.ports)) && s.domOn (laneDom n)

/-- A Nenath port is present and powered. -/
def State.npOn (s : State) (n : Nat) : Bool := decide (n < s.fuse.grade.ports) && s.domOn (20 + n / 5)

/-- A DRAM stack is present and powered. -/
def State.stackOn (s : State) (n : Nat) : Bool := decide (n < s.fuse.grade.stacks) && s.domOn (18 + n / 8)

/-- A sensor channel's group is powered: channel `n` belongs to lane 192 + n ÷ 4. -/
def State.chanOn (s : State) (n : Nat) : Bool := decide (n < 384) && s.domOn (25 + n / 4 / 48)

/-- A port absorbed by its even neighbour (R379). -/
def State.absorbed (s : State) (n : Nat) : Bool :=
  n % 2 == 1 && s.rb (emB (n - 1)) 0 && s.rf (emB (n - 1) + 8) 2 0 == 4

/-- The unit that owns a BAR0 offset is present and powered (R3, R551); an absent unit reads zero and ignores writes. -/
def State.blockOn (s : State) (o : Nat) : Bool :=
  if o < 0x100000 then true
  else if o < 0x180000 then s.domOn 24
  else if o < 0x190000 then s.domOn 29
  else if o < 0x320000 then s.laneOn ((o - 0x200000) / 0x1000)
  else if o < 0x3C0000 then s.chanOn ((o - 0x340000) / 0x400)
  else if o < 0x400000 then s.domOn 27
  else if o < 0x540000 then s.npOn ((o - 0x400000) / 0x10000)
  else if o < 0x600000 then true
  else if o < 0x6A0000 then s.engOn ((o - 0x600000) / 0x10000)
  else if o < 0x6E0000 then s.engOn (11 + (o - 0x6A0000) / 0x10000)
  else if o < 0x6F0000 then s.domOn 17
  else if o < 0x710000 then s.stackOn ((o - 0x700000) / 0x1000)
  else if o < 0x800000 then true
  else if o < 0xE40000 then s.cellOn ((o - 0x800000) / 0x400)
  else true

/-- A binding holds something of a power domain from now on (R552). -/
def State.claimDom (s : State) (d : Nat) (on : Bool) : State :=
  if on then { s with pwr := { s.pwr with claimed := NatSet.insert s.pwr.claimed d } } else s

/-- A TAP instruction that holds the boundary balls is in the instruction register: EXTEST, CLAMP, HIGHZ (R572, R573). -/
def State.holdsPins (s : State) : Bool := s.dbg.ir == 0x00 || s.dbg.ir == 0x03 || s.dbg.ir == 0x04

/-! ### Memory bytes (R226) -/

/-- One byte of memory by local offset. -/
def State.byte (s : State) (a : Nat) : Byte := Sparse.get memReset s.mem.bytes a

/-- `n` bytes from a local offset on. -/
def State.bytesAt (s : State) (a : Nat) : Nat → List Byte
  | 0 => []
  | n + 1 => s.byte a :: s.bytesAt (a + 1) n

/-- The little-endian number in `n` bytes of memory (R12). -/
def State.leMem (s : State) (a n : Nat) : Nat := ofLe (s.bytesAt a n)

/-- Store bytes from a local offset on. -/
def State.setBytes (s : State) (a : Nat) (l : List Byte) : State :=
  { s with mem := { s.mem with bytes := storeBytes s.mem.bytes a l } }

/-- The form every list of memory bytes has: strictly rising offsets and no entry equal to the reset value. -/
def Memory.wf (m : List Host.Cell) : Bool := Sparse.wf memReset m

/-- A binding is in the replay of R516. -/
def State.inReplay (s : State) (b : Nat) : Bool := b != 0 && s.rv.replaying.any fun p => s.cxBind p.1 == b

/-! ### Requests on their way (R237 to R240) -/

/-- The chip identifier (R442). -/
def State.chip (s : State) : Nat := s.rf 0x60 15 0

/-- The global address of a local offset. -/
def State.global (s : State) (off : Nat) : Nat := s.chip * 2 ^ 48 + off % 2 ^ 48

/-- A global address is local (R226). -/
def State.isLocal (s : State) (a : Nat) : Bool := a / 2 ^ 48 % 2 ^ 16 == s.chip

/-- Issue a memory request: it waits, in issue order, to be performed. -/
def State.issue (s : State) (r : MemReq) : State :=
  { s with mem := { s.mem with inflight := s.mem.inflight ++ [{ r with id := s.mem.nextId }], nextId := s.mem.nextId + 1 } }

/-- Issue a write cut into requests that lie in one 4 KiB page on this chip, and in one message of 256 bytes elsewhere
(R438; log entry 9). -/
def State.issueCut (r : MemReq) : Nat → State → Nat → List Byte → State
  | 0, s, _, _ => s
  | _, s, _, [] => s
  | f + 1, s, a, l =>
    let page := if s.isLocal a then 4096 else 256
    let n := page - a % page
    State.issueCut r f (s.issue { r with addr := a, data := l.take n }) (a + n) (l.drop n)

/-- Issue the reads of a range: the state, and each read's number with its distance from the start, in order (R438). -/
def State.issueReads (r : MemReq) : Nat → State → Nat → Nat → State × List (Nat × Nat)
  | 0, s, _, _ => (s, [])
  | f + 1, s, d, n =>
    if n = 0 then (s, [])
    else
      let a := r.addr + d
      let page := if s.isLocal a then 4096 else 256
      let k := min n (page - a % page)
      let x := State.issueReads r f (s.issue { r with addr := a, len := k }) (d + k) (n - k)
      (x.1, (s.mem.nextId, d) :: x.2)

/-- BIND_ID and EPOCH that a unit's requests carry: those of a trigger stream's context, else 0 (R240). -/
def State.ofUnit (s : State) (i : Issuer) : Nat × Nat :=
  match i with
  | .stream n => (s.cxBind (64 + n), s.cxEpoch (64 + n))
  | _ => (0, 0)

/-- Issue a posted write of bytes at a global address. -/
def State.post (s : State) (i : Issuer) (a : Nat) (l : List Byte) : State :=
  State.issueCut { id := 0, issuer := i, addr := a, write := true, bind := (s.ofUnit i).1, epoch := (s.ofUnit i).2 } l.length s a l

end Sys2Proof.Machine
end

