-- ==== Sys2Proof/Machine/Records.lean ====
section
/-! DEFINITION. Event and fault records, descriptor rings, MSI-X (R473, R474, R529 to R542, R620). -/

namespace Sys2Proof.Machine

/-! ### MSI-X (R542) -/

/-- A host bus address as a global address of this chip (R226). -/
def State.hostAddr (s : State) (a : Nat) : Nat := s.global (0x800000000000 + a)

/-- Append a result to those that wait for a place in an edge's holding stage (R59). -/
def State.offer (s : State) (edge : Nat) (h : Held) : State :=
  let st := s.stage edge
  s.setStage edge { st with wait := st.wait ++ [h] }

/-- Signal a vector: an untimed posting of the table's data to the table's address, or the pending bit when the
vector is masked. -/
def State.signal (s : State) (v : Nat) : State :=
  let e := 0x88000 + 16 * (v % 64)
  if s.rb (e + 12) 0 then s.setRb (0x89000 + v % 64 / 32 * 4) (v % 32) true
  else
    let body := Body.store (s.hostAddr (s.reg64 e)) (leBytes 4 (s.reg (e + 8)))
    let s := { s with host := { s.host with msix := v % 64 :: s.host.msix } }
    s.offer 28 { launch := none, complete := s.snUp, body := body }

/-! ### Rings -/

/-- Descriptors of a ring: 2^(SIZE_LOG2 + 3), with 14 and 15 acting as 13 (R529, R548). -/
def State.ringSize (s : State) (r : Nat) : Nat := 2 ^ (min 13 (s.rf (ringB r + 8) 6 3) + 3)

/-- The ring is enabled. -/
def State.ringOn (s : State) (r : Nat) : Bool := s.rb (ringB r + 8) 0

/-- The ring is a receive ring; the event and fault rings are. -/
def State.ringRecv (s : State) (r : Nat) : Bool := s.rf (ringB r + 8) 2 1 == 0

/-- The global address of the descriptor at an index. -/
def State.descAddr (s : State) (r i : Nat) : Nat := s.reg64 (ringB r) + 32 * i

/-- A return was made: signal the ring's vector, at most once per HOLDOFF (R542). -/
def State.ringSignal (s : State) (r : Nat) : State :=
  if s.rb (ringB r + 8) 22 then
    let g := s.ring r
    if s.clk.now < g.quiet then s.setRing r { g with owing := true }
    else (s.setRing r { g with quiet := s.clk.now + s.rf (ringB r + 0x14) 31 16 * tus, owing := false }).signal
           (s.rf (ringB r + 8) 21 16)
  else s

/-- Return the descriptor at NEXT: bytes 0x0C to 0x1E, then byte 0x1F with OWN = 0, then NEXT advances (R531). -/
def State.ringReturn (s : State) (r : Nat) (mid : List Byte) : State :=
  let i := s.rf (ringB r + 0xC) 15 0
  let a := s.descAddr r i
  let s := (s.post (.ring r) (a + 0xC) mid).post (.ring r) (a + 0x1F) [0]
  let g := s.ring r
  let s := s.setRing r { g with descs := g.descs.drop 1 }
  let s := s.setRf (ringB r + 0xC) 15 0 ((i + 1) % s.ringSize r)
  (s.inc64 (ringB r + 0x20)).ringSignal r

/-- Bytes 0x0C to 0x1E of a receive descriptor (R534). -/
def rxFields (wlen stamp info : Nat) : List Byte := leBytes 4 wlen ++ leBytes 8 stamp ++ leBytes 4 info ++ [0, 0, 0]

/-- Return the record buffer being filled, with what it holds (R536). -/
def State.bufReturn (s : State) (r : Nat) : State :=
  match (s.ring r).buf with
  | none => s
  | some (w, n, st, _) =>
    let s := s.setRing r { s.ring r with buf := none }
    s.ringReturn r (rxFields w st (0x8000 + n % 0x8000))

/-- Write a record into the buffer at NEXT; false when no owned descriptor can take it. -/
def State.bufPut (s : State) (r stamp : Nat) (rcd : List Byte) : State × Bool :=
  match (s.ring r).descs with
  | [] => (s, false)
  | d :: _ =>
    let b := (s.ring r).buf.getD (0, 0, stamp, s.clk.now)
    if leAt d 8 4 < b.1 + rcd.length then (s, false)
    else
      let s := s.post (.ring r) (leAt d 0 8 + b.1) rcd
      let s := s.setRing r { s.ring r with buf := some (b.1 + rcd.length, b.2.1 + 1, b.2.2.1, b.2.2.2) }
      (if s.rf (ringB r + 0x14) 15 0 = 0 then s.bufReturn r else s, true)

/-- Give a record to a receive ring: a buffer it does not fit is returned first (R536). -/
def State.ringRecord (s : State) (r stamp : Nat) (rcd : List Byte) : State × Bool :=
  if s.ringOn r && s.ringRecv r then
    let p := s.bufPut r stamp rcd
    if p.2 then p
    else if (s.ring r).buf.isSome then (s.bufReturn r).bufPut r stamp rcd
    else p
  else (s, false)

/-- A source claims a receive ring: the first one to claim a descriptor becomes OWNER, any other is counted (R532). -/
def State.ringClaim (s : State) (r owner : Nat) : State × Bool :=
  let o := s.rf (ringB r + 0x18) 19 16
  if !s.ringOn r || !s.ringRecv r then (s, false)
  else if o = 0 then (if (s.ring r).descs.isEmpty then (s, false) else (s.setRf (ringB r + 0x18) 19 16 owner, true))
  else if o = owner then (s, true)
  else (s.inc (ringB r + 0x1C), false)

/-! ### Events (R540, R541) -/

/-- The 64 bytes of an event record. -/
def State.eventBytes (s : State) (e : EventRec) : List Byte :=
  leBytes 2 e.code ++ leBytes 2 e.unit ++ leBytes 4 e.count ++ leBytes 8 e.seq ++ leBytes 12 (pack96 e.time) ++
  leBytes 2 s.chip ++ [0, 0] ++ (e.arg ++ List.replicate 32 0).take 32

/-- Post an event: to the event ring, else it waits on the chip, else it is lost and counted. -/
def State.eventN (s : State) (code unit count : Nat) (arg : List Byte := []) : State :=
  let e : EventRec := { code := code, unit := unit, count := count, seq := s.host.evSeq, time := s.sn, arg := arg }
  let s := { s with host := { s.host with evSeq := s.host.evSeq + 1 } }
  let p := if s.host.events.isEmpty then s.ringRecord 128 (pack96 e.time) (s.eventBytes e) else (s, false)
  if p.2 then p.1
  else if p.1.host.events.length < 32 then { p.1 with host := { p.1.host with events := p.1.host.events ++ [e] } }
  else p.1.inc 0x80020

/-- Post an event once. -/
def State.event (s : State) (code : Nat) (unit : Nat := 0) (arg : List Byte := []) : State := s.eventN code unit 1 arg

/-- Events that waited go to the event ring in order. -/
def State.flushEvents (s : State) : List EventRec → State
  | [] => { s with host := { s.host with events := [] } }
  | e :: r =>
    let p := s.ringRecord 128 (pack96 e.time) (s.eventBytes e)
    if p.2 then p.1.flushEvents r else { p.1 with host := { p.1.host with events := e :: r } }

/-- The quiet interval of a rate-limited event on a unit. -/
def quietOf (code unit : Nat) (l : List Quiet) : Option Quiet := l.find? fun q => q.code == code && q.unit == unit

/-- The quiet intervals without that of one event on one unit. -/
def quietDrop (code unit : Nat) (l : List Quiet) : List Quiet := l.filter fun q => !(q.code == code && q.unit == unit)

/-- The end of a quiet interval posts what it counted and starts another; with nothing counted it ends (R620). -/
def State.quietEnd (s : State) (code unit : Nat) : State :=
  match quietOf code unit s.host.quiets with
  | none => s
  | some q =>
    if s.sn < q.until_ then s
    else
      let rest := quietDrop code unit s.host.quiets
      if q.count = 0 then { s with host := { s.host with quiets := rest } }
      else
        let s := { s with host := { s.host with quiets := { q with until_ := q.until_ + q.len, count := 0 } :: rest } }
        s.eventN code unit q.count q.arg

/-- Post a rate-limited event (R620): at once outside a quiet interval, counted within one. -/
def State.eventLimited (s : State) (code unit len : Nat) (arg : List Byte := []) : State :=
  let s := s.quietEnd code unit
  match quietOf code unit s.host.quiets with
  | none =>
    let q : Quiet := { code := code, unit := unit, until_ := s.sn + len, count := 0, arg := arg, len := len }
    ({ s with host := { s.host with quiets := q :: s.host.quiets } }).event code unit arg
  | some q =>
    let q := { q with count := q.count + 1, arg := arg }
    { s with host := { s.host with quiets := q :: quietDrop code unit s.host.quiets } }

/-! ### Faults (R473, R474) -/

/-- The 64 bytes of a fault record. -/
def State.faultBytes (s : State) (f : FaultRec) : List Byte :=
  let c := f.cell.getD (0, 0)
  let valid := b2n f.cell.isSome + 2 * b2n f.ctx.isSome + 4 * b2n f.addr.isSome
  let vpos := if f.cell.isSome then f.vpos else (0, 0)
  leBytes 2 f.code ++ leBytes 1 f.origin ++ leBytes 1 valid ++ leBytes 1 f.bind ++ leBytes 1 f.epoch ++
  leBytes 2 s.chip ++ leBytes 1 vpos.1 ++ leBytes 1 vpos.2 ++ leBytes 1 (c.1 / 100) ++ leBytes 1 (c.1 % 100) ++
  leBytes 1 c.2 ++ leBytes 1 (f.ctx.getD 0) ++ leBytes 2 f.pc ++ leBytes 2 f.detail ++ [0, 0] ++ leBytes 4 f.arg ++
  leBytes 12 (pack96 f.time) ++ [0, 0, 0, 0] ++ leBytes 8 (f.addr.getD 0) ++ leBytes 8 f.seq ++ List.replicate 8 0

/-- A fault during a chip-level recovery ends the attempt (R520). -/
def State.faultInRecovery (s : State) : State :=
  match s.rv.chip with
  | some c => if c < 8 then ({ s with rv := { s.rv with chip := some 8 } }).setRf 0x30004 3 0 0 else s
  | none => s

/-- Record a fault: numbered in SEQ, to the fault ring, else it waits on the chip, else it is lost and counted
(R539). -/
def State.fault (s : State) (f : FaultRec) : State :=
  let f := { f with seq := s.host.fltSeq, time := s.sn }
  let s := { s with host := { s.host with fltSeq := s.host.fltSeq + 1 } }
  let p := if s.host.faults.isEmpty then s.ringRecord 129 (pack96 f.time) (s.faultBytes f) else (s, false)
  let p := (p.1.faultInRecovery, p.2)
  if p.2 then p.1
  else if p.1.host.faults.length < 64 then { p.1 with host := { p.1.host with faults := p.1.host.faults ++ [f] } }
  else p.1.inc 0x80024

/-- Fault records that waited go to the fault ring in order. -/
def State.flushFaults (s : State) : List FaultRec → State
  | [] => { s with host := { s.host with faults := [] } }
  | e :: r =>
    let p := s.ringRecord 129 (pack96 e.time) (s.faultBytes e)
    if p.2 then p.1.flushFaults r else { p.1 with host := { p.1.host with faults := e :: r } }

/-- The fault record of a refused store or register write (ORIGIN 3). -/
def State.refusedFault (s : State) (code : Nat) (addr : Nat) : State :=
  s.fault { code := code, origin := 3, addr := some addr }

/-! ### Reading descriptors (R530, R537) -/

/-- The parts of a read, in order: answered ones joined; none while one is missing. -/
def joinParts : List (Nat × Option (List Byte)) → Option (List Byte)
  | [] => some []
  | (_, some l) :: r => (joinParts r).map (l ++ ·)
  | (_, none) :: _ => none

/-- An answer fills its part. -/
def fillPart (id : Nat) (l : List Byte) (parts : List (Nat × Option (List Byte))) : List (Nat × Option (List Byte)) :=
  parts.map fun p => if p.1 = id then (p.1, some l) else p

/-- Bytes cut into descriptors. -/
def cutDescs : Nat → List Byte → List (List Byte)
  | 0, _ => []
  | n + 1, l => l.take 32 :: cutDescs n (l.drop 32)

/-- A return of the descriptor at an index is not yet visible: its OWN byte still reads as it was (R531). -/
def State.returning (s : State) (r i : Nat) : Bool :=
  let a := s.descAddr r i + 0x1F
  let hit (q : MemReq) : Bool := q.write && q.issuer == .ring r && decide (q.addr ≤ a) && decide (a < q.addr + q.data.length)
  (s.mem.inflight.any hit) || s.nen.outst.any fun o => hit o.req

/-- What a poll found: the owned descriptors from NEXT onward; what waited for the event and fault rings goes out. -/
def State.pollFound (s : State) (r : Nat) (l : List Byte) : State :=
  let i := s.rf (ringB r + 0xC) 15 0
  let n := s.ringSize r
  let ds := (cutDescs (l.length / 32) l).drop ((i + n - (s.ring r).pollFrom % n) % n)
  let owned := (ds.zipIdx.takeWhile fun d => bit (byteAt d.1 31) 7 && !s.returning r ((i + d.2) % s.ringSize r)).map Prod.fst
  let s := s.setRing r { s.ring r with descs := owned, poll := [] }
  if r = 128 then s.flushEvents s.host.events else if r = 129 then s.flushFaults s.host.faults else s

/-- An answer to a read of a ring: of a poll's descriptors, or of a frame to be sent. -/
def State.ringRead (s : State) (r id : Nat) (l : List Byte) : State :=
  let g := s.ring r
  if g.poll.any fun p => p.1 == id then
    let parts := fillPart id l g.poll
    match joinParts parts with
    | some l => s.pollFound r l
    | none => s.setRing r { g with poll := parts }
  else s.setRing r { g with parts := fillPart id l g.parts }

/-- A read of a ring has failed: the poll, or the frame, is given up. -/
def State.ringFail (s : State) (r id : Nat) : State :=
  let g := s.ring r
  if g.poll.any fun p => p.1 == id then s.setRing r { g with poll := [] }
  else s.setRing r { g with parts := if g.parts.any (fun p => p.1 == id) then [] else g.parts }

/-! ### Remote access (R544) -/

/-- A remote access answer: header, and data of a read. -/
def raAnswer (q : RaReq) (data : List Byte) : List Byte :=
  let op := if q.status ≠ 0 then 5 else if q.op = 2 then 4 else 3
  [BitVec.ofNat 8 op, BitVec.ofNat 8 q.status] ++ leBytes 2 q.len ++ leBytes 4 q.tag ++ leBytes 8 q.addr ++
  if op = 3 then data else []

/-- Requests that are complete are answered, in the order in which they came. -/
def State.raFlush (s : State) : List RaReq → State
  | [] => { s with host := { s.host with ra := [] } }
  | q :: r =>
    match joinParts q.parts with
    | some l => State.raFlush { s with host := { s.host with raAns := raAnswer q l :: s.host.raAns } } r
    | none => { s with host := { s.host with ra := q :: r } }

/-- A memory request of the service has been answered. -/
def State.raPart (s : State) (id status : Nat) (l : List Byte) : State :=
  let one (q : RaReq) : RaReq :=
    if q.parts.any fun p => p.1 == id then { q with parts := fillPart id l q.parts, status := if q.status = 0 then status else q.status } else q
  s.raFlush (s.host.ra.map one)

/-! ### The lifetime log's counters (R586, R588) -/

/-- Add an occurrence to a counter of the lifetime log, by its image offset. -/
def State.lfCount (s : State) (off : Nat) (n : Nat := 1) : State :=
  { s with lf := { s.lf with cnt := Sparse.set (fun _ => 0) s.lf.cnt off (Sparse.get (fun _ => 0) s.lf.cnt off + n) } }

end Sys2Proof.Machine
end

