-- ==== Sys2Proof/Machine/Halt.lean ====
section
/-! DEFINITION. Debug halts, breakpoints, and the counting of wait bounds and command timeouts (R452, R497, R577 to
R583). -/

namespace Sys2Proof.Machine

/-! ### What counts, and what is paused -/

/-- The bounds and timeouts of a binding do not count at present. -/
def State.isPaused (s : State) (b : Nat) : Bool := s.paused.any fun p => p.1 == b

/-- The timeout of a context's command counts (R263, R578). -/
def State.cxCounting (s : State) (n : Nat) : Bool :=
  let c := s.cx n
  let st := s.cxState n
  c.phase != .none && c.timeout != 0 && (!c.dbg || c.step) &&
  (s.rv.replay == some n || ((st == 1 || st == 2 || st == 3) && !s.isPaused (s.cxBind n)))

/-- Bring a command's counted time up to date. -/
def State.settleCx (s : State) (n : Nat) : State :=
  let c := s.cx n
  s.setCx n { c with ran := if s.cxCounting n then c.ran + (s.clk.now - c.ranAt) else c.ran, ranAt := s.clk.now }

/-- The contexts of a binding that have a state of their own. -/
def State.cxsOf (s : State) (b : Nat) : List Nat := (s.eng.ctxs.map Prod.fst).filter fun n => s.cxBind n == b

/-- The cells of a binding that have a state of their own. -/
def State.cellsOf (s : State) (b : Nat) : List Nat := (s.lat.cells.map Prod.fst).filter fun n => s.clBind n == b

/-- A debug halt holds some plane of a cell. -/
def Cell.halted (c : Cell) : Bool := c.planes.any fun p => p.2.dbg

/-- Some unit of a binding is debug-halted. -/
def State.bindHalted (s : State) (b : Nat) : Bool :=
  (s.cellsOf b).any (fun n => (s.cell n).halted) || (s.cxsOf b).any fun n => (s.cx n).dbg

/-- The reasons for which a binding's waits do not count: a message held for a RECOVERING destination, an engine that
Clove holds, a debug halt with FREEZE. -/
def State.pauseWanted (s : State) (b : Nat) : Bool :=
  (s.nen.outst.any fun o => o.held && o.msg.bind == b) ||
  (s.rv.queue.any fun e => (List.range (engCtxs e)).any fun i =>
    (s.cx (engFirst e + i)).wasActive && s.cxBind (engFirst e + i) == b) ||
  (s.dbg.frozen.contains b && s.bindHalted b)

/-- The waits of a cell lose an interval; a stepping plane counts on. -/
def Cell.delay (c : Cell) (dt : Nat) : Cell :=
  let f (_ : Nat) (p : Plane) : Plane := if p.step then p else { p with waitFrom := p.waitFrom.map (· + dt) }
  { c with planes := Sparse.mapV (fun _ => {}) f c.planes }

/-- A binding stops or resumes counting, as its reasons say. -/
def State.repauseOne (s : State) (b : Nat) : State :=
  match s.paused.find? fun p => p.1 == b with
  | none =>
    if s.pauseWanted b then
      let s := (s.cxsOf b).foldl State.settleCx s
      { s with paused := s.paused ++ [(b, s.sn)] }
    else s
  | some p =>
    if s.pauseWanted b then s
    else
      let s := (s.cxsOf b).foldl State.settleCx s
      let s := { s with paused := s.paused.filter fun q => q.1 != b }
      (s.cellsOf b).foldl (fun s n => s.setCell n ((s.cell n).delay (s.sn - p.2))) s

/-- Every binding that has or had a reason. -/
def State.pauseBinds (s : State) : List Nat :=
  let l := s.paused.map Prod.fst ++ (s.nen.outst.filter fun o => o.held).map (fun o => o.msg.bind) ++
    (s.rv.queue.flatMap fun e => (List.range (engCtxs e)).map fun i => s.cxBind (engFirst e + i)) ++ s.dbg.frozen
  (l.filter fun b => b != 0).eraseDups

/-- Bring the pauses up to date with their reasons. -/
def State.repause (s : State) : State := s.pauseBinds.foldl State.repauseOne s

/-! ### Debug halts (R577 to R580) -/

/-- The STATE a context shows: a debug halt shows as HALTED. -/
def State.cxView (s : State) (n : Nat) : Nat := if (s.cx n).dbg then 3 else s.cxState n

/-- A unit has been halted by debug: DB_HALTS and the lifetime log's count. -/
def State.countHalt (s : State) : State := (s.inc 0x50014).lfCount 0x74

/-- Halt a plane of a cell; a waiting instruction is abandoned. -/
def State.haltPlane (s : State) (n p : Nat) : State :=
  let c := s.cell n
  let v := c.plane p
  if v.dbg ∨ v.st = .faulted then s
  else
    let st := if v.st = .waiting then PlaneState.running else v.st
    (s.setCell n (c.setPlane p { v with dbg := true, step := false, st := st, waitFrom := none, deadline := none })).countHalt

/-- A waiting sequencer instruction is abandoned and becomes current again. -/
def State.abandonCx (s : State) (n : Nat) : State :=
  let s := if s.cxState n = 2 then s.setCxState n 1 else s
  s.setCx n { s.cx n with deadline := none, waitq := none }

/-- A debug halt takes hold of a context. -/
def State.holdCx (s : State) (n : Nat) : State :=
  let s := (s.settleCx n).abandonCx n
  (s.setCx n { s.cx n with dbg := true, step := false }).countHalt

/-- Halt a context at its next instruction boundary; one that Clove holds or that has faulted is not halted. -/
def State.haltCx (s : State) (n : Nat) : State :=
  let c := s.cx n
  if c.dbg ∨ s.cxState n = 4 ∨ s.cxState n = 5 then s
  else if c.phase = .busy ∨ c.phase = .reading then s.setCx n { c with stopReq := Nat.lor c.stopReq 4 }
  else s.holdCx n

/-- Halt all planes of a cell. -/
def State.haltCell (s : State) (n : Nat) : State := (List.range 4).foldl (fun s p => s.haltPlane n p) s

/-- Halt the units of a binding, or of the part. -/
def State.haltUnits (s : State) (cell ctx : Nat → Bool) : State :=
  let s := ((List.range 6400).filter cell).foldl State.haltCell s
  ((List.range 100).filter ctx).foldl State.haltCx s

def State.haltBind (s : State) (b : Nat) : State :=
  s.haltUnits (fun n => s.clBind n == b && s.cellOn n) (fun n => s.cxBind n == b && s.engOn (engineOf n))
def State.haltPart (s : State) : State := s.haltUnits s.cellOn fun n => s.engOn (engineOf n)

/-- A halt with FREEZE: the bindings of halted units no longer count. -/
def State.freeze (s : State) (on : Bool) : State :=
  if on then
    let bs := (s.lat.cells.map Prod.fst).filter (fun n => (s.cell n).halted) |>.map s.clBind
    let cs := (s.eng.ctxs.map Prod.fst).filter (fun n => (s.cx n).dbg) |>.map s.cxBind
    ({ s with dbg := { s.dbg with frozen := (s.dbg.frozen ++ bs ++ cs).eraseDups } }).repause
  else s

/-- Release the debug halt of a plane, and of a context. -/
def State.goPlane (s : State) (n p : Nat) : State :=
  let c := s.cell n
  s.setCell n (c.setPlane p { c.plane p with dbg := false, step := false })
def State.goCx (s : State) (n : Nat) : State :=
  let s := s.settleCx n
  let c := s.cx n
  s.setCx n { c with dbg := false, step := false, stopReq := c.stopReq &&& 3 }

/-- One step is to be taken by a halted plane, and by a halted context. -/
def State.stepPlane (s : State) (n p : Nat) : State :=
  let c := s.cell n
  if (c.plane p).dbg then s.setCell n (c.setPlane p { c.plane p with step := true }) else s
def State.stepCx (s : State) (n : Nat) : State :=
  if (s.cx n).dbg then (s.settleCx n).setCx n { (s.settleCx n).cx n with step := true } else s

/-! ### Breakpoints (R582, R583, R591, R592) -/

/-- Block of a breakpoint. -/
def bpB (n : Nat) : Nat := 0x50100 + 0x40 * n

/-- A time lies in a breakpoint's window (R68). -/
def State.bpWindow (s : State) (n time : Nat) : Bool :=
  decide (unpack96 (s.reg96 (bpB n + 0x20)) ≤ time) && decide (time < unpack96 (s.reg96 (bpB n + 0x30)))

/-- A breakpoint matches what has happened: TYPE, unit, address, binding, time and token. -/
def State.bpMatches (s : State) (n type unit addr bind time : Nat) (tok : Option Token) : Bool :=
  let cfg := s.reg (bpB n)
  fld cfg 2 0 == type &&
  (type == 4 || (if type == 1 then s.rf (bpB n + 4) 14 0 else s.rf (bpB n + 4) 12 0) == unit) &&
  (if type == 3 then s.rf (bpB n + 8) 2 0 else s.rf (bpB n + 8) 12 0) == addr &&
  (!bit cfg 5 || s.bpWindow n time) && (type == 4 || !bit cfg 6 || fld cfg 15 8 == bind) &&
  (match tok with
   | none => true
   | some t => (Nat.xor (t.payload.toNat % 2 ^ 64) (s.reg64 (bpB n + 0x10)) &&& s.reg64 (bpB n + 0x18)) == 0 &&
       (bit cfg 20 || fld cfg 19 16 == t.kind))

/-- What a firing breakpoint halts. -/
def State.bpAct (s : State) (n type unit : Nat) : State :=
  let cfg := s.reg (bpB n)
  let b := fld cfg 15 8
  let s := match fld cfg 4 3 with
    | 0 => s
    | 1 =>
      if type = 1 then s.haltPlane (unit % 8192) (unit / 8192)
      else if type = 2 then s.haltCx unit
      else if type = 3 then s.haltPlane unit (s.cell unit).turn
      else s.haltBind b
    | 2 => s.haltBind b
    | _ => s.haltPart
  if fld cfg 4 3 = 0 then s else s.freeze (bit cfg 7)

/-- A match of a breakpoint: it fires from match SKIP + 1 on. -/
def State.bpMatch (s : State) (n type unit : Nat) : State :=
  let m := Sparse.get (fun _ => 0) s.dbg.matches_ n + 1
  let s := { s with dbg := { s.dbg with matches_ := Sparse.set (fun _ => 0) s.dbg.matches_ n m } }
  if m ≤ s.rf (bpB n) 31 21 then s
  else (((s.setRb 0x50010 n true).inc (bpB n + 0x3C)).event Code.BREAKPOINT_HIT n).bpAct n type unit

/-- Something has happened that breakpoints may match. -/
def State.bpCheck (s : State) (type unit addr bind time : Nat) (tok : Option Token := none) : State :=
  ((List.range 16).filter fun n => s.bpMatches n type unit addr bind time tok).foldl (fun s n => s.bpMatch n type unit) s

end Sys2Proof.Machine
end

