-- ==== Sys2Proof/Machine/Operands.lean ====
section
/-! DEFINITION. Fields and operand forms of cell instructions (R137, R142 to R148), and the queues and register pairs
they name. -/

namespace Sys2Proof.Machine

/-! ### Fields of an instruction word -/

def opF (w : Nat) : Nat := fld w 63 56
/-- The wait bound in ticks (R137). -/
def boundF (w : Nat) : Nat := fld w 51 44 * 2 ^ fld w 55 52 * 4 * tns
/-- Format S. -/
def rdS (w : Nat) : Nat := fld w 43 40
def raS (w : Nat) : Nat := fld w 39 36
def rbS (w : Nat) : Nat := fld w 35 32
def immS (w : Nat) : Nat := fld w 31 0
/-- Format B. -/
def raB (w : Nat) : Nat := fld w 43 40
def rbB (w : Nat) : Nat := fld w 39 36
def kB (w : Nat) : Nat := fld w 35 33
def condB (w : Nat) : Nat := fld w 32 30
def imm20B (w : Nat) : Nat := fld w 29 10
def targetB (w : Nat) : Nat := fld w 9 0
/-- Format Q. -/
def dstQ (w : Nat) : Nat := fld w 43 39
def srcaQ (w : Nat) : Nat := fld w 38 34
def srcbQ (w : Nat) : Nat := fld w 33 29
def fmtQ (w : Nat) : Nat := fld w 28 25
def modQ (w : Nat) : Nat := fld w 24 0
/-- Format M. -/
def opndM (w : Nat) : Nat := fld w 43 39
def raM (w : Nat) : Nat := fld w 38 35
def mqM (w : Nat) : Nat := fld w 34 34
def cM (w : Nat) : Bool := bit w 33
/-- Format T. -/
def cqT (w : Nat) : Nat := fld w 43 41
def dqT (w : Nat) : Nat := fld w 40 38
def oqT (w : Nat) : Nat := fld w 37 35
def listT (w : Nat) : Nat := fld w 34 27

/-! ### Operand encodings (R142) -/

def isPair (v : Nat) : Bool := decide (16 ≤ v) && decide (v ≤ 23)
def isSrcQ (v : Nat) : Bool := decide (v ≤ 9)
def isDstQ (v : Nat) : Bool := decide (v ≤ 7)
def isSrc (v : Nat) : Bool := isSrcQ v || isPair v
def isDst (v : Nat) : Bool := isDstQ v || isPair v

/-- The wait bound field is as R137 asks for an instruction that can, or cannot, wait as encoded. -/
def wbOk (w : Nat) (waits : Bool) : Bool := if waits then fld w 51 44 != 0 else fld w 55 44 == 0

/-- Format S: the wait bound is 0, and register fields not used are 0. -/
def okS (w : Nat) (d a b : Bool) : Bool :=
  wbOk w false && (d || rdS w == 0) && (a || raS w == 0) && (b || rbS w == 0)

/-- Format B: the wait bound is 0, fields not used are 0, and COND holds no reserved code (log entry 11). -/
def okB (w : Nat) (r k : Bool) : Bool :=
  wbOk w false && (r || (raB w == 0 && rbB w == 0)) && (k || kB w == 0) && decide (condB w < 6)

/-- Format Q: SRCB is unused in every instruction, and the bound fits the operands. -/
def okQ (w : Nat) (waits : Bool) : Bool := srcbQ w == 24 && wbOk w waits

/-- Format M: bit 32 is 0, and C only in MST. -/
def okM (w : Nat) (waits mst : Bool) : Bool := !bit w 32 && (mst || !cM w) && wbOk w waits

/-- Format T: reserved bits are 0 and the instruction can wait. -/
def okT (w : Nat) : Bool := fld w 26 0 == 0 && wbOk w true

/-! ### Registers of a plane -/

def Plane.xr (v : Plane) (i : Nat) : Nat := (Sparse.get (fun _ => 0) v.x i).toNat
def Plane.setX (v : Plane) (i n : Nat) : Plane := { v with x := Sparse.set (fun _ => 0) v.x i (BitVec.ofNat 64 n) }
def Plane.kr (v : Plane) (i : Nat) : Nat := (Sparse.get (fun _ => 0) v.k i).toNat
def Plane.setK (v : Plane) (i n : Nat) : Plane := { v with k := Sparse.set (fun _ => 0) v.k i (BitVec.ofNat 32 n) }

/-- A register pair: x(2p) holds bits [63:0] and x(2p + 1) bits [127:64]. -/
def Plane.pair (v : Plane) (p : Nat) : Nat := v.xr (2 * p) + v.xr (2 * p + 1) * 2 ^ 64
def Plane.setPair (v : Plane) (p n : Nat) : Plane := (v.setX (2 * p) n).setX (2 * p + 1) (n / 2 ^ 64)

/-- An accumulator of a cell. -/
def Cell.accr (c : Cell) (i : Nat) : Nat := (Sparse.get (fun _ => 0) c.acc i).toNat
def Cell.setAcc (c : Cell) (i n : Nat) : Cell := { c with acc := Sparse.set (fun _ => 0) c.acc i (BitVec.ofNat 32 n) }

/-- The address of a memory instruction: xRA + OFFSET modulo 2^64 (R147). -/
def Plane.addr (v : Plane) (w : Nat) : Nat :=
  let off := fld w 31 0
  (v.xr (raM w) + (if 2 ^ 31 ≤ off then 2 ^ 64 - 2 ^ 32 + off else off)) % 2 ^ 64

/-! ### Queues -/

/-- Room of a token queue: 16 tokens in qi and qo, 32 entries in mp (R93). -/
def queueCap (q : Nat) : Nat := if q = 8 ∨ q = 9 then 32 else 16

/-- A queue can take `k` more tokens. -/
def Cell.room (c : Cell) (q k : Nat) : Bool := decide ((c.queue q).length + k ≤ queueCap q)

/-- Push a token of the cell's own making: SEQ comes at the circuit's sending end. -/
def Cell.push (c : Cell) (q kind epoch payload : Nat) : Cell :=
  c.setQueue q (c.queue q ++ [{ kind := kind, epoch := epoch, seq := 0, payload := BitVec.ofNat 128 payload }])

/-- Pop the head of a queue. -/
def Cell.pop (c : Cell) (q : Nat) : Cell := c.setQueue q ((c.queue q).drop 1)

/-- The head of a queue. -/
def Cell.head (c : Cell) (q : Nat) : Option Token := (c.queue q).head?

/-- The queue an output operand 0 to 7 names. -/
def qoIdx (d : Nat) : Nat := 16 + d

/-- What an instruction of a cell comes to. -/
inductive CellOut where
  /-- It completes; the next address, or the following one. -/
  | done (s : State) (pc : Option Nat)
  /-- It moved something and is still current. -/
  | stay (s : State)
  /-- A condition is unmet: the queue that decides, and the fault its bound would raise. -/
  | wait (s : State) (sel code arg : Nat)
  /-- It faults. -/
  | fault (s : State) (code detail arg : Nat) (addr : Option Nat)
  deriving DecidableEq, Repr

/-- The plane that holds a cell, changed. -/
def State.onPlane (s : State) (n p : Nat) (f : Plane → Plane) : State :=
  let c := s.cell n
  s.setCell n (c.setPlane p (f (c.plane p)))

/-- A reserved or forbidden field (R135). -/
def badField (s : State) : CellOut := .fault s Code.INVALID_FIELD 0 0 none

end Sys2Proof.Machine
end

