-- ==== Sys2Proof/Machine/Flags.lean ====
section
/-! DEFINITION. The FLAGS register of a plane (R139) and every computation that sets it: floating-point cases (R154 to
R156), integer accumulation (R167), floating-point accumulation (R168) and the rescale of ACT (R171, R172). -/

namespace Sys2Proof.Machine

/-- Bits of FLAGS. -/
abbrev fASAT : Nat := 1
abbrev fOVF : Nat := 2
abbrev fUNDER : Nat := 4
abbrev fINV : Nat := 8
abbrev fFOVF : Nat := 16
abbrev fAPSN : Nat := 32
abbrev fPSN : Nat := 64

/-- FLAGS as read: bit 5 is the cell's APSN. -/
def Cell.flagsOf (c : Cell) (p : Nat) : Nat := setFld (c.plane p).flags 5 5 (b2n c.apsn)

/-- Set flag bits. -/
def Plane.flag (v : Plane) (m : Nat) : Plane := { v with flags := Nat.lor v.flags m }

/-- Set LASTKIND. -/
def Plane.lastKind (v : Plane) (k : Nat) : Plane := { v with flags := setFld v.flags 19 16 k }

/-- The flag of a floating-point indication: INV for an invalid operation, FOVF for an overflow to infinity. -/
def indFlag : Ind → Nat
  | .inv => fINV
  | .inf => fFOVF
  | _ => 0

/-- FADD and FMUL on FP32 codes (R154). -/
def faddF (a b : Nat) : Nat × Nat := let r := f32Add a b; (r.1, indFlag r.2)
def fmulF (a b : Nat) : Nat × Nat := let r := f32Mul a b; (r.1, indFlag r.2)

/-- The order of FP32 codes that are not NaN, −0 below +0. -/
def f32Key (v : Nat) : Int := if v < 2 ^ 31 then Int.ofNat v else -Int.ofNat (v - 2 ^ 31) - 1

def f32Nan (v : Nat) : Bool := decide (0x7F800000 < v % 2 ^ 31)

/-- FMAX and FMIN (R155). -/
def fmaxF (a b : Nat) : Nat :=
  if f32Nan a then (if f32Nan b then 0x7FC00000 else b)
  else if f32Nan b then a else if f32Key a < f32Key b then b else a
def fminF (a b : Nat) : Nat :=
  if f32Nan a then (if f32Nan b then 0x7FC00000 else b)
  else if f32Nan b then a else if f32Key b < f32Key a then b else a

/-- CVT 0: INT32 to FP32 (R156). -/
def cvtToF (a : Nat) : Nat := f32 (Num.ofInt (signed 32 a))

/-- CVT 1: FP32 to INT32; NaN gives 0 and sets INV (R156). -/
def cvtToI (a : Nat) : Nat × Nat :=
  let r := toInt (-(2 ^ 31)) (2 ^ 31 - 1) 0 (fp32.decode a)
  (ofSigned 32 r.1, if r.2 = Ind.inv then fINV else 0)

/-- AMAX (R157). -/
def amaxI (l : List Nat) : Nat := l.foldl (fun m a => max m (signed 32 a).natAbs) 0
def amaxF (l : List Nat) : Nat :=
  if l.any f32Nan then 0x7FC00000 else l.foldl (fun m a => max m (a % 2 ^ 31)) 0

/-- One INT32 accumulation of an exact sum (R167). -/
def accInt (acc : Int) (sum : Int) : Nat × Nat :=
  let r := satInt 32 (acc + sum)
  (ofSigned 32 r, if r = acc + sum then 0 else fASAT)

/-- One FP32 accumulation: the exact sum of the terms, rounded once; the rows of R168 in their order.  `prods` are the
products with their indications, `acc` the accumulator where it takes part. -/
def accFp (acc : Option Num) (prods : List (Num × Ind)) : Nat × Nat :=
  let nums := prods.map Prod.fst
  let all := acc.toList ++ nums
  if (acc.toList.any Num.isNan) || prods.any fun p => p.1.isNan && p.2 == Ind.none then (0x7FC00000, 0)
  else if prods.any fun p => p.2 == Ind.inv then (0x7FC00000, fINV)
  else if all.any (· == Num.inf true) && all.any (· == Num.inf false) then (0x7FC00000, fINV)
  else if all.any Num.isInf then (f32 (if all.any (· == Num.inf true) then .inf true else .inf false), 0)
  else
    let total := match all with
      | [] => Num.zero
      | a :: r => r.foldl Num.addFin a
    let e := fp32.encode false total
    (e.1, indFlag e.2)

/-- Index ranges of ACT (R171): low, high, and the bound of its UNDER check (R172). -/
def actRange (fmt : Nat) (lut : Bool) : Int × Int × Nat :=
  if fmt = 1 then (0, 255, 256) else if fmt = 2 ∧ ¬ lut then (-32768, 32767, 32768) else (-128, 127, 128)

/-- The shifted product of ACT, to nearest, ties to even. -/
def actShift (p : Int) (sh : Nat) : Int :=
  if sh = 0 then p else (Num.frac (decide (p < 0)) p.natAbs (2 ^ sh)).rne

/-- UNDER (R172). -/
def actUnder (rs : List Int) (ushift bound : Nat) : Bool :=
  ushift != 0 && decide (rs.foldl (fun m r => max m r.natAbs) 0 * 2 ^ ushift < bound)

end Sys2Proof.Machine
end

