-- ==== Sys2Proof/Machine/Lattice.lean ====
section
/-! DEFINITION. The Lattice: geometry and repair, faults of planes, folding, links and their handshakes, RUN, CELL_RESET,
epochs, drain and the indirect window (chapter The Lattice). -/

namespace Sys2Proof.Machine

/-! ### Geometry (R81 to R85, R101, R130) -/

/-- The entry of the virtual-to-physical map for a usable cell. -/
def mapReg (row u : Nat) : Nat := 0xF00000 + (row * 96 + u) * 4

/-- The physical cell of a usable cell. -/
def State.physOf (s : State) (row u : Nat) : Nat := row * 100 + s.rf (mapReg row u) 6 0

/-- The usable column of a physical cell, if the map names it. -/
def State.usableOf (s : State) (n : Nat) : Option Nat :=
  (List.range 96).find? fun u => s.rf (mapReg (n / 100) u) 6 0 == n % 100

/-- Express direction of a cell. -/
def State.xdir (s : State) (n : Nat) : Nat := s.rf (clB n + 8) 18 17
/-- Relaxed rotation. -/
def State.relaxed (s : State) (n : Nat) : Bool := s.rb (clB n + 8) 16

/-- Port numbers of R86 and R105. -/
def portNum : Port → Nat | .n => 0 | .e => 1 | .s => 2 | .w => 3 | .x => 4

/-- The port of the receiving cell at which an outgoing link ends. -/
def portOpp : Port → Port | .n => .s | .s => .n | .e => .w | .w => .e | .x => .x

/-- The usable position `k` steps away in a direction: 0 = N; 1 = E; 2 = S; 3 = W. -/
def moveBy (row u dir k : Nat) : Option (Nat × Nat) :=
  match dir with
  | 0 => if k ≤ row then some (row - k, u) else none
  | 1 => if u + k < 96 then some (row, u + k) else none
  | 2 => if row + k < 64 then some (row + k, u) else none
  | _ => if k ≤ u then some (row, u - k) else none

/-- The cell an outgoing link reaches: a neighbour, or the cell 8 positions away in the same express direction. -/
def State.neighbour (s : State) (n : Nat) (p : Port) : Option Nat :=
  match s.usableOf n with
  | none => none
  | some u =>
    let going (d k : Nat) : Option Nat := (moveBy (n / 100) u d k).map fun q => s.physOf q.1 q.2
    match p with
    | .n => going 0 1
    | .e => going 1 1
    | .s => going 2 1
    | .w => going 3 1
    | .x => (going (s.xdir n) 8).filter fun m => s.xdir m == s.xdir n

/-- Planes in rotation less 1 (R112). -/
def State.factor (s : State) (n : Nat) : Nat := s.rf (clB n + 0xC) 1 0
def State.turnBound (s : State) (n : Nat) : Nat := s.rf (clB n + 0xC) 31 16
/-- RUN, EDGE_STOP. -/
def State.running (s : State) (n : Nat) : Bool := s.rb (clB n) 0
def State.edgeStop (s : State) (n : Nat) : Bool := s.rb (clB n) 1

/-- The word at an address of a plane's code. -/
def Cell.word (c : Cell) (p a : Nat) : Nat := (Sparse.get (fun _ => 0) c.code (p * 1024 + a)).toNat

/-! ### Faults of a plane (R92, R127, R133, R474) -/

/-- The fault record of a plane. -/
def State.planeRec (s : State) (n p code detail arg : Nat) (addr : Option Nat) (pc : Nat) : FaultRec :=
  { code := code, origin := 0, bind := s.clBind n, epoch := s.clEpoch n, cell := some (n, p)
    vpos := (s.rf (clB n + 0x1C) 7 0, s.rf (clB n + 0x1C) 15 8), pc := pc, detail := detail, arg := arg, addr := addr }

/-- CL_FAULT. -/
def clFault (code p pc detail : Nat) : Nat := code + p % 4 * 2 ^ 16 + pc % 1024 * 2 ^ 18 + detail % 8 * 2 ^ 28 + 2 ^ 31

/-- Push a poison token into an owned queue, or owe it while the queue is full. -/
def State.pushPoison (s : State) (n p q : Nat) : State :=
  let c := s.cell n
  if c.room (qoIdx q) 1 then s.setCell n (c.push (qoIdx q) 4 (s.clEpoch n) 0)
  else s.setCell n (c.setPlane p { c.plane p with owed := NatSet.insert (c.plane p).owed q })

/-- The next plane in rotation after `p` that can run; `p` itself when none can. -/
def State.nextPlane (s : State) (n p : Nat) : Nat :=
  let f := s.factor n + 1
  let ok (k : Nat) : Bool :=
    let v := (s.cell n).plane k
    (v.st == .running || v.st == .waiting) && (!v.dbg || v.step)
  (((List.range f).map fun i => (p + 1 + i) % f).find? ok).getD p

/-- The turn passes on (R113, R133). -/
def State.passTurn (s : State) (n : Nat) : State :=
  if s.factor n = 0 then s
  else
    let c := s.cell n
    s.setCell n { c with turn := s.nextPlane n c.turn, turnCnt := 0 }

/-- A plane halts on a fault. -/
def State.planeFaultAt (s : State) (n p code detail arg : Nat) (addr : Option Nat) (pc : Nat) : State :=
  let v := (s.cell n).plane p
  let s := (s.setReg (clB n + 0x40) (clFault code p pc detail)).fault (s.planeRec n p code detail arg addr pc)
  if v.st = .faulted then s
  else
    let s := s.onPlane n p fun v => { v with st := .faulted, waitFrom := none, deadline := none, dbg := false, step := false }
    let s := v.owned.foldl (fun s q => s.pushPoison n p q) s
    if (s.cell n).turn = p then s.passTurn n else s

def State.planeFault (s : State) (n p code detail arg : Nat) (addr : Option Nat := none) : State :=
  s.planeFaultAt n p code detail arg addr ((s.cell n).plane p).pc

/-- A refused register write of a cell: ORIGIN 3, PLANE 0, PC 0, and CL_FAULT (R105, R473, R622). -/
def State.cellRefused (s : State) (n code : Nat) : State :=
  (s.setReg (clB n + 0x40) (clFault code 0 0 0)).fault { s.planeRec n 0 code 0 0 none 0 with origin := 3 }

/-! ### Which plane runs (R112 to R114, R577) -/

/-- The plane that holds a cell can execute. -/
def State.canRun (s : State) (n : Nat) : Bool :=
  let c := s.cell n
  let v := c.plane c.turn
  s.cellOn n && s.running n && decide (c.turn ≤ s.factor n) && (v.st == .running || v.st == .waiting) && (!v.dbg || v.step)

/-- An instruction becomes current: breakpoints of TYPE 1 (R582). -/
def State.becomeCurrent (s : State) (n : Nat) : State :=
  if s.canRun n then
    let c := s.cell n
    s.bpCheck 1 (n + 8192 * c.turn) (c.plane c.turn).pc (s.clBind n) s.sn
  else s

/-- The holder of a cell cannot run and another plane can: the turn passes. -/
def State.retake (s : State) (n : Nat) : State := if s.canRun n then s else s.passTurn n

/-! ### Queues and links (R88, R89, R97 to R106) -/

/-- Count a discarded token. -/
def State.stale (s : State) (n : Nat) (k : Nat := 1) : State := s.inc (clB n + 0x10) k

/-- An instruction word names an input queue as a source (R88). -/
def namesSource (w q : Nat) : Bool :=
  let o := opF w
  if o = 0x40 ∨ o = 0x41 ∨ o = 0x42 ∨ o = 0x43 ∨ (0x60 ≤ o ∧ o ≤ 0x63) then srcaQ w == q || srcbQ w == q
  else if o = 0x51 ∨ o = 0x59 then opndM w == q
  else if o = 0x70 ∨ o = 0x71 ∨ o = 0x72 then cqT w == q || dqT w == q
  else if o = 0x73 then cqT w == q || bit (listT w) q
  else if o = 0x74 then bit (listT w) q
  else false

/-- The output queues an instruction word names as destinations (R92). -/
def namesDest (w : Nat) : List Nat :=
  let o := opF w
  if o = 0x40 ∨ o = 0x41 ∨ o = 0x42 ∨ o = 0x43 ∨ (0x60 ≤ o ∧ o ≤ 0x63) then (if dstQ w < 8 then [dstQ w] else [])
  else if o = 0x50 then (if opndM w < 8 then [opndM w] else [])
  else if o = 0x71 then (List.range 8).filter fun q => bit (listT w) q
  else if o = 0x70 ∨ o = 0x72 ∨ o = 0x73 ∨ o = 0x74 then [oqT w]
  else []

/-- The words of a plane's code that differ from 0. -/
def Cell.planeCode (c : Cell) (p : Nat) : List Nat := (c.code.filter fun e => e.1 / 1024 == p).map fun e => e.2.toNat

/-- The output queues a plane owns (R92). -/
def Cell.ownedOf (c : Cell) (p : Nat) : List Nat := ((c.planeCode p).flatMap namesDest).foldl NatSet.insert []

/-- A break in SEQ: LINK_SEQ in every plane in rotation that names the queue, or in the lowest (R88, R512). -/
def State.linkSeq (s : State) (n q port from_ : Nat) : State :=
  let c := s.cell n
  let l := (List.range (s.factor n + 1)).filter fun p => (c.planeCode p).any fun w => namesSource w q
  let s := (if l.isEmpty then [0] else l).foldl (fun s p => s.planeFault n p Code.LINK_SEQ port 0) s
  { s with rv := { s.rv with suspectCells := ((s.rv.suspectCells ++ [from_, n]).eraseDups) } }

/-- A token reaches an input queue over an incoming slot: discarded while CELL_RESET holds or for its epoch, checked
for SEQ, else queued. -/
def State.arrive (s : State) (n q port slot from_ : Nat) (t : Token) : State :=
  let c := s.cell n
  let k := port * 16 + slot
  if t.epoch ≠ s.clEpoch n then s.stale n
  else
    let last := Sparse.get (fun _ => none) c.seqIn k
    let s := s.setCell n { c with seqIn := Sparse.set (fun _ => none) c.seqIn k (some t.seq) }
    if last.all fun l => (l + 1) % 16 == t.seq then
      (s.setCell n ((s.cell n).setQueue q ((s.cell n).queue q ++ [t]))).bpCheck 3 n q (s.clBind n) s.sn (some t)
    else s.linkSeq n q port from_

/-- The entry at the sending and at the receiving end. -/
def Cell.outE (c : Cell) (port i : Nat) : Nat := (Sparse.get (fun _ => 0) c.slotOut (port * 16 + i)).toNat
def Cell.inE (c : Cell) (port i : Nat) : Nat := (Sparse.get (fun _ => 0) c.slotIn (port * 16 + i)).toNat
def Cell.placeAt (c : Cell) (k : Nat) : Option Token := Sparse.get (fun _ => none) c.place k
def Cell.setPlace (c : Cell) (k : Nat) (t : Option Token) : Cell := { c with place := Sparse.set (fun _ => none) c.place k t }

/-- Tables of the edge units: TG_EDGE_OUT, TG_EDGE_IN, PA_EDGE_OUT, PA_EDGE_IN (R344, R430). -/
def tgOut (row i : Nat) : Nat := 0x3C8000 + row * 0x80 + 4 * i
def tgIn (row i : Nat) : Nat := 0x3C8040 + row * 0x80 + 4 * i
def paOut (row i : Nat) : Nat := 0x698000 + row * 0x80 + 4 * i
def paIn (row i : Nat) : Nat := 0x698040 + row * 0x80 + 4 * i

/-- The source of an outgoing slot holds a token.  DESIGN CHOICE (log entry 98): a local source with SRC_INDEX 8 to 15, which
R105 neither lists nor reserves, names the queue of its low three bits. -/
def Cell.source (c : Cell) (e : Nat) : Option Token :=
  if bit e 1 then c.placeAt (fld e 4 2 * 16 + fld e 8 5) else (c.queue (qoIdx (fld e 7 5))).head?

/-- The sink of an incoming slot has room (R97, R106). -/
def Cell.sinkRoom (c : Cell) (port i : Nat) : Bool :=
  let e := c.inE port i
  let sink := fld e 2 1
  c.resetHold || ((sink == 1 || c.room (fld e 5 3) 1) && (sink == 0 || (c.placeAt (port * 16 + i)).isNone))

/-- Take the token of an outgoing slot; the sending end of a circuit numbers it (R88). -/
def Cell.takeOut (c : Cell) (port i : Nat) (t : Token) : Cell × Token :=
  let e := c.outE port i
  if bit e 1 then (c.setPlace (fld e 4 2 * 16 + fld e 8 5) none, t)
  else
    let k := port * 16 + i
    let n := Sparse.get (fun _ => 0) c.seqOut k
    ({ c.pop (qoIdx (fld e 7 5)) with seqOut := Sparse.set (fun _ => 0) c.seqOut k ((n + 1) % 16) }, { t with seq := n })

/-- A handshake delivers a token to a cell. -/
def State.deliver (s : State) (n port i from_ : Nat) (t : Token) : State :=
  let c := s.cell n
  let e := c.inE port i
  let sink := fld e 2 1
  if c.resetHold then s.stale n
  else
    let s := if sink = 0 then s else s.setCell n (c.setPlace (port * 16 + i) (some t))
    if sink = 1 then s else s.arrive n (fld e 5 3) port i from_ t

/-- The index a rotation serves from a pointer on, and how many entries it passes over (R102). -/
def rotate (valid ready : Nat → Bool) (relaxed : Bool) (ptr : Nat) : Option (Nat × Nat) :=
  let order := ((List.range 16).map fun k => (ptr + k) % 16).filter valid
  match order with
  | [] => none
  | a :: _ =>
    if ready a then some (a, 0)
    else if relaxed then (order.find? ready).map fun i => (i, (order.takeWhile fun j => !ready j).length)
    else none

/-- The row of a cell, and whether its routing is undefined at present (R130). -/
def State.routeOpen (s : State) (n : Nat) : Bool :=
  s.lat.unrouted.contains (n / 100) && (List.range 100).any fun c => s.running (n / 100 * 100 + c)

/-- Where an outgoing link ends: a cell; 6,400 plus the row for a west-edge unit; 6,464 plus the row for an east-edge
unit (R85, R101). -/
def State.linkEnd (s : State) (n : Nat) (p : Port) : Option Nat :=
  let u := s.usableOf n
  if u = some 0 ∧ p = .w then some (6400 + n / 100)
  else if u = some 95 ∧ p = .e then some (6464 + n / 100)
  else s.neighbour n p

/-- A handshake of an outgoing link of a cell.  While the routing of a row at either end is undefined (R130), the end it
reaches is a free value (log entry 98). -/
def State.handOut (s : State) (n : Nat) (p : Port) : State :=
  let c := s.cell n
  let ptr := Sparse.get (fun _ => 0) c.ptr (portNum p)
  let src (i : Nat) : Bool := (c.source (c.outE (portNum p) i)).isSome
  let serve (s : State) (i skips : Nat) : State × Option Token :=
    match c.source (c.outE (portNum p) i) with
    | none => (s, none)
    | some t =>
      let x := c.takeOut (portNum p) i t
      ((s.setCell n { x.1 with ptr := Sparse.set (fun _ => 0) x.1.ptr (portNum p) ((i + 1) % 16) }).inc (clB n + 0x14) skips, some x.2)
  let goal := s.linkEnd n p
  let open_ := s.routeOpen n || goal.any fun m => decide (m < 6400) && s.routeOpen m
  let goal := if open_ then some (s.freeVal % 6528) else goal
  let s := if open_ then s.useFree else s
  match goal with
  | none => s
  | some m =>
  if !s.cellOn n then s
  else if 6400 ≤ m then
    let west := decide (m < 6464)
    let row := (m - 6400) % 64
    let reg (i : Nat) : Nat := if west then tgIn row i else paIn row i
    let on := if west then s.domOn 27 else s.domOn 24
    match rotate (fun i => bit (c.outE (portNum p) i) 0 && s.rb (reg i) 0) src (s.relaxed n) ptr with
    | some (i, k) =>
      if on then
        match serve s i k with
        | (s, some t) =>
          if west then s.setWest row { s.west row with inq := (s.west row).inq ++ [(i, t)] }
          else s.setEast row { s.east row with inq := (s.east row).inq ++ [(i, t)] }
        | (s, none) => s
      else s
    | none => s
  else
    let d := s.cell m
    let q := portNum (portOpp p)
    let ok (i : Nat) : Bool := src i && d.sinkRoom q i
    if !s.cellOn m then s
    else
      match rotate (fun i => bit (c.outE (portNum p) i) 0 && bit (d.inE q i) 0) ok (s.relaxed n) ptr with
      | some (i, k) =>
        match serve s i k with
        | (s, some t) => s.deliver m q i n t
        | (s, none) => s
      | none => s

/-- A handshake of the link from an edge unit into an edge cell (R99, R102); into a cell that is a free value while the
row's routing is undefined (R130, log entry 98). -/
def State.handIn (s : State) (row : Nat) (west : Bool) : State :=
  let n := s.physOf row (if west then 0 else 95)
  let open_ := s.routeOpen n
  let n := if open_ then s.freeVal % 6400 else n
  let s := if open_ then s.useFree else s
  let e := if west then s.west row else s.east row
  let c := s.cell n
  let q := if west then 3 else 1
  let reg (i : Nat) : Nat := if west then tgOut row i else paOut row i
  let toks (i : Nat) : List Token := Sparse.get (fun _ => []) e.out i
  if !s.cellOn n || s.edgeStop n then s
  else
    match rotate (fun i => s.rb (reg i) 0 && bit (c.inE q i) 0) (fun i => !(toks i).isEmpty && c.sinkRoom q i)
        (s.relaxed n) e.ptr with
    | none => s
    | some (i, k) =>
      match toks i with
      | [] => s
      | t :: r =>
        let e := { e with out := Sparse.set (fun _ => []) e.out i r, ptr := (i + 1) % 16 }
        let s := if west then s.setWest row e else s.setEast row e
        (s.inc (clB n + 0x14) k).deliver n q i n t

/-- The token an edge unit sends into a row at the present instant, stamped with the edge cell's epoch and SEQ (R312,
R414). -/
def State.edgeSend (s : State) (row slot kind : Nat) (west : Bool) (payload : QWord) : State :=
  let n := s.physOf row (if west then 0 else 95)
  let e := if west then s.west row else s.east row
  let k := Sparse.get (fun _ => 0) e.seq slot
  let t : Token := { kind := kind, epoch := s.clEpoch n, seq := k, payload := payload }
  let e := { e with out := Sparse.set (fun _ => []) e.out slot (Sparse.get (fun _ => []) e.out slot ++ [t])
                    seq := Sparse.set (fun _ => 0) e.seq slot ((k + 1) % 16) }
  if west then s.setWest row e else s.setEast row e

/-! ### RUN, EDGE_STOP, CELL_RESET, EPOCH (R119, R121, R134, R622) -/

/-- Some through path of a cell has no valid outgoing entry that names it (R106). -/
def Cell.throughBroken (c : Cell) : Bool :=
  c.slotIn.any fun e =>
    let v := e.2.toNat
    bit v 0 && (fld v 2 1 == 1 || fld v 2 1 == 2) &&
      !(c.slotOut.any fun o => let w := o.2.toNat; bit w 0 && bit w 1 && fld w 4 2 * 16 + fld w 8 5 == e.1)

/-- A plane in rotation starts, and stops, with RUN.  DESIGN CHOICE (log entry 98): a ROUTE, GATE or MERGE abandoned after it
moved some of its governed tokens keeps the number still to move, and goes on with those. -/
def Plane.start (v : Plane) : Plane := if v.st = .faulted then v else { v with st := .running }
def Plane.stop (v : Plane) : Plane :=
  if v.st = .running ∨ v.st = .waiting then { v with st := .halted, waitFrom := none, deadline := none } else v

/-- RUN is set: the planes in rotation become current and own the queues their code names.  DESIGN CHOICE (log entry 98): the
turn and the count of its instructions stand as they were, also over a change of FACTOR without CELL_RESET; only CELL_RESET
makes them 0. -/
def State.cellStart (s : State) (n : Nat) : State :=
  let row := n / 100
  let quiet := (List.range 100).all fun i => !s.running (row * 100 + i)
  let s := if quiet then { s with lat := { s.lat with unrouted := s.lat.unrouted.filter fun r => r != row } } else s
  let c := s.cell n
  let f := s.factor n
  let go (c : Cell) (p : Nat) : Cell := c.setPlane p { (c.plane p).start with owned := c.ownedOf p }
  let c := (List.range (f + 1)).foldl go { c with resetHold := false, turn := if f < c.turn then 0 else c.turn }
  (((s.setRb (clB n) 0 true).setCell n c).retake n).becomeCurrent n

/-- RUN is cleared: the planes halt, a waiting instruction is abandoned. -/
def State.cellStop (s : State) (n : Nat) : State :=
  let c := s.cell n
  (s.setRb (clB n) 0 false).setCell n { c with planes := Sparse.mapV (fun _ => {}) (fun _ v => v.stop) c.planes }

/-- A write of RUN (R123, R622).  DESIGN CHOICE (log entry 98): a write of RUN = 1 to a cell that runs changes nothing, also
where its configuration has become broken since. -/
def State.writeRun (s : State) (n : Nat) (run : Bool) : State :=
  if run then
    if s.running n then s
    else if (s.factor n ≠ 0 ∧ s.turnBound n = 0) ∨ (s.cell n).throughBroken then s.cellRefused n Code.INVALID_FIELD
    else s.cellStart n
  else if s.running n then s.cellStop n else s

/-- The plane after CELL_RESET. -/
def Plane.cleared : Plane := { st := .halted }

/-- CELL_RESET (R121, R139, R513): RUN reads 0 until it is set again.  DESIGN CHOICE (log entry 98): tokens in the through
places of the switch point, which R121 names neither as cleared nor as kept, stay. -/
def State.resetCell (s : State) (n : Nat) : State :=
  let c := s.cell n
  let k := (c.q.map fun e => e.2.length).sum
  let planes := (List.range 4).foldl (fun (m : List (Nat × Plane)) p => Sparse.set (fun _ => {}) m p Plane.cleared) []
  let c' : Cell := { c with planes := planes, acc := [], apsn := false, q := [], mq := [], turn := 0, turnCnt := 0
                            outst := c.outst.map fun o => { o with dead := true }, seqIn := [], resetHold := true }
  let s := ((s.setRb (clB n) 0 false).setCell n c').stale n k
  (((s.setReg (clB n + 0x14) 0).setReg (clB n + 0x18) 0).setReg (clB n + 0x40) 0).repause

/-- The cell at usable column 0 of a row has changed epoch: the periods of every channel count anew for it (R312). -/
def State.rebase (s : State) (row : Nat) : State :=
  let mark (_ : Nat) (k : Chan) : Chan := { k with base := Sparse.set (fun _ => 0) k.base row k.next }
  { s with tg := { s.tg with chans := Sparse.mapV (fun _ => {}) mark s.tg.chans } }

/-- A new EPOCH: tokens of other epochs are discarded, and circuits are numbered anew (R88, R119). -/
def State.newEpoch (s : State) (n e : Nat) : State :=
  let c := s.cell n
  let bad (t : Token) : Bool := t.epoch != e
  let inq := (c.q.map fun x => (x.2.filter bad).length).sum
  let inp := (c.place.filter fun x => x.2.any bad).length
  let c' : Cell := { c with q := Sparse.mapV (fun _ => []) (fun _ l => l.filter fun t => !bad t) c.q
                            place := Sparse.mapV (fun _ => none) (fun _ t => t.filter fun t => !bad t) c.place
                            seqOut := [], seqIn := [], gen := c.gen + 1 }
  let s := (s.setCell n c').stale n (inq + inp)
  let row := n / 100
  let s := if s.usableOf n = some 0 then (s.setWest row { s.west row with seq := [] }).rebase row else s
  if s.usableOf n = some 95 then s.setEast row { s.east row with seq := [] } else s

/-- CL_BIND is written. -/
def State.writeClBind (s : State) (n v : Nat) : State :=
  let old := s.clEpoch n
  let s := ((s.setReg (clB n + 8) (v % 2 ^ 19)).claimDom (cellDom n) (fld v 15 8 != 0)).repause
  if v % 256 = old then s else s.newEpoch n (v % 256)

/-! ### The indirect window (R104, R105, R116, R128, R129) -/

/-- CL_IND_ADDR: space, plane, port, index. -/
def State.indAddr (s : State) (n : Nat) : Nat × Nat × Nat × Nat :=
  let a := s.reg (clB n + 0x80)
  (fld a 2 0, fld a 4 3, fld a 7 5, fld a 17 8)

/-- The entry CL_IND_ADDR selects. -/
def State.indRead (s : State) (n : Nat) : Nat :=
  let (sp, p, port, i) := s.indAddr n
  let c := s.cell n
  match sp with
  | 0 => c.word p i
  | 1 => if i < 16 then (c.plane p).xr i else 0
  | 2 => if i < 8 then (c.plane p).kr i else 0
  | 3 => if i < 16 then c.accr i else 0
  | 4 => if i < 256 then (Sparse.get (fun _ => 0) c.lut i).toNat else 0
  | 5 => if i < 16 ∧ port < 5 then c.outE port i else 0
  | 6 => if i < 16 ∧ port < 5 then c.inE port i else 0
  | _ => 0

/-- An indirect write is refused. -/
def State.indRefuse (s : State) (n : Nat) : State := s.setRb (clB n + 4) 4 true

/-- A write to a slot entry: reserved encodings and bits, a valid entry written again, an express link that leaves the
array.  DESIGN CHOICE (log entry 98): the outgoing X link of a cell that the map does not name (a spare) counts as
leaving the array. -/
def State.slotWrite (s : State) (n port i v : Nat) (out : Bool) : State :=
  let c := s.cell n
  let old := if out then c.outE port i else c.inE port i
  let bad := if out then decide (2 ^ 9 ≤ v) || decide (5 ≤ fld v 4 2) else decide (2 ^ 6 ≤ v) || fld v 2 1 == 3
  let leaves : Bool := match s.usableOf n with
    | some u => (moveBy (n / 100) u (s.xdir n) 8).isNone
    | none => true
  if bad then (s.indRefuse n).cellRefused n Code.INVALID_FIELD
  else if bit v 0 && bit old 0 then s.cellRefused n Code.SLOT_COLLISION
  else if out && port == 4 && bit v 0 && leaves then s.cellRefused n Code.INVALID_FIELD
  else
    let k := port * 16 + i
    if out then s.setCell n { c with slotOut := Sparse.set (fun _ => 0) c.slotOut k (BitVec.ofNat 64 v) }
    else s.setCell n { c with slotIn := Sparse.set (fun _ => 0) c.slotIn k (BitVec.ofNat 64 v) }

/-- A write to CL_IND_DATA.  DESIGN CHOICE (log entry 98): a selection outside the tables of R128 (SPACE 7, PORT 5 to 7, an
INDEX past the space's end) reads 0, and a write of it changes nothing. -/
def State.indWrite (s : State) (n v : Nat) : State :=
  let (sp, p, port, i) := s.indAddr n
  let c := s.cell n
  let busy := s.running n && (if sp < 3 then decide (p ≤ s.factor n) else sp == 3 || sp == 4)
  if busy then s.indRefuse n
  else
    match sp with
    | 0 => s.setCell n { c with code := Sparse.set (fun _ => 0) c.code (p * 1024 + i) (BitVec.ofNat 64 v) }
    | 1 => if i < 16 then s.onPlane n p fun x => x.setX i v else s
    | 2 => if i < 8 then s.onPlane n p fun x => x.setK i v else s
    | 3 => if i < 16 then s.setCell n (c.setAcc i v) else s
    | 4 => if i < 256 then s.setCell n { c with lut := Sparse.set (fun _ => 0) c.lut i (BitVec.ofNat 16 v) } else s
    | 5 => if i < 16 ∧ port < 5 then s.slotWrite n port i v true else s
    | 6 => if i < 16 ∧ port < 5 then s.slotWrite n port i v false else s
    | _ => s

end Sys2Proof.Machine
end

