-- ==== Sys2Proof/Machine/Cell.lean ====
section
/-! DEFINITION. How a cell runs an instruction (R131 to R137), and the scalar, counter, control, flag and time
instructions (R149 to R157, R160). -/

namespace Sys2Proof.Machine

/-! ### Running an instruction -/

/-- The word of the present instruction of a cell. -/
def State.curWord (s : State) (n : Nat) : Nat :=
  let c := s.cell n
  c.word c.turn (c.plane c.turn).pc

/-- An instruction completes: the address, the turn's count, a debug step, and the next instruction becomes current. -/
def State.finish (s : State) (n p : Nat) (pc : Option Nat) (rot : Bool := false) : State :=
  let v := (s.cell n).plane p
  let stepped := v.step
  let halted := v.st == .halted
  let s := s.onPlane n p fun v =>
    { v with pc := pc.getD ((v.pc + 1) % 1024), st := if halted then .halted else .running
             waitFrom := none, deadline := none, left := none, step := false }
  let s := s.setCell n { s.cell n with turnCnt := (s.cell n).turnCnt + 1 }
  (if rot || halted || stepped then s.passTurn n else s).becomeCurrent n

/-- The present instruction waits from the instant it found its condition unmet. -/
def State.cellWait (s : State) (n p : Nat) : State :=
  s.onPlane n p fun v => { v with st := .waiting, waitFrom := some (v.waitFrom.getD s.sn) }

/-- What an instruction came to. -/
def settleOut (n p : Nat) : CellOut → State
  | .done s pc => s.finish n p pc
  | .stay s => s
  | .wait s _ _ _ => State.cellWait s n p
  | .fault s code detail arg addr => s.planeFault n p code detail arg addr

/-- The instruction that would exceed the turn's bound is not executed (R114). -/
def State.turnOver (s : State) (n : Nat) : Bool := s.factor n != 0 && decide (s.turnBound n ≤ (s.cell n).turnCnt)

/-- Run the present instruction of a cell if it is the one named: `f` gives its meaning from the state, cell, plane and
word. -/
def State.runCell (s : State) (n : Nat) (isOp : Nat → Bool) (f : State → Nat → Nat → Nat → CellOut) : State :=
  let p := (s.cell n).turn
  let w := s.curWord n
  if s.canRun n && isOp (opF w) then
    if s.turnOver n then s.planeFault n p Code.FOLD_OVERFLOW 0 0
    else settleOut n p (f s n p w)
  else s

/-- An instruction of one opcode, its fields checked when it issues (R135). -/
def State.cellOp (s : State) (n op : Nat) (ok : Nat → Bool) (f : State → Nat → Nat → Nat → CellOut) : State :=
  s.runCell n (fun o => o == op) fun s n p w => if ok w then f s n p w else badField s

/-! ### Control -/

/-- NOP (R149). -/
def execNop (t : Tick) (cell : Nat) (s : State) : Result :=
  .next ((s.advanceTo t).cellOp cell 0x00 (fun w => okB w false false) fun s _ _ _ => .done s none)

/-- HALT (R153): the plane halts on the next instruction. -/
def execHalt (t : Tick) (cell : Nat) (s : State) : Result :=
  .next ((s.advanceTo t).cellOp cell 0x01 (fun w => okB w false false) fun s n p _ =>
    .done (s.onPlane n p fun v => { v with st := .halted }) none)

/-- ROT (R113): the turn ends; a no-operation with FACTOR = 1. -/
def execRot (t : Tick) (cell : Nat) (s : State) : Result :=
  let s := s.advanceTo t
  let p := (s.cell cell).turn
  .next (if s.canRun cell && opF (s.curWord cell) == 0x02 then
      if s.turnOver cell then s.planeFault cell p Code.FOLD_OVERFLOW 0 0
      else if okB (s.curWord cell) false false then s.finish cell p none true
      else s.planeFault cell p Code.INVALID_FIELD 0 0
    else s)

/-- JMP. -/
def execJmp (t : Tick) (cell : Nat) (s : State) : Result :=
  .next ((s.advanceTo t).cellOp cell 0x03 (fun w => okB w false false) fun s _ _ w => .done s (some (targetB w)))

/-- COND of BR (R145). -/
def condHolds (c a b : Nat) : Bool :=
  match c with
  | 0 => a == b
  | 1 => a != b
  | 2 => decide (signed 64 a < signed 64 b)
  | 3 => decide (signed 64 b ≤ signed 64 a)
  | 4 => decide (a < b)
  | _ => decide (b ≤ a)

/-- BR. -/
def execBr (t : Tick) (cell : Nat) (s : State) : Result :=
  .next ((s.advanceTo t).cellOp cell 0x04 (fun w => okB w true false) fun s n p w =>
    let v := (s.cell n).plane p
    .done s (if condHolds (condB w) (v.xr (raB w)) (v.xr (rbB w)) then some (targetB w) else none))

/-- BRF (R152). -/
def execBrf (t : Tick) (cell : Nat) (s : State) : Result :=
  .next ((s.advanceTo t).cellOp cell 0x05 (fun w => okB w false false && decide (imm20B w < 128)) fun s n p w =>
    .done s (if (s.cell n).flagsOf p % 128 &&& imm20B w ≠ 0 then some (targetB w) else none))

/-- LOOP (R151). -/
def execLoopI (t : Tick) (cell : Nat) (s : State) : Result :=
  .next ((s.advanceTo t).cellOp cell 0x06 (fun w => okB w false true) fun s n p w =>
    let k := ((s.cell n).plane p).kr (kB w)
    if k = 0 then .done s none else .done (s.onPlane n p fun v => v.setK (kB w) (k - 1)) (some (targetB w)))

/-- KCYC (R151). -/
def execKcyc (t : Tick) (cell : Nat) (s : State) : Result :=
  .next ((s.advanceTo t).cellOp cell 0x07 (fun w => okB w false true && imm20B w != 0) fun s n p w =>
    let k := (((s.cell n).plane p).kr (kB w) + 1) % 2 ^ 32
    if imm20B w ≤ k then .done (s.onPlane n p fun v => v.setK (kB w) 0) (some (targetB w))
    else .done (s.onPlane n p fun v => v.setK (kB w) k) none)

/-- FAULT (R149, R152). -/
def execFaultI (t : Tick) (cell : Nat) (s : State) : Result :=
  .next ((s.advanceTo t).cellOp cell 0x08 (fun w => okS w false false false && decide (immS w < 2 ^ 16)) fun s _ _ w =>
    .fault s Code.PROGRAM_FAULT 0 (immS w) none)

/-! ### Flags and counters -/

/-- RDFLG. -/
def execRdflg (t : Tick) (cell : Nat) (s : State) : Result :=
  .next ((s.advanceTo t).cellOp cell 0x09 (fun w => okS w true false false) fun s n p w =>
    .done (s.onPlane n p fun v => v.setX (rdS w) ((s.cell n).flagsOf p)) none)

/-- CLRFLG (R139): bits [4:0] and [6]. -/
def execClrflg (t : Tick) (cell : Nat) (s : State) : Result :=
  .next ((s.advanceTo t).cellOp cell 0x0A (fun w => okS w false false false) fun s n p w =>
    let m := immS w &&& 0x5F
    .done (s.onPlane n p fun v => { v with flags := v.flags - (v.flags &&& m) }) none)

/-- KSET. -/
def execKset (t : Tick) (cell : Nat) (s : State) : Result :=
  .next ((s.advanceTo t).cellOp cell 0x0B (fun w => okS w true false false && decide (rdS w < 8)) fun s n p w =>
    .done (s.onPlane n p fun v => v.setK (rdS w) (immS w)) none)

/-- KTOX. -/
def execKtox (t : Tick) (cell : Nat) (s : State) : Result :=
  .next ((s.advanceTo t).cellOp cell 0x0C (fun w => okS w true true false && decide (raS w < 8)) fun s n p w =>
    .done (s.onPlane n p fun v => v.setX (rdS w) (v.kr (raS w))) none)

/-- XTOK. -/
def execXtok (t : Tick) (cell : Nat) (s : State) : Result :=
  .next ((s.advanceTo t).cellOp cell 0x0D (fun w => okS w true true false && decide (rdS w < 8)) fun s n p w =>
    .done (s.onPlane n p fun v => v.setK (rdS w) (v.xr (raS w))) none)

/-! ### Arithmetic (R150, R154 to R156) -/

/-- The second operand of an immediate form: IMM sign-extended, or IMM as FP32 bits (R149). -/
def immX (w : Nat) : Nat := if 2 ^ 31 ≤ immS w then 2 ^ 64 - 2 ^ 32 + immS w else immS w

/-- A register form: xRD from xRA and xRB, and the flags it sets. -/
def State.aluR (s : State) (n op : Nat) (f : Nat → Nat → Nat × Nat) : State :=
  s.cellOp n op (fun w => okS w true true true) fun s n p w =>
    let v := (s.cell n).plane p
    let r := f (v.xr (raS w)) (v.xr (rbS w))
    .done (s.onPlane n p fun v => (v.setX (rdS w) r.1).flag r.2) none

/-- An immediate form. -/
def State.aluI (s : State) (n op : Nat) (f : Nat → Nat → Nat × Nat) (imm : Nat → Nat) : State :=
  s.cellOp n op (fun w => okS w true true false) fun s n p w =>
    let r := f (((s.cell n).plane p).xr (raS w)) (imm w)
    .done (s.onPlane n p fun v => (v.setX (rdS w) r.1).flag r.2) none

/-- The 64-bit operations; none sets a flag. -/
def opAdd (a b : Nat) : Nat × Nat := (a + b, 0)
def opSub (a b : Nat) : Nat × Nat := (a + (2 ^ 64 - b), 0)
def opMul (a b : Nat) : Nat × Nat := (a * b, 0)
def opAnd (a b : Nat) : Nat × Nat := (a &&& b, 0)
def opOr (a b : Nat) : Nat × Nat := (a ||| b, 0)
def opXor (a b : Nat) : Nat × Nat := (a ^^^ b, 0)
def opShl (a b : Nat) : Nat × Nat := (a <<< (b % 64), 0)
def opShr (a b : Nat) : Nat × Nat := (a >>> (b % 64), 0)
def opSra (a b : Nat) : Nat × Nat := (ofSigned 64 (signed 64 a >>> (b % 64)), 0)
def opMin (a b : Nat) : Nat × Nat := (if signed 64 b < signed 64 a then b else a, 0)
def opMax (a b : Nat) : Nat × Nat := (if signed 64 a < signed 64 b then b else a, 0)
/-- The FP32 operations on bits [31:0]. -/
def opFadd (a b : Nat) : Nat × Nat := faddF (a % 2 ^ 32) (b % 2 ^ 32)
def opFmul (a b : Nat) : Nat × Nat := fmulF (a % 2 ^ 32) (b % 2 ^ 32)
def opFmax (a b : Nat) : Nat × Nat := (fmaxF (a % 2 ^ 32) (b % 2 ^ 32), 0)
def opFmin (a b : Nat) : Nat × Nat := (fminF (a % 2 ^ 32) (b % 2 ^ 32), 0)

/-- ADD (R150). -/
def execAddR (t : Tick) (cell : Nat) (s : State) : Result := .next ((s.advanceTo t).aluR cell 0x10 opAdd)

/-- ADD with an immediate (R149, R150). -/
def execAddImmediate (t : Tick) (cell : Nat) (s : State) : Result := .next ((s.advanceTo t).aluI cell 0x30 opAdd immX)

/-- SUB (R150). -/
def execSubR (t : Tick) (cell : Nat) (s : State) : Result := .next ((s.advanceTo t).aluR cell 0x11 opSub)

/-- SUB with an immediate (R149, R150). -/
def execSubImmediate (t : Tick) (cell : Nat) (s : State) : Result := .next ((s.advanceTo t).aluI cell 0x31 opSub immX)

/-- MUL (R150). -/
def execMulR (t : Tick) (cell : Nat) (s : State) : Result := .next ((s.advanceTo t).aluR cell 0x12 opMul)

/-- MUL with an immediate (R149, R150). -/
def execMulImmediate (t : Tick) (cell : Nat) (s : State) : Result := .next ((s.advanceTo t).aluI cell 0x32 opMul immX)

/-- AND (R150). -/
def execAndR (t : Tick) (cell : Nat) (s : State) : Result := .next ((s.advanceTo t).aluR cell 0x13 opAnd)

/-- AND with an immediate (R149, R150). -/
def execAndImmediate (t : Tick) (cell : Nat) (s : State) : Result := .next ((s.advanceTo t).aluI cell 0x33 opAnd immX)

/-- OR (R150). -/
def execOrR (t : Tick) (cell : Nat) (s : State) : Result := .next ((s.advanceTo t).aluR cell 0x14 opOr)

/-- OR with an immediate (R149, R150). -/
def execOrImmediate (t : Tick) (cell : Nat) (s : State) : Result := .next ((s.advanceTo t).aluI cell 0x34 opOr immX)

/-- XOR (R150). -/
def execXorR (t : Tick) (cell : Nat) (s : State) : Result := .next ((s.advanceTo t).aluR cell 0x15 opXor)

/-- XOR with an immediate (R149, R150). -/
def execXorImmediate (t : Tick) (cell : Nat) (s : State) : Result := .next ((s.advanceTo t).aluI cell 0x35 opXor immX)

/-- SHL (R150). -/
def execShlR (t : Tick) (cell : Nat) (s : State) : Result := .next ((s.advanceTo t).aluR cell 0x16 opShl)

/-- SHL with an immediate (R149, R150). -/
def execShlImmediate (t : Tick) (cell : Nat) (s : State) : Result := .next ((s.advanceTo t).aluI cell 0x36 opShl immX)

/-- SHR (R150). -/
def execShrR (t : Tick) (cell : Nat) (s : State) : Result := .next ((s.advanceTo t).aluR cell 0x17 opShr)

/-- SHR with an immediate (R149, R150). -/
def execShrImmediate (t : Tick) (cell : Nat) (s : State) : Result := .next ((s.advanceTo t).aluI cell 0x37 opShr immX)

/-- SRA (R150). -/
def execSraR (t : Tick) (cell : Nat) (s : State) : Result := .next ((s.advanceTo t).aluR cell 0x18 opSra)

/-- SRA with an immediate (R149, R150). -/
def execSraImmediate (t : Tick) (cell : Nat) (s : State) : Result := .next ((s.advanceTo t).aluI cell 0x38 opSra immX)

/-- MIN (R150). -/
def execMinR (t : Tick) (cell : Nat) (s : State) : Result := .next ((s.advanceTo t).aluR cell 0x19 opMin)

/-- MIN with an immediate (R149, R150). -/
def execMinImmediate (t : Tick) (cell : Nat) (s : State) : Result := .next ((s.advanceTo t).aluI cell 0x39 opMin immX)

/-- MAX (R150). -/
def execMaxR (t : Tick) (cell : Nat) (s : State) : Result := .next ((s.advanceTo t).aluR cell 0x1a opMax)

/-- MAX with an immediate (R149, R150). -/
def execMaxImmediate (t : Tick) (cell : Nat) (s : State) : Result := .next ((s.advanceTo t).aluI cell 0x3a opMax immX)

/-- FADD (R154). -/
def execFadd (t : Tick) (cell : Nat) (s : State) : Result := .next ((s.advanceTo t).aluR cell 0x1b opFadd)

/-- FADD with an immediate (R149, R154). -/
def execFaddImmediate (t : Tick) (cell : Nat) (s : State) : Result := .next ((s.advanceTo t).aluI cell 0x3b opFadd immS)

/-- FMUL (R154). -/
def execFmul (t : Tick) (cell : Nat) (s : State) : Result := .next ((s.advanceTo t).aluR cell 0x1c opFmul)

/-- FMUL with an immediate (R149, R154). -/
def execFmulImmediate (t : Tick) (cell : Nat) (s : State) : Result := .next ((s.advanceTo t).aluI cell 0x3c opFmul immS)

/-- FMAX (R155). -/
def execFmax (t : Tick) (cell : Nat) (s : State) : Result := .next ((s.advanceTo t).aluR cell 0x1d opFmax)

/-- FMAX with an immediate (R149, R155). -/
def execFmaxImmediate (t : Tick) (cell : Nat) (s : State) : Result := .next ((s.advanceTo t).aluI cell 0x3d opFmax immS)

/-- FMIN (R155). -/
def execFmin (t : Tick) (cell : Nat) (s : State) : Result := .next ((s.advanceTo t).aluR cell 0x1e opFmin)

/-- FMIN with an immediate (R149, R155). -/
def execFminImmediate (t : Tick) (cell : Nat) (s : State) : Result := .next ((s.advanceTo t).aluI cell 0x3e opFmin immS)

/-- CVT (R156). -/
def execCvt (t : Tick) (cell : Nat) (s : State) : Result :=
  .next ((s.advanceTo t).cellOp cell 0x1F (fun w => okS w true true true && decide (rbS w < 2)) fun s n p w =>
    let a := ((s.cell n).plane p).xr (raS w)
    let r := if rbS w = 0 then (cvtToF a, 0) else cvtToI (a % 2 ^ 32)
    .done (s.onPlane n p fun v => (v.setX (rdS w) r.1).flag r.2) none)

/-! ### Moves and time -/

/-- MOVI. -/
def execMovi (t : Tick) (cell : Nat) (s : State) : Result :=
  .next ((s.advanceTo t).cellOp cell 0x20 (fun w => okS w true false false) fun s n p w =>
    .done (s.onPlane n p fun v => v.setX (rdS w) (immX w)) none)

/-- MOVHI. -/
def execMovhi (t : Tick) (cell : Nat) (s : State) : Result :=
  .next ((s.advanceTo t).cellOp cell 0x21 (fun w => okS w true false false) fun s n p w =>
    .done (s.onPlane n p fun v => v.setX (rdS w) (v.xr (rdS w) % 2 ^ 32 + immS w * 2 ^ 32)) none)

/-- RDT (R160): RD must be even. -/
def execRdt (t : Tick) (cell : Nat) (s : State) : Result :=
  .next ((s.advanceTo t).cellOp cell 0x22 (fun w => okS w true false false && rdS w % 2 == 0) fun s n p w =>
    .done (s.onPlane n p fun v => v.setPair (rdS w / 2) (pack96 s.sn)) none)

/-- AMAX (R157). -/
def execAmax (t : Tick) (cell : Nat) (s : State) : Result :=
  .next ((s.advanceTo t).cellOp cell 0x23 (fun w => okS w true false true && decide (rbS w < 2)) fun s n p w =>
    let l := (List.range 16).map (s.cell n).accr
    .done (s.onPlane n p fun v => v.setX (rdS w) (if rbS w = 0 then amaxI l else amaxF l)) none)

/-- The opcode table of R149. -/
def definedOp (o : Nat) : Bool :=
  decide (o ≤ 0x0D) || (decide (0x10 ≤ o) && decide (o ≤ 0x23)) || (decide (0x30 ≤ o) && decide (o ≤ 0x3E)) ||
  (decide (0x40 ≤ o) && decide (o ≤ 0x43)) || (decide (0x50 ≤ o) && decide (o ≤ 0x55)) || o == 0x58 || o == 0x59 ||
  (decide (0x60 ≤ o) && decide (o ≤ 0x63)) || (decide (0x70 ≤ o) && decide (o ≤ 0x74))

/-- UNDEFINED_CELL_OPCODE (R135). -/
def execUndefinedCellOpcode (t : Tick) (cell : Nat) (s : State) : Result :=
  .next ((s.advanceTo t).runCell cell (fun o => !definedOp o) fun s _ _ _ => .fault s Code.INVALID_OPCODE 0 0 none)

end Sys2Proof.Machine
end

