-- ==== Sys2Proof/Machine/CellMem.lean ====
section
/-! DEFINITION. The queue, time and memory instructions of a cell (R158 to R164). -/

namespace Sys2Proof.Machine

/-! ### Queues (R132, R158, R159) -/

/-- A source that is missing, and a destination that is full (R132). -/
def underflow (s : State) (sel : Nat) : CellOut := .wait s sel Code.QUEUE_UNDERFLOW 0
def overflow (s : State) (sel : Nat) : CellOut := .wait s sel Code.QUEUE_OVERFLOW 0

/-- The token a source operand holds: a queue's head, or a pair's payload as a data token. -/
def State.srcTok (s : State) (n p sel : Nat) : Option Token :=
  let c := s.cell n
  if isPair sel then some { kind := 0, epoch := 0, seq := 0, payload := BitVec.ofNat 128 ((c.plane p).pair (sel - 16)) }
  else c.head sel

/-- Consume a source operand. -/
def State.useSrc (s : State) (n sel : Nat) : State := if isSrcQ sel then s.setCell n ((s.cell n).pop sel) else s

/-- Write a token of a kind to a destination operand. -/
def State.putDst (s : State) (n p sel kind payload : Nat) : State :=
  if isPair sel then s.onPlane n p fun v => v.setPair (sel - 16) payload
  else s.setCell n ((s.cell n).push (qoIdx sel) kind (s.clEpoch n) payload)

/-- A destination operand can take `k` tokens. -/
def State.dstRoom (s : State) (n sel k : Nat) : Bool := isPair sel || (s.cell n).room (qoIdx sel) k

/-- MOV (R158). -/
def movEval (s : State) (n p w : Nat) : CellOut :=
  let a := srcaQ w
  let d := dstQ w
  let waits := isSrcQ a || isDstQ d
  let fromPair := isPair a && isDstQ d
  if !(okQ w waits && isSrc a && isDst d && (if fromPair then decide (fmtQ w ≤ 4) else fmtQ w == 0)) then badField s
  else
    match s.srcTok n p a with
    | none => underflow s a
    | some t =>
      if isSrcQ a && decide (5 ≤ t.kind) then .fault s Code.TOKEN_KIND a 0 none
      else if !s.dstRoom n d 1 then overflow s d
      else
        let s := (s.useSrc n a).putDst n p d (if fromPair then fmtQ w else t.kind) t.payload.toNat
        .done (if isSrcQ a && isPair d then s.onPlane n p fun v => v.lastKind t.kind else s) none

/-- DROP (R158). -/
def dropEval (s : State) (n _p w : Nat) : CellOut :=
  let a := srcaQ w
  if !(okQ w true && isSrcQ a && dstQ w == 24) then badField s
  else if ((s.cell n).head a).isNone then underflow s a
  else .done (s.useSrc n a) none

/-- Entries and depth of a queue WAITQ names: a source qi or mp, or a destination qo or mq. -/
def State.waitqFill (s : State) (n w : Nat) : Nat × Nat :=
  let c := s.cell n
  if srcaQ w = 24 then
    if dstQ w < 8 then ((c.queue (qoIdx (dstQ w))).length, 16) else ((c.mqq (dstQ w - 8)).length, 32)
  else ((c.queue (srcaQ w)).length, queueCap (srcaQ w))

/-- WAITQ (R159). -/
def waitqEval (s : State) (n _p w : Nat) : CellOut :=
  let a := srcaQ w
  let d := dstQ w
  let lv := fld (modQ w) 5 0
  let f := s.waitqFill n w
  let one := (a == 24 && isSrcQ d) || (d == 24 && isSrcQ a)
  if !(okQ w true && one && decide (1 ≤ lv) && decide (lv ≤ f.2)) then badField s
  else if (if a = 24 then f.2 - f.1 else f.1) < lv then .wait s (if a = 24 then d else a) Code.WAIT_TIMEOUT 0
  else .done s none

/-- WAITT (R160): the deadline stands in a pair, at face value. -/
def waittEval (s : State) (n p w : Nat) : CellOut :=
  let v := (s.cell n).plane p
  let a := srcaQ w
  if !(okQ w true && isPair a && dstQ w == 24) then badField s
  else
    let d := match v.deadline with
      | some d => d
      | none => unpack96 (v.pair (a - 16) % 2 ^ 96)
    if d ≤ s.sn then .done s none
    else if v.deadline.isNone ∧ s.sn + boundF w < d then .fault s Code.WAIT_TIMEOUT 0 0 none
    else .wait (s.onPlane n p fun v => { v with deadline := some d }) 24 Code.WAIT_TIMEOUT 0

/-! ### SRAM (R161, R162) -/

/-- Local offset of a byte of a cell's SRAM. -/
def sramAt (n a : Nat) : Nat := 0x2100000000 + n * 0x10000 + a

/-- The fault of an SRAM access of `len` bytes, if any. -/
def sramBad (a len : Nat) : Option Nat :=
  if a % len ≠ 0 then some Code.MISALIGNED else if 49152 < a + len then some Code.ADDR_RANGE else none

/-- A mark in an operand of an instruction without a queue destination goes to the pending-mark register (R140). -/
def State.takeMark (s : State) (n p sel : Nat) (t : Token) : CellOut :=
  let s := s.useSrc n sel
  .stay (s.onPlane n p fun v => { v with mark := some ((v.mark.getD 0) ||| t.payload) })

/-- The kinds of an operand token (R90, R91, R141): data goes on; null is consumed; a mark is put aside; poison acts. -/
def State.byKind (s : State) (n p sel : Nat) (poison : State → State) (data : Token → CellOut) : CellOut :=
  match s.srcTok n p sel with
  | none => underflow s sel
  | some t =>
    match t.kind with
    | 0 => data t
    | 2 => .done (s.useSrc n sel) none
    | 3 => s.takeMark n p sel t
    | 4 => .done (poison (s.useSrc n sel)) none
    | _ => .fault s Code.TOKEN_KIND sel 0 none

/-- PSN is set (R139). -/
def State.setPsn (s : State) (n p : Nat) : State := s.onPlane n p fun v => v.flag fPSN

/-- LDS. -/
def ldsEval (s : State) (n p w : Nat) : CellOut :=
  let a := ((s.cell n).plane p).addr w
  let d := opndM w
  if !(okM w (isDstQ d) false && isDst d) then badField s
  else
    match sramBad a 16 with
    | some c => .fault s c 0 0 (some a)
    | none =>
      if s.dstRoom n d 1 then .done (s.putDst n p d 0 (s.leMem (sramAt n a) 16)) none else overflow s d

/-- STS. -/
def stsEval (s : State) (n p w : Nat) : CellOut :=
  let a := ((s.cell n).plane p).addr w
  let o := opndM w
  if !(okM w (isSrcQ o) false && isSrc o) then badField s
  else
    match sramBad a 16 with
    | some c => .fault s c 0 0 (some a)
    | none => s.byKind n p o (fun s => s.setPsn n p) fun t =>
        .done ((s.useSrc n o).setBytes (sramAt n a) (leBytes 16 t.payload.toNat)) none

/-- LDX. -/
def ldxEval (s : State) (n p w : Nat) : CellOut :=
  let a := ((s.cell n).plane p).addr w
  if !(okM w false false && decide (opndM w < 16)) then badField s
  else
    match sramBad a 8 with
    | some c => .fault s c 0 0 (some a)
    | none => .done (s.onPlane n p fun v => v.setX (opndM w) (s.leMem (sramAt n a) 8)) none

/-- STX. -/
def stxEval (s : State) (n p w : Nat) : CellOut :=
  let v := (s.cell n).plane p
  let a := v.addr w
  if !(okM w false false && decide (opndM w < 16)) then badField s
  else
    match sramBad a 8 with
    | some c => .fault s c 0 0 (some a)
    | none => .done (s.setBytes (sramAt n a) (leBytes 8 (v.xr (opndM w)))) none

/-- ACCLD (R162): APSN is cleared (R141). -/
def accldEval (s : State) (n p w : Nat) : CellOut :=
  let a := ((s.cell n).plane p).addr w
  if !(okM w false false && opndM w == 24) then badField s
  else
    match sramBad a 64 with
    | some c => .fault s c 0 0 (some a)
    | none =>
      let c := (List.range 16).foldl (fun c i => c.setAcc i (s.leMem (sramAt n a + 4 * i) 4)) (s.cell n)
      .done (s.setCell n { c with apsn := false }) none

/-- ACCST. -/
def accstEval (s : State) (n p w : Nat) : CellOut :=
  let a := ((s.cell n).plane p).addr w
  if !(okM w false false && opndM w == 24) then badField s
  else
    match sramBad a 64 with
    | some c => .fault s c 0 0 (some a)
    | none => .done (s.setBytes (sramAt n a) ((List.range 16).flatMap fun i => leBytes 4 ((s.cell n).accr i))) none

/-! ### Requests (R163, R464) -/

/-- Place a request in an mq queue. -/
def State.mqPut (s : State) (n p w : Nat) (write answered : Bool) (addr : Nat) (data : QWord) : State :=
  let c := s.cell n
  let e : MqEntry := { write := write, addr := addr, data := data, answered := answered, plane := p, epoch := s.clEpoch n,
                       pc := (c.plane p).pc }
  s.setCell n (c.setMqq (mqM w) (c.mqq (mqM w) ++ [e]))

/-- An mq queue is full. -/
def State.mqFull (s : State) (n w : Nat) : Bool := decide (32 ≤ ((s.cell n).mqq (mqM w)).length)

/-- MLD. -/
def mldEval (s : State) (n p w : Nat) : CellOut :=
  let a := ((s.cell n).plane p).addr w
  if !(okM w true false && opndM w == 24) then badField s
  else if a % 16 ≠ 0 then .fault s Code.MISALIGNED 0 0 (some a)
  else if s.mqFull n w then overflow s (8 + mqM w)
  else .done (s.mqPut n p w false true a 0) none

/-- MST. -/
def mstEval (s : State) (n p w : Nat) : CellOut :=
  let a := ((s.cell n).plane p).addr w
  let o := opndM w
  if !(okM w true true && isSrc o) then badField s
  else if a % 16 ≠ 0 then .fault s Code.MISALIGNED 0 0 (some a)
  else s.byKind n p o (fun s => s.setPsn n p) fun t =>
    if s.mqFull n w then overflow s (8 + mqM w)
    else .done ((s.useSrc n o).mqPut n p w true (cM w) a t.payload) none

/-! ### The commands -/

/-- MOV. -/
def execMov (t : Tick) (cell : Nat) (s : State) : Result :=
  .next ((s.advanceTo t).runCell cell (fun o => o == 0x40) movEval)
/-- DROP. -/
def execDropTok (t : Tick) (cell : Nat) (s : State) : Result :=
  .next ((s.advanceTo t).runCell cell (fun o => o == 0x41) dropEval)
/-- WAITQ. -/
def execWaitq (t : Tick) (cell : Nat) (s : State) : Result :=
  .next ((s.advanceTo t).runCell cell (fun o => o == 0x42) waitqEval)
/-- WAITT. -/
def execWaitt (t : Tick) (cell : Nat) (s : State) : Result :=
  .next ((s.advanceTo t).runCell cell (fun o => o == 0x43) waittEval)
/-- LDS. -/
def execLds (t : Tick) (cell : Nat) (s : State) : Result :=
  .next ((s.advanceTo t).runCell cell (fun o => o == 0x50) ldsEval)
/-- STS. -/
def execSts (t : Tick) (cell : Nat) (s : State) : Result :=
  .next ((s.advanceTo t).runCell cell (fun o => o == 0x51) stsEval)
/-- LDX. -/
def execLdx (t : Tick) (cell : Nat) (s : State) : Result :=
  .next ((s.advanceTo t).runCell cell (fun o => o == 0x52) ldxEval)
/-- STX. -/
def execStx (t : Tick) (cell : Nat) (s : State) : Result :=
  .next ((s.advanceTo t).runCell cell (fun o => o == 0x53) stxEval)
/-- ACCLD. -/
def execAccld (t : Tick) (cell : Nat) (s : State) : Result :=
  .next ((s.advanceTo t).runCell cell (fun o => o == 0x54) accldEval)
/-- ACCST. -/
def execAccst (t : Tick) (cell : Nat) (s : State) : Result :=
  .next ((s.advanceTo t).runCell cell (fun o => o == 0x55) accstEval)
/-- MLD. -/
def execMld (t : Tick) (cell : Nat) (s : State) : Result :=
  .next ((s.advanceTo t).runCell cell (fun o => o == 0x58) mldEval)
/-- MST. -/
def execMst (t : Tick) (cell : Nat) (s : State) : Result :=
  .next ((s.advanceTo t).runCell cell (fun o => o == 0x59) mstEval)

end Sys2Proof.Machine
end

