-- ==== Sys2Proof/Machine/CellMac.lean ====
section
/-! DEFINITION. The MAC slab, the accumulators and ACT (R165 to R173). -/

namespace Sys2Proof.Machine

/-! ### WAVE (R165 to R168) -/

/-- Activation `i` of a token and weight `i` of output `o` of a tile, as integers. -/
def actInt (fmt pay i : Nat) : Int :=
  match fmt with
  | 0 => signed 8 (pay >>> (8 * i))
  | 1 => Int.ofNat ((pay >>> (8 * i)) % 256)
  | 2 => signed 4 (pay >>> (4 * i))
  | _ => Int.ofNat ((pay >>> (4 * i)) % 16)

def weightInt (fmt : Nat) (tile : List Byte) (o i : Nat) : Int :=
  if fmt < 2 then signed 8 (byteAt tile (16 * o + i))
  else signed 4 (byteAt tile (16 * o + i / 2) >>> (if i % 2 = 0 then 0 else 4))

/-- Inputs of a wave. -/
def waveInputs (fmt : Nat) : Nat := if fmt = 2 ∨ fmt = 3 then 32 else 16

/-- Formats of activations and weights of FMT 4 to 6. -/
def waveActF (fmt : Nat) : FFmt := if fmt = 4 then e4m3 else e5m2
def waveWgtF (fmt : Nat) : FFmt := if fmt = 5 then e5m2 else e4m3

/-- One output of a wave: the new accumulator and the flags. -/
def waveOut (fmt pay : Nat) (tile : List Byte) (clr : Bool) (acc o : Nat) : Nat × Nat :=
  if fmt < 4 then
    let sum := ((List.range (waveInputs fmt)).map fun i => weightInt fmt tile o i * actInt fmt pay i).sum
    accInt (if clr then 0 else signed 32 acc) sum
  else
    let prod (i : Nat) : Num × Ind :=
      ((waveWgtF fmt).decode (byteAt tile (16 * o + i))).mul ((waveActF fmt).decode ((pay >>> (8 * i)) % 256))
    accFp (if clr then none else some (fp32.decode acc)) ((List.range 16).map prod)

/-- All 16 outputs; a wave with CLR clears APSN. -/
def Cell.wave (c : Cell) (p fmt pay : Nat) (tile : List Byte) (clr : Bool) : Cell :=
  let r := (List.range 16).map fun o => waveOut fmt pay tile clr (c.accr o) o
  let c' := r.foldl (fun (x : Cell × Nat) a => (x.1.setAcc x.2 a.1, x.2 + 1)) (c, 0)
  let m := r.foldl (fun m a => Nat.lor m a.2) 0
  let c' := c'.1.setPlane p ((c'.1.plane p).flag m)
  if clr then { c' with apsn := false } else c'

/-- WAVE. -/
def waveEval (s : State) (n p w : Nat) : CellOut :=
  let a := srcaQ w
  let m := modQ w
  if !(okQ w (isSrcQ a) && isSrc a && dstQ w == 24 && decide (fmtQ w ≤ 6) && decide (m < 512)) then badField s
  else if 192 ≤ m % 256 then .fault s Code.ADDR_RANGE 0 0 (some (m % 256 * 256))
  else s.byKind n p a (fun s => s.setCell n { s.cell n with apsn := true }) fun t =>
    let tile := s.bytesAt (sramAt n (m % 256 * 256)) 256
    let s := s.useSrc n a
    .done (s.setCell n ((s.cell n).wave p (fmtQ w) t.payload.toNat tile (bit m 8))) none

/-! ### AADD and AOUT (R169) -/

/-- Lane `j` of a token. -/
def laneOf (pay j : Nat) : Nat := pay >>> (32 * j) % 2 ^ 32

/-- Four lanes added to an accumulator group. -/
def Cell.addLanes (c : Cell) (p fmt g pay : Nat) : Cell :=
  let one (x : Cell × Nat) (j : Nat) : Cell × Nat :=
    let a := c.accr (4 * g + j)
    let r := if fmt = 0 then accInt (signed 32 a) (signed 32 (laneOf pay j)) else faddF a (laneOf pay j)
    (x.1.setAcc (4 * g + j) r.1, Nat.lor x.2 r.2)
  let r := (List.range 4).foldl one (c, 0)
  r.1.setPlane p ((r.1.plane p).flag r.2)

/-- AADD. -/
def aaddEval (s : State) (n p w : Nat) : CellOut :=
  let a := srcaQ w
  if !(okQ w (isSrcQ a) && isSrc a && dstQ w == 24 && decide (fmtQ w ≤ 1) && decide (modQ w < 4)) then badField s
  else s.byKind n p a (fun s => s.setCell n { s.cell n with apsn := true }) fun t =>
    let s := s.useSrc n a
    .done (s.setCell n ((s.cell n).addLanes p (fmtQ w) (modQ w % 4) t.payload.toNat)) none

/-- The pending mark leaves ahead of a result (R140). -/
def State.pushMark (s : State) (n p d : Nat) : State :=
  match ((s.cell n).plane p).mark with
  | some m => (s.putDst n p d 3 m.toNat).onPlane n p fun v => { v with mark := none }
  | none => s

/-- Give a result to DST: pending mark, result tokens or poison, saturation mark (R140, R141, R173). -/
def State.emit (s : State) (n p d : Nat) (toks : List Nat) (satmark : Bool) (flags : Nat) : CellOut :=
  let c := s.cell n
  if isPair d then
    if c.apsn then .done (s.onPlane n p fun v => v.lastKind 4) none
    else .done (s.onPlane n p fun v =>
      let v := ((v.setPair (d - 16) (toks.headD 0)).lastKind 0).flag flags
      if satmark then { v with mark := some ((v.mark.getD 0) ||| 1) } else v) none
  else
    let pend := b2n (c.plane p).mark.isSome
    if c.apsn then
      if s.dstRoom n d (pend + 1) then .done ((s.pushMark n p d).putDst n p d 4 0) none else overflow s d
    else if s.dstRoom n d (pend + toks.length + b2n satmark) then
      let s := toks.foldl (fun s x => s.putDst n p d 0 x) (s.pushMark n p d)
      let s := if satmark then s.putDst n p d 3 1 else s
      .done (s.onPlane n p fun v => v.flag flags) none
    else overflow s d

/-- AOUT. -/
def aoutEval (s : State) (n p w : Nat) : CellOut :=
  let d := dstQ w
  if !(okQ w (isDstQ d) && isDst d && srcaQ w == 24 && decide (fmtQ w ≤ 1) && decide (modQ w < 4)) then badField s
  else
    let c := s.cell n
    let pay := (List.range 4).foldl (fun a j => a + c.accr (4 * modQ w + j) * 2 ^ (32 * j)) 0
    s.emit n p d [pay] false 0

/-! ### ACT (R170 to R173) -/

/-- The shifted products of the 16 outputs. -/
def State.actR (s : State) (n p m : Nat) : List Int :=
  let c := s.cell n
  let x := (c.plane p).xr (m % 16)
  let mul (o : Nat) : Int := if bit m 11 then signed 32 (s.leMem (sramAt n (x + 4 * o)) 4) else signed 32 x
  (List.range 16).map fun o => actShift (signed 32 (c.accr o) * mul o) (fld m 9 4)

/-- The element an index gives: itself, or the table's entry. -/
def Cell.actElem (c : Cell) (fmt : Nat) (lut : Bool) (r : Int) : Nat :=
  if lut then (Sparse.get (fun _ => 0) c.lut (ofSigned 8 r)).toNat % (if fmt < 2 then 256 else 65536)
  else ofSigned (if fmt < 2 then 8 else 16) r

/-- Elements packed into a token. -/
def packElems (w : Nat) : List Nat → Nat
  | [] => 0
  | e :: r => e + packElems w r * 2 ^ w

/-- ACT. -/
def actEval (s : State) (n p w : Nat) : CellOut :=
  let d := dstQ w
  let m := modQ w
  let fmt := fmtQ w
  let lut := bit m 10
  if !(okQ w (isDstQ d) && isDst d && srcaQ w == 24 && decide (fmt ≤ 4) && decide (m < 2 ^ 18) &&
       (lut || decide (fmt < 3)) && (isDstQ d || decide (fmt < 2))) then badField s
  else
    let c := s.cell n
    let x := (c.plane p).xr (m % 16)
    match if bit m 11 then sramBad x 64 else none with
    | some code => .fault s code 0 0 (some x)
    | none =>
      let rs := s.actR n p m
      let (lo, hi, bound) := actRange fmt lut
      let ovf := rs.any fun r => decide (r < lo) || decide (hi < r)
      let under := actUnder rs (fld m 16 12) bound
      let es := rs.map fun r => c.actElem fmt lut (clamp lo hi r)
      let toks := if fmt < 2 then [packElems 8 es] else [packElems 16 (es.take 8), packElems 16 (es.drop 8)]
      s.emit n p d toks (ovf && bit m 17) (b2n ovf * fOVF + b2n under * fUNDER)

/-! ### The commands -/

/-- WAVE. -/
def execWave (t : Tick) (cell : Nat) (s : State) : Result :=
  .next ((s.advanceTo t).runCell cell (fun o => o == 0x60) waveEval)
/-- AADD. -/
def execAadd (t : Tick) (cell : Nat) (s : State) : Result :=
  .next ((s.advanceTo t).runCell cell (fun o => o == 0x61) aaddEval)
/-- AOUT. -/
def execAout (t : Tick) (cell : Nat) (s : State) : Result :=
  .next ((s.advanceTo t).runCell cell (fun o => o == 0x62) aoutEval)
/-- ACT. -/
def execAct (t : Tick) (cell : Nat) (s : State) : Result :=
  .next ((s.advanceTo t).runCell cell (fun o => o == 0x63) actEval)

end Sys2Proof.Machine
end

