-- ==== Sys2Proof/Machine/CellSteer.lean ====
section
/-! DEFINITION. Steering instructions (R107 to R111, R174 to R176), the bounds of waiting instructions (R95), drain
(R117), and the Lattice's own commands. -/

namespace Sys2Proof.Machine

/-! ### Control tokens (R107, R109) -/

def selC (t : Token) : Nat := t.payload.toNat % 16
def passC (t : Token) : Bool := bit t.payload.toNat 4
/-- Tokens governed. -/
def countC (t : Token) : Nat := fld t.payload.toNat 15 8 + 1

/-- Queues of a LIST in ascending order (R175). -/
def listQ (w : Nat) : List Nat := (List.range 8).filter fun q => bit (listT w) q

/-- A steering wait. -/
def steer (s : State) (sel arg : Nat) : CellOut := .wait s sel Code.STEER_TIMEOUT arg

/-- Move the head of an input queue to an output queue; EPOCH is the cell's (R143). -/
def State.moveTok (s : State) (n q out : Nat) : State :=
  match (s.cell n).head q with
  | some t => s.setCell n (((s.cell n).pop q).push (qoIdx out) t.kind (s.clEpoch n) t.payload.toNat)
  | none => s

/-- The token in the control position, by its kind: `out` is the instruction's first output, `short` the queue named when
no token is there. -/
def State.control (s : State) (n cq short out left : Nat) (f : Token → CellOut) : CellOut :=
  match (s.cell n).head cq with
  | none => steer s short left
  | some t =>
    match t.kind with
    | 0 => f t
    | 1 => f t
    | 2 => .done (s.setCell n ((s.cell n).pop cq)) none
    | 3 => if (s.cell n).room (qoIdx out) 1 then .stay (s.moveTok n cq out) else steer s out left
    | 4 => .fault (s.setCell n ((s.cell n).pop cq)) Code.STEER_POISON cq 0 none
    | _ => .fault s Code.TOKEN_KIND cq 0 none

/-- A token that may not stand in a data position. -/
def badData (t : Token) : Bool := t.kind == 1 || decide (5 ≤ t.kind)

/-! ### JOIN -/

/-- The shortest part of a queue that holds `k` tokens other than marks; none when there are fewer. -/
def takeData : Nat → List Token → Option (List Token)
  | 0, _ => some []
  | _ + 1, [] => none
  | k + 1, t :: r => if t.kind = 3 then (takeData (k + 1) r).map (t :: ·) else (takeData k r).map (t :: ·)

/-- The queue a JOIN without a control token names: the lowest-numbered of its empty sources (R95, R132). -/
def State.joinShort (s : State) (n cq dq : Nat) : Nat := if ((s.cell n).queue dq).isEmpty then min cq dq else cq

/-- JOIN (R108, R109, R174, R175). -/
def joinEval (s : State) (n _p w : Nat) : CellOut :=
  let cq := cqT w
  let dq := dqT w
  let oq := oqT w
  if !(okT w && listT w == 0 && cq != dq) then badField s
  else s.control n cq (s.joinShort n cq dq) oq 0 fun t =>
    let k := countC t
    let l := (s.cell n).queue dq
    if 16 < k then .fault s Code.STEER_RANGE cq 0 none
    else
      match l.head? with
      | none => steer s dq k
      | some h =>
        if badData h then .fault s Code.TOKEN_KIND dq 0 none
        else if h.kind = 3 then (if (s.cell n).room (qoIdx oq) 1 then .stay (s.moveTok n dq oq) else steer s oq k)
        else
          match takeData k l with
          | none => if l.any badData then .fault s Code.TOKEN_KIND dq 0 none else steer s dq k
          | some pre =>
            if pre.any badData then .fault s Code.TOKEN_KIND dq 0 none
            else if (s.cell n).room (qoIdx oq) pre.length then
              let s := s.setCell n ((s.cell n).pop cq)
              .done (pre.foldl (fun s _ => s.moveTok n dq oq) s) none
            else steer s oq k

/-! ### ROUTE, GATE and MERGE: one step for each governed token -/

/-- Move governed tokens from `dq` while they can move: to `out`, or nowhere when it is none; marks go to `markOut` and
do not count.  The control token is popped after the last. -/
def State.govern (n p cq dq : Nat) (out : Option Nat) (markOut : Nat) : Nat → State → Bool → CellOut
  | 0, s, _ => .stay s
  | fuel + 1, s, moved =>
    let left := (((s.cell n).plane p).left.getD 0)
    let wait (sel : Nat) : CellOut :=
      steer (if moved then s.onPlane n p fun v => { v with waitFrom := none } else s) sel left
    if left = 0 then .done (s.setCell n ((s.cell n).pop cq)) none
    else
      match (s.cell n).head dq with
      | none => wait dq
      | some t =>
        if badData t then .fault s Code.TOKEN_KIND dq left none
        else if t.kind = 3 then
          if (s.cell n).room (qoIdx markOut) 1 then State.govern n p cq dq out markOut fuel (s.moveTok n dq markOut) true
          else wait markOut
        else
          let next (s : State) : CellOut :=
            State.govern n p cq dq out markOut fuel (s.onPlane n p fun v => { v with left := some (left - 1) }) true
          match out with
          | none => next (s.setCell n ((s.cell n).pop dq))
          | some o => if (s.cell n).room (qoIdx o) 1 then next (s.moveTok n dq o) else wait o

/-- The control token has been read: the instruction starts, or goes on where it stood. -/
def State.startGovern (s : State) (n p : Nat) (t : Token) : State :=
  s.onPlane n p fun v => { v with left := some (v.left.getD (countC t)) }

/-- Governed tokens still to move of a started instruction. -/
def State.leftOf (s : State) (n p : Nat) : Nat := ((s.cell n).plane p).left.getD 0

/-- ROUTE. -/
def routeEval (s : State) (n p w : Nat) : CellOut :=
  let cq := cqT w
  let dq := dqT w
  let outs := listQ w
  if !(okT w && oqT w == 0 && listT w != 0 && cq != dq) then badField s
  else s.control n cq cq (outs.headD 0) (s.leftOf n p) fun t =>
    match outs[selC t]? with
    | none => .fault s Code.STEER_RANGE cq 0 none
    | some o => State.govern n p cq dq (some o) o 320 (s.startGovern n p t) false

/-- GATE. -/
def gateEval (s : State) (n p w : Nat) : CellOut :=
  let cq := cqT w
  let dq := dqT w
  let oq := oqT w
  if !(okT w && listT w == 0 && cq != dq) then badField s
  else s.control n cq cq oq (s.leftOf n p) fun t =>
    State.govern n p cq dq (if passC t then some oq else none) oq 320 (s.startGovern n p t) false

/-- MERGE. -/
def mergeEval (s : State) (n p w : Nat) : CellOut :=
  let cq := cqT w
  let oq := oqT w
  let ins := listQ w
  if !(okT w && dqT w == 0 && listT w != 0 && !bit (listT w) cq) then badField s
  else s.control n cq cq oq (s.leftOf n p) fun t =>
    match ins[selC t]? with
    | none => .fault s Code.STEER_RANGE cq 0 none
    | some q => State.govern n p cq q (some oq) oq 320 (s.startGovern n p t) false

/-! ### FIRST (R111) -/

/-- A timing-dependent choice of a cell (R484). -/
def State.tdc (s : State) (bind : Nat) (k : Nat := 1) : State := (s.inc64 0x50 k).inc64 (0x1000 + 8 * bind) k

/-- FIRST. -/
def firstEval (s : State) (n _p w : Nat) : CellOut :=
  let oq := oqT w
  let ins := listQ w
  if !(okT w && cqT w == 0 && dqT w == 0 && listT w != 0 && s.relaxed n) then badField s
  else
    match ins.find? fun q => !((s.cell n).queue q).isEmpty with
    | none => steer s (ins.headD 0) 0
    | some q =>
      if (((s.cell n).head q).any fun t => decide (5 ≤ t.kind)) then .fault s Code.TOKEN_KIND q 0 none
      else if (s.cell n).room (qoIdx oq) 1 then
        .done (((s.moveTok n q oq).inc (clB n + 0x18)).tdc (s.clBind n)) none
      else steer s oq 0

/-! ### Bounds (R95) -/

/-- The meaning of an instruction that can wait, by opcode. -/
def waitEval (o : Nat) : Option (State → Nat → Nat → Nat → CellOut) :=
  match o with
  | 0x40 => some movEval | 0x41 => some dropEval | 0x42 => some waitqEval | 0x43 => some waittEval
  | 0x50 => some ldsEval | 0x51 => some stsEval | 0x58 => some mldEval | 0x59 => some mstEval
  | 0x60 => some waveEval | 0x61 => some aaddEval | 0x62 => some aoutEval | 0x63 => some actEval
  | 0x70 => some joinEval | 0x71 => some routeEval | 0x72 => some gateEval | 0x73 => some mergeEval
  | 0x74 => some firstEval
  | _ => none

/-- The condition the present instruction of a cell waits for: the queue, the fault and its argument.  A wait that is reached
only after tokens have moved is a later step's: the present step's condition is met (R95, R138). -/
def State.unmet (s : State) (n : Nat) : Option (Nat × Nat × Nat) :=
  let p := (s.cell n).turn
  match waitEval (opF (s.curWord n)) with
  | none => none
  | some f =>
    match f s n p (s.curWord n) with
    | .wait t sel code arg => if (t.cell n).q = (s.cell n).q then some (sel, code, arg) else none
    | _ => none

/-- A wait bound has run out with the condition unmet. -/
def State.boundOut (s : State) (n : Nat) : State :=
  let p := (s.cell n).turn
  let v := (s.cell n).plane p
  let counts := v.step || !s.isPaused (s.clBind n)
  match v.waitFrom, s.unmet n with
  | some b, some (sel, code, arg) =>
    if s.canRun n ∧ counts ∧ b + boundF (s.curWord n) ≤ s.sn ∧ opF (s.curWord n) ≠ 0x43 then s.planeFault n p code sel arg
    else s
  | _, _ => s

/-! ### Drain (R117) -/

/-- The plane that holds a cell waits on an empty input queue. -/
def State.waitsEmpty (s : State) (n : Nat) : Bool :=
  let c := s.cell n
  (c.plane c.turn).st == .waiting &&
    match s.unmet n with
    | some (sel, code, _) =>
      decide (sel < 8) && (c.queue sel).isEmpty &&
        (code == Code.QUEUE_UNDERFLOW || code == Code.STEER_TIMEOUT || (code == Code.WAIT_TIMEOUT && srcaQ (s.curWord n) != 24))
    | none => false

/-- CL_STATUS.DRAINED. -/
def State.drained (s : State) (n : Nat) : Bool :=
  let c := s.cell n
  let stopped := (List.range (s.factor n + 1)).all fun p => let v := c.plane p; v.st == .halted || v.st == .faulted || v.dbg
  (stopped || s.waitsEmpty n) && ((List.range 8).all fun q => (c.queue (qoIdx q)).isEmpty) &&
  (c.place.all fun e => e.2.isNone) && (c.mqq 0).isEmpty && (c.mqq 1).isEmpty && c.outst.all fun o => o.here

/-! ### Memory requests of a cell (R98, R163, R164, R227, R464) -/

/-- Response entries of a pair that are reserved and not yet filled. -/
def Cell.reserved (c : Cell) (mq : Nat) : Nat := (c.outst.filter fun o => o.mq == mq && o.answered && !o.dead).length

/-- A request leaves its mq.  DESIGN CHOICE (log entry 98): EDGE_STOP and a drain do not hold requests; the program's own end
of input is what requests no new responses (R118). -/
def State.mqIssue (s : State) (n mq : Nat) : State :=
  let c := s.cell n
  match c.mqq mq with
  | [] => s
  | e :: r =>
    if s.cellOn n && (!e.answered || decide ((c.queue (8 + mq)).length + c.reserved mq < 32)) then
      let o : OutReq := { mq := mq, id := s.mem.nextId, answered := e.answered, pc := e.pc }
      let s := s.setCell n { c.setMqq mq r with outst := c.outst ++ [o] }
      s.issue { id := 0, issuer := .cell n e.plane mq e.answered, addr := e.addr, write := e.write, len := 16
                data := if e.write then leBytes 16 e.data.toNat else [], bind := s.clBind n, epoch := e.epoch }
    else s

/-- The answer of a request. -/
def State.answerOf (s : State) (o : OutReq) : Option MemAns := s.mem.answers.find? fun a => a.req.id == o.id

/-- The request of a pair that is accounted for next, with its answer: the oldest; a store that asks for no completion
holds up no response behind it (R98). -/
def State.nextAnswer (s : State) (n mq : Nat) : Option (OutReq × MemAns) :=
  match (s.cell n).outst.find? fun o => o.mq == mq && (o.answered || (s.answerOf o).isSome) with
  | none => none
  | some o => (s.answerOf o).map fun a => (o, a)

/-- The fault an answer's code gives the master (R227, R440, R445, R453). -/
def answerFault (code : Nat) : Nat :=
  if code = Code.EPOCH_MISMATCH then Code.STALE_TARGET else if code = Code.UNMAPPED then Code.ADDR_RANGE else code

/-- A response arrives. -/
def State.mpArrive (s : State) (n mq : Nat) : State :=
  match s.nextAnswer n mq with
  | none => s
  | some (o, a) =>
    let c := s.cell n
    let s := s.setCell n { c with outst := c.outst.filter fun x => x.id != o.id }
    let s := { s with mem := { s.mem with answers := s.mem.answers.filter fun x => x.req.id != o.id } }
    if o.dead || a.req.epoch != s.clEpoch n then (if o.answered then s.stale n else s)
    else
      let poison := a.poison || a.code == Code.EPOCH_MISMATCH
      let pay := if poison || a.code != 0 || a.req.write then 0 else ofLe a.data
      let s := if o.answered then s.setCell n ((s.cell n).push (8 + mq) (if poison then 4 else 0) (s.clEpoch n) pay) else s
      if a.code = 0 then s
      else
        match a.req.issuer with
        | .cell _ p _ _ => s.planeFaultAt n p (answerFault a.code) 0 0 (if a.code = Code.ENGINE_ABSENT then none else some a.req.addr) o.pc
        | _ => s

/-! ### The commands -/

/-- LINK_HANDSHAKE (R99, R102, R106). -/
def execLinkHandshake (t : Tick) (link : LinkId) (s : State) : Result :=
  let s := s.advanceTo t
  .next (match link with
    | .out n p => s.handOut n p
    | .westIn r => s.handIn r true
    | .eastIn r => s.handIn r false)

/-- WAIT_BOUND_EXPIRY (R94, R95, R110, R132). -/
def execWaitBoundExpiry (t : Tick) (cell : Nat) (s : State) : Result := .next ((s.advanceTo t).boundOut cell)

/-- POISON_PUSH_DEFERRED (R92). -/
def execPoisonPushDeferred (t : Tick) (cell : Nat) (queue : Nat) (s : State) : Result :=
  let s := s.advanceTo t
  let owes (p : Nat) : Bool := ((s.cell cell).plane p).owed.contains queue
  .next (match (List.range 4).find? owes with
    | some p =>
      if (s.cell cell).room (qoIdx queue) 1 then
        (s.onPlane cell p fun v => { v with owed := v.owed.filter fun q => q != queue }).pushPoison cell p queue
      else s
    | none => s)

/-- MQ_REQUEST_ISSUE (R464). -/
def execMqRequestIssue (t : Tick) (cell : Nat) (mq : Nat) (s : State) : Result := .next ((s.advanceTo t).mqIssue cell mq)

/-- MEMORY_RESPONSE_ARRIVE (R98, R164, R227). -/
def execMemoryResponseArrive (t : Tick) (cell : Nat) (mp : Nat) (s : State) : Result :=
  .next ((s.advanceTo t).mpArrive cell mp)

/-- JOIN. -/
def execJoinI (t : Tick) (cell : Nat) (s : State) : Result :=
  .next ((s.advanceTo t).runCell cell (fun o => o == 0x70) joinEval)
/-- ROUTE. -/
def execRouteTok (t : Tick) (cell : Nat) (s : State) : Result :=
  .next ((s.advanceTo t).runCell cell (fun o => o == 0x71) routeEval)
/-- GATE. -/
def execGateTok (t : Tick) (cell : Nat) (s : State) : Result :=
  .next ((s.advanceTo t).runCell cell (fun o => o == 0x72) gateEval)
/-- MERGE. -/
def execMergeTok (t : Tick) (cell : Nat) (s : State) : Result :=
  .next ((s.advanceTo t).runCell cell (fun o => o == 0x73) mergeEval)
/-- FIRST. -/
def execFirstTok (t : Tick) (cell : Nat) (s : State) : Result :=
  .next ((s.advanceTo t).runCell cell (fun o => o == 0x74) firstEval)

/-- RUN_WRITE (R123, R622). -/
def execRunWrite (t : Tick) (cell : Nat) (run : Bool) (s : State) : Result :=
  let s := s.advanceTo t
  .next (if s.cellOn cell then s.writeRun cell run else s)

/-- EDGE_STOP_WRITE (R118, R123). -/
def execEdgeStopWrite (t : Tick) (cell : Nat) (stop : Bool) (s : State) : Result :=
  let s := s.advanceTo t
  .next (if s.cellOn cell then s.setRb (clB cell) 1 stop else s)

/-- CELL_RESET (R121). -/
def execCellReset (t : Tick) (cell : Nat) (s : State) : Result :=
  let s := s.advanceTo t
  .next (if s.cellOn cell then s.resetCell cell else s)

/-- CL_BIND_WRITE (R119, R125). -/
def execClBindWrite (t : Tick) (cell : Nat) (value : Word) (s : State) : Result :=
  let s := s.advanceTo t
  let r := s.written (clB cell + 8) value.toNat
  .next (if s.cellOn cell then r.1.writeClBind cell r.2 else s)

/-- CL_IND_DATA_WRITE (R104, R105, R116, R129). -/
def execClIndDataWrite (t : Tick) (cell : Nat) (data : DWord) (s : State) : Result :=
  let s := s.advanceTo t
  .next (if s.cellOn cell then s.indWrite cell data.toNat else s)

/-! ### Drain of a binding (R118, R513) -/

/-- RV_DRAIN_BOUND in ticks. -/
def State.drainBound (s : State) : Nat := s.rf 0x30008 15 0 * tus

/-- Cells of a binding on this chip. -/
def State.bindCells (s : State) (b : Nat) : List Nat := (List.range 6400).filter fun n => s.clBind n == b

/-- RV_LDRAIN.GO: BUSY reads 1 and the bound starts; ignored while BUSY. -/
def State.ldrainStart (s : State) (b : Nat) : State :=
  if s.rb 0x30038 9 then s
  else
    let s := ((s.setRf 0x30038 7 0 b).setRb 0x30038 9 true)
    { s with rv := { s.rv with drainFrom := s.clk.now } }

/-- LDRAIN_GO (R513). -/
def execLdrainGo (t : Tick) (bind : Nat) (s : State) : Result := .next ((s.advanceTo t).ldrainStart bind)

/-- LDRAIN_DONE (R513): every cell of the binding shows DRAINED. -/
def execLdrainDone (t : Tick) (s : State) : Result :=
  let s := s.advanceTo t
  let b := s.rf 0x30038 7 0
  .next (if s.rb 0x30038 9 ∧ s.clk.now ≤ s.rv.drainFrom + s.drainBound ∧ (s.bindCells b).all s.drained then s.setRb 0x30038 9 false
    else s)

/-- LDRAIN_BOUND_EXPIRY (R513): RUN is cleared, undrained cells are reset, and the failure is recorded. -/
def execLdrainBoundExpiry (t : Tick) (s : State) : Result :=
  let s := s.advanceTo t
  let b := s.rf 0x30038 7 0
  let cells := s.bindCells b
  let bad := cells.filter fun n => !s.drained n
  .next (if s.rb 0x30038 9 ∧ s.rv.drainFrom + s.drainBound ≤ s.clk.now ∧ ¬ bad.isEmpty then
      let s := cells.foldl (fun s n => s.writeRun n false) s
      let s := bad.foldl State.resetCell s
      (((s.setRf 0x30038 31 16 bad.length).setRb 0x30038 10 true).setRb 0x30038 9 false).event Code.LATTICE_DRAIN_FAIL b
    else s)

end Sys2Proof.Machine
end

