-- ==== Sys2Proof/Machine/Slh.lean ====
section
/-! DEFINITION. SHAKE256 as FIPS 202 gives it, and SLH-DSA-SHAKE-256s and -256f as FIPS 205 gives them: verification, the
deterministic signature and the public key (R295, R563, R565). -/

namespace Sys2Proof.Machine

/-! ### The permutation: 25 lanes, lane (x, y) at 5y + x -/

/-- A lane; coordinates count modulo 5. -/
def kLane (a : List Nat) (x y : Nat) : Nat := a.getD (y % 5 * 5 + x % 5) 0

/-- The lanes a function of the coordinates gives. -/
def kLanes (f : Nat → Nat → Nat) : List Nat := (List.range 25).map fun i => f (i % 5) (i / 5)

/-- A lane turned left. -/
def turn64 (n v : Nat) : Nat := v * 2 ^ (n % 64) % 2 ^ 64 + v / 2 ^ (64 - n % 64)

/-- θ. -/
def kTheta (a : List Nat) : List Nat :=
  let par := (List.range 5).map fun x => (List.range 5).foldl (fun v y => Nat.xor v (kLane a x y)) 0
  kLanes fun x y => Nat.xor (kLane a x y) (Nat.xor (kLane par (x + 4) 0) (turn64 1 (kLane par (x + 1) 0)))

/-- ρ turns the lanes on a walk from (1, 0): the step after (x, y) is (y, 2x + 3y), and lane t of the walk turns by the
triangular number t(t + 1) ÷ 2. -/
def kRho : Nat → Nat → Nat → Nat → List Nat → List Nat
  | 0, _, _, _, a => a
  | n + 1, t, x, y, a =>
    kRho n (t + 1) y ((2 * x + 3 * y) % 5) (a.set (y * 5 + x) (turn64 (t * (t + 1) / 2) (kLane a x y)))

/-- π. -/
def kPi (a : List Nat) : List Nat := kLanes fun x y => kLane a (x + 3 * y) x

/-- χ. -/
def kChi (a : List Nat) : List Nat :=
  kLanes fun x y => Nat.xor (kLane a x y) (Nat.land (2 ^ 64 - 1 - kLane a (x + 1) y) (kLane a (x + 2) y))

/-- One clock of the register behind the round constants. -/
def kClock (r : Nat) : Nat := if 128 ≤ r then Nat.xor (2 * r) 0x171 else 2 * r

/-- The constant of a round whose register stands at `r`, and the register after it: bit 2^j − 1 for j from 0 to 6. -/
def kConst : Nat → Nat → Nat → Nat × Nat
  | 0, _, r => (0, r)
  | n + 1, j, r =>
    let u := kConst n (j + 1) (kClock r)
    (r % 2 * 2 ^ (2 ^ j - 1) + u.1, u.2)

/-- Rounds from a register on. -/
def kRounds : Nat → Nat → List Nat → List Nat
  | 0, _, a => a
  | n + 1, r, a =>
    let c := kConst 7 0 r
    let b := kChi (kPi (kRho 24 1 1 0 (kTheta a)))
    kRounds n c.2 (b.set 0 (Nat.xor (kLane b 0 0) c.1))

/-- KECCAK-f[1600]. -/
def keccak (a : List Nat) : List Nat := kRounds 24 1 a

/-! ### SHAKE256 -/

/-- Bytes of a block. -/
abbrev shakeRate : Nat := 136

/-- Blocks taken in, after the bytes `n` of the message that are left: the last one carries the suffix and the padding. -/
def soak : Nat → List Nat → List Byte → List Nat
  | 0, a, _ => a
  | f + 1, a, l =>
    let last := decide (l.length < shakeRate)
    let block := ofLe (l.take shakeRate) + (if last then 0x1F * 256 ^ l.length + 0x80 * 256 ^ (shakeRate - 1) else 0)
    let b := keccak ((List.range 25).map fun i => Nat.xor (kLane a i (i / 5)) (if i < 17 then block / 2 ^ (64 * i) % 2 ^ 64 else 0))
    if last then b else soak f b (l.drop shakeRate)

/-- Blocks given out. -/
def wring : Nat → List Nat → List Byte
  | 0, _ => []
  | f + 1, a => (a.take 17).flatMap (leBytes 8) ++ wring f (keccak a)

/-- `n` bytes of SHAKE256 of a message. -/
def shake256 (l : List Byte) (n : Nat) : List Byte :=
  (wring ((n + 135) / 136) (soak (l.length / 136 + 1) (List.replicate 25 0) l)).take n

/-! ### SLH-DSA: parameters and addresses -/

/-- A parameter set; n is 32 and w is 16 in both. -/
structure SlhSet where
  /-- Layers, and the height of a tree. -/
  d : Nat
  hp : Nat
  /-- Height and number of the FORS trees. -/
  a : Nat
  k : Nat
  deriving DecidableEq, Repr

/-- SLH-DSA-SHAKE-256s. -/
def slhS : SlhSet := { d := 8, hp := 8, a := 14, k := 22 }
/-- SLH-DSA-SHAKE-256f. -/
def slhF : SlhSet := { d := 17, hp := 4, a := 9, k := 35 }

/-- Chains of a one-time signature: 64 digits of a message and 3 of their checksum. -/
abbrev slhChains : Nat := 67

/-- Bytes of a signature. -/
def SlhSet.sigLen (p : SlhSet) : Nat := 32 * (1 + p.k * (1 + p.a) + p.d * p.hp + p.d * slhChains)

/-- A hash address. -/
structure Adrs where
  layer : Nat := 0
  tree : Nat := 0
  kind : Nat := 0
  /-- The three words whose use depends on `kind`. -/
  w1 : Nat := 0
  w2 : Nat := 0
  w3 : Nat := 0
  deriving DecidableEq, Repr

/-- `n` big-endian bytes of a number. -/
def beOf (n v : Nat) : List Byte := (leBytes n v).reverse

/-- The 32 bytes of an address. -/
def Adrs.bytes (r : Adrs) : List Byte := beOf 4 r.layer ++ beOf 12 r.tree ++ beOf 4 r.kind ++ beOf 4 r.w1 ++ beOf 4 r.w2 ++ beOf 4 r.w3

/-- The address at the same tree, of another kind. -/
def Adrs.as (r : Adrs) (kind : Nat) (w1 : Nat := 0) (w2 : Nat := 0) (w3 : Nat := 0) : Adrs :=
  { layer := r.layer, tree := r.tree, kind := kind, w1 := w1, w2 := w2, w3 := w3 }

/-- The keys: the public seed, and the secret seed where there is one. -/
structure SlhKey where
  pub : List Byte
  sec : List Byte := []
  deriving DecidableEq, Repr

/-- F, H, T and PRF: 32 bytes of the public seed, an address and a message. -/
def SlhKey.hash (key : SlhKey) (r : Adrs) (m : List Byte) : List Byte := shake256 (key.pub ++ r.bytes ++ m) 32

/-- The secret value of an address. -/
def SlhKey.secret (key : SlhKey) (r : Adrs) : List Byte := key.hash r key.sec

/-- 32-byte piece `i`. -/
def piece (l : List Byte) (i : Nat) : List Byte := (l.drop (32 * i)).take 32

/-- The first `n` digits of `b` bits each, most significant first. -/
def digits (l : List Byte) (b n : Nat) : List Nat := (List.range n).map fun i => ofBe l / 2 ^ (8 * l.length - b * (i + 1)) % 2 ^ b

/-! ### One-time signatures -/

/-- `n` steps of a chain from step `i` on. -/
def SlhKey.chain (key : SlhKey) (r : Adrs) : Nat → Nat → List Byte → List Byte
  | 0, _, x => x
  | n + 1, i, x => key.chain r n (i + 1) (key.hash { r with w3 := i } x)

/-- The digits that a one-time signature of 32 bytes opens: its own, and those of their checksum. -/
def slhDigits (m : List Byte) : List Nat :=
  let l := digits m 4 64
  let c := (l.map (15 - ·)).sum
  l ++ [c / 256 % 16, c / 16 % 16, c % 16]

/-- The chain ends of a key pair, compressed. -/
def SlhKey.otEnds (key : SlhKey) (r : Adrs) (pair : Nat) (ends : List (List Byte)) : List Byte := key.hash (r.as 1 pair) ends.flatten

/-- The one-time public key of a key pair. -/
def SlhKey.otKey (key : SlhKey) (r : Adrs) (pair : Nat) : List Byte :=
  key.otEnds r pair ((List.range slhChains).map fun i => key.chain (r.as 0 pair i) 15 0 (key.secret (r.as 5 pair i)))

/-- A one-time signature. -/
def SlhKey.otSign (key : SlhKey) (r : Adrs) (pair : Nat) (m : List Byte) : List Byte :=
  ((slhDigits m).zipIdx.map fun x => key.chain (r.as 0 pair x.2) x.1 0 (key.secret (r.as 5 pair x.2))).flatten

/-- The public key that a one-time signature leads to. -/
def SlhKey.otFrom (key : SlhKey) (r : Adrs) (pair : Nat) (sig m : List Byte) : List Byte :=
  key.otEnds r pair ((slhDigits m).zipIdx.map fun x => key.chain (r.as 0 pair x.2) (15 - x.1) x.1 (piece sig x.2))

/-! ### Trees -/

/-- Node `i` at height `z` over leaves; `r` addresses the inner nodes. -/
def SlhKey.node (key : SlhKey) (r : Adrs) (leaf : Nat → List Byte) : Nat → Nat → List Byte
  | 0, i => leaf i
  | z + 1, i => key.hash { r with w2 := z + 1, w3 := i } (key.node r leaf z (2 * i) ++ key.node r leaf z (2 * i + 1))

/-- The siblings on the way up from leaf `i`. -/
def SlhKey.path (key : SlhKey) (r : Adrs) (leaf : Nat → List Byte) (h i : Nat) : List Byte :=
  (List.range h).flatMap fun j => key.node r leaf j (Nat.xor (i / 2 ^ j) 1)

/-- The root that a leaf and its path lead to. -/
def SlhKey.climb (key : SlhKey) (r : Adrs) (h i : Nat) (leaf path : List Byte) : List Byte :=
  (List.range h).foldl (fun x j =>
    let y := piece path j
    key.hash { r with w2 := j + 1, w3 := i / 2 ^ (j + 1) } (if i / 2 ^ j % 2 = 0 then x ++ y else y ++ x)) leaf

/-- The address of the tree of a layer. -/
def treeAt (layer tree : Nat) : Adrs := { layer := layer, tree := tree }

/-- Sign the root below with each layer in turn, from a layer on. -/
def SlhKey.hyperSign (key : SlhKey) (p : SlhSet) : Nat → Nat → Nat → Nat → List Byte → List Byte
  | 0, _, _, _, _ => []
  | n + 1, layer, tree, leaf, m =>
    let r := treeAt layer tree
    let top := key.node (r.as 2) (key.otKey r) p.hp 0
    key.otSign r leaf m ++ key.path (r.as 2) (key.otKey r) p.hp leaf ++
      key.hyperSign p n (layer + 1) (tree / 2 ^ p.hp) (tree % 2 ^ p.hp) top

/-- The root that the layers of a signature lead to. -/
def SlhKey.hyperFrom (key : SlhKey) (p : SlhSet) : Nat → Nat → Nat → Nat → List Byte → List Byte → List Byte
  | 0, _, _, _, _, m => m
  | n + 1, layer, tree, leaf, sig, m =>
    let r := treeAt layer tree
    let x := key.climb (r.as 2) p.hp leaf (key.otFrom r leaf sig m) (sig.drop (32 * slhChains))
    key.hyperFrom p n (layer + 1) (tree / 2 ^ p.hp) (tree % 2 ^ p.hp) (sig.drop (32 * (slhChains + p.hp))) x

/-! ### Few-time signatures -/

/-- A FORS leaf; `r` addresses the trees of a key pair. -/
def SlhKey.forsLeaf (key : SlhKey) (r : Adrs) (i : Nat) : List Byte := key.hash { r with w3 := i } (key.secret (r.as 6 r.w1 0 i))

/-- Sign the digits of a digest, one tree each. -/
def SlhKey.forsSign (key : SlhKey) (p : SlhSet) (r : Adrs) (ds : List Nat) : List Byte :=
  ds.zipIdx.flatMap fun x =>
    let i := x.2 * 2 ^ p.a + x.1
    key.secret (r.as 6 r.w1 0 i) ++ key.path r (key.forsLeaf r) p.a i

/-- The FORS public key that a signature leads to. -/
def SlhKey.forsFrom (key : SlhKey) (p : SlhSet) (r : Adrs) (ds : List Nat) (sig : List Byte) : List Byte :=
  key.hash (r.as 4 r.w1) (ds.zipIdx.flatMap fun x =>
    let i := x.2 * 2 ^ p.a + x.1
    let s := sig.drop (32 * (1 + p.a) * x.2)
    key.climb r p.a i (key.hash { r with w3 := i } (s.take 32)) (s.drop 32))

/-! ### Signatures -/

/-- What a digest selects: the FORS digits, the tree and the leaf of the lowest layer. -/
def SlhSet.select (p : SlhSet) (l : List Byte) : List Nat × Nat × Nat :=
  let c (b : Nat) : Nat := (b + 7) / 8
  let n1 := c (p.k * p.a)
  let h := p.hp * (p.d - 1)
  let n2 := c h
  (digits (l.take n1) p.a p.k, ofBe ((l.drop n1).take n2) % 2 ^ h, ofBe ((l.drop (n1 + n2)).take (c p.hp)) % 2 ^ p.hp)

/-- The digest of a randomised message under a public key of 64 bytes: its bytes are those of `select`. -/
def SlhSet.digest (p : SlhSet) (rnd pk m : List Byte) : List Nat × Nat × Nat :=
  let c (b : Nat) : Nat := (b + 7) / 8
  p.select (shake256 (rnd ++ pk ++ m) (c (p.k * p.a) + c (p.hp * (p.d - 1)) + c p.hp))

/-- The message of the pure variant, with its context string. -/
def slhPure (ctx m : List Byte) : List Byte := beOf 1 0 ++ beOf 1 ctx.length ++ ctx ++ m

/-- A signature of a message verifies (FIPS 205, pure). -/
def slhVerify (p : SlhSet) (pk m sig ctx : List Byte) : Bool :=
  if pk.length ≠ 64 ∨ sig.length ≠ p.sigLen ∨ 255 < ctx.length then false
  else
    let key : SlhKey := { pub := pk.take 32 }
    let g := p.digest (sig.take 32) pk (slhPure ctx m)
    let r : Adrs := { tree := g.2.1, kind := 3, w1 := g.2.2 }
    let x := key.forsFrom p r g.1 (sig.drop 32)
    key.hyperFrom p p.d 0 g.2.1 g.2.2 (sig.drop (32 * (1 + p.k * (1 + p.a)))) x == pk.drop 32

/-- The public key of a secret seed and a public seed. -/
def slhPublic (p : SlhSet) (key : SlhKey) : List Byte :=
  let r := treeAt (p.d - 1) 0
  key.pub ++ key.node (r.as 2) (key.otKey r) p.hp 0

/-- The deterministic signature of a message (FIPS 205, pure). -/
def slhSign (p : SlhSet) (key : SlhKey) (prf m ctx : List Byte) : List Byte :=
  let msg := slhPure ctx m
  let rnd := shake256 (prf ++ key.pub ++ msg) 32
  let g := p.digest rnd (slhPublic p key) msg
  let r : Adrs := { tree := g.2.1, kind := 3, w1 := g.2.2 }
  let f := key.forsSign p r g.1
  rnd ++ f ++ key.hyperSign p p.d 0 g.2.1 g.2.2 (key.forsFrom p r g.1 f)

/-! ### The device identity (R563) -/

/-- The key pair derived from the identity seed: 32 bytes each of the secret seed, the seed of the randomiser and the public
seed, which no address maps (log entry 3). -/
def idKey : SlhKey := { sec := (List.range 32).map Config.idSeed, pub := (List.range 32).map fun i => Config.idSeed (64 + i) }

/-- The identity public key. -/
def idPublicKey : List Byte := slhPublic slhF idKey

/-- A signature by the identity key. -/
def idSign (m ctx : List Byte) : List Byte := slhSign slhF idKey ((List.range 32).map fun i => Config.idSeed (32 + i)) m ctx

end Sys2Proof.Machine
end

