-- ==== Sys2Proof/Machine/Crc.lean ====
section
/-! DEFINITION. Cyclic redundancy checks and one's-complement sums over bytes. -/

namespace Sys2Proof.Machine

/-- One bit step of a reflected CRC. -/
def crcBitR (poly c : Nat) : Nat := if c % 2 = 1 then Nat.xor (c / 2) poly else c / 2

/-- `n` bit steps of a reflected CRC. -/
def crcBitsR (poly : Nat) : Nat → Nat → Nat
  | 0, c => c
  | n + 1, c => crcBitsR poly n (crcBitR poly c)

/-- A reflected CRC register after bytes. -/
def crcR (poly : Nat) (init : Nat) (l : List Byte) : Nat :=
  l.foldl (fun c b => crcBitsR poly 8 (Nat.xor c b.toNat)) init

/-- `n` bit steps of an MSB-first CRC of width `w`. -/
def crcBitsM (w poly : Nat) : Nat → Nat → Nat
  | 0, c => c
  | n + 1, c => crcBitsM w poly n (if bit c (w - 1) then Nat.xor (c * 2 % 2 ^ w) poly else c * 2 % 2 ^ w)

/-- An MSB-first CRC register of width `w` (at least 8) after bytes. -/
def crcM (w poly init : Nat) (l : List Byte) : Nat :=
  l.foldl (fun c b => crcBitsM w poly 8 (Nat.xor c (b.toNat * 2 ^ (w - 8)))) init

/-- The CRC-32 of IEEE 802.3, which the FCS holds. -/
def crc32 (l : List Byte) : Nat := Nat.xor (crcR 0xEDB88320 0xFFFFFFFF l) 0xFFFFFFFF

/-- The sum of big-endian 16-bit words, an odd last byte padded with 0, before the carries are folded in. -/
def sumBe16 : List Byte → Nat
  | [] => 0
  | [a] => a.toNat * 256
  | a :: b :: r => a.toNat * 256 + b.toNat + sumBe16 r

/-- Fold the carries of a one's-complement sum. -/
def foldCarry (v : Nat) : Nat :=
  let a := v % 65536 + v / 65536
  let b := a % 65536 + a / 65536
  b % 65536 + b / 65536

/-- The Internet checksum of bytes: the complement of their one's-complement sum. -/
def ipSum (l : List Byte) : Nat := 65535 - foldCarry (sumBe16 l)

end Sys2Proof.Machine
end

