-- ==== Sys2Proof/Machine/Mac.lean ====
section
/-! DEFINITION. What the Ethernet MAC does to a frame's bytes: header location, checksums, padding and FCS
(R394 to R397). -/

namespace Sys2Proof.Machine

/-- The big-endian 16-bit number at an offset. -/
def be16 (l : List Byte) (o : Nat) : Nat := byteAt l o * 256 + byteAt l (o + 1)

/-- Where the headers of a frame lie (R395). -/
structure Hdrs where
  /-- Offset of the IP header; 0 = none found. -/
  ip : Nat := 0
  v6 : Bool := false
  /-- Offset of the final destination that a Routing header with segments left holds. -/
  final : Option Nat := none
  /-- The frame is beyond the limits of R395. -/
  beyond : Bool := false
  /-- Offset, protocol and length of the upper layer; none = not located. -/
  l4 : Option (Nat × Nat × Nat) := none
  deriving DecidableEq, Repr

/-- The offset behind up to two VLAN tags: of the EtherType. -/
def vlanEnd (l : List Byte) : Nat :=
  let tag (o : Nat) : Bool := be16 l o == 0x8100 || be16 l o == 0x88A8
  if tag 12 then (if tag 16 then 20 else 16) else 12

/-- The IPv6 chain: next header, offset, extension headers left, final destination of a Routing header with segments left: its
last address (RFC 8200). -/
def v6chain (l : List Byte) : Nat → Nat → Nat → Option Nat → Option (Nat × Nat × Option Nat)
  | left, nh, o, fin =>
    if nh = 0 ∨ nh = 43 ∨ nh = 60 then
      match left with
      | 0 => none
      | left' + 1 =>
        let next := o + 8 + 8 * byteAt l (o + 1)
        v6chain l left' (byteAt l o) next (if nh = 43 ∧ byteAt l (o + 3) ≠ 0 then some (next - 16) else fin)
    else if nh = 44 ∨ nh = 50 ∨ nh = 51 then none
    else some (nh, o, fin)

/-- Locate the IP and upper-layer headers of a frame without its FCS. -/
def headers (l : List Byte) : Hdrs :=
  let e := vlanEnd l
  let ip := e + 2
  let type := be16 l e
  if type = 0x8100 ∨ type = 0x88A8 then { beyond := true }
  else if type = 0x0800 ∧ byteAt l ip / 16 = 4 then
    let ihl := 4 * (byteAt l ip % 16)
    let frag := be16 l (ip + 6) % 0x4000 != 0
    let tot := be16 l (ip + 2)
    if ihl < 20 then { beyond := true }
    else if frag then { ip := ip, beyond := true }
    else { ip := ip, l4 := some (ip + ihl, byteAt l (ip + 9), tot - ihl) }
  else if type = 0x86DD ∧ byteAt l ip / 16 = 6 then
    match v6chain l 3 (byteAt l (ip + 6)) (ip + 40) none with
    | some (nh, o, fin) =>
      if o < 256 then { ip := ip, v6 := true, final := fin, l4 := some (o, nh, be16 l (ip + 4) - (o - (ip + 40))) }
      else { ip := ip, v6 := true, beyond := true }
    | none => { ip := ip, v6 := true, beyond := true }
  else {}

/-- Replace bytes of a list from an offset on. -/
def patchAt (l : List Byte) (o : Nat) (x : List Byte) : List Byte :=
  let m := x.take (l.length - o)
  l.take o ++ m ++ l.drop (o + m.length)

/-- A 16-bit number as two big-endian bytes. -/
def beBytes2 (v : Nat) : List Byte := [BitVec.ofNat 8 (v / 256), BitVec.ofNat 8 v]

/-- Where an upper-layer protocol holds its checksum: UDP, TCP, ICMP, ICMPv6. -/
def csumField (proto : Nat) (v6 : Bool) : Option Nat :=
  if proto = 17 then some 6 else if proto = 6 then some 16
  else if proto = 1 ∧ ¬ v6 then some 2 else if proto = 58 ∧ v6 then some 2 else none

/-- The pseudo-header of an upper-layer checksum; ICMP over IPv4 has none.  A sender puts the final destination of a Routing
header into it (`fin`), a receiver the destination of the IPv6 header. -/
def pseudo (l : List Byte) (h : Hdrs) (fin : Option Nat) (proto len : Nat) : List Byte :=
  if h.v6 then
    (l.drop (h.ip + 8)).take 16 ++ (l.drop (fin.getD (h.ip + 24))).take 16 ++ [0, 0] ++ beBytes2 len ++ [0, 0, 0, BitVec.ofNat 8 proto]
  else if proto = 1 then []
  else (l.drop (h.ip + 12)).take 8 ++ [0, BitVec.ofNat 8 proto] ++ beBytes2 len

/-- The upper-layer checksum of a frame whose checksum field counts as `x`. -/
def l4Sum (l : List Byte) (h : Hdrs) (fin : Option Nat) (o proto len : Nat) : Nat :=
  ipSum (pseudo l h fin proto len ++ (l.drop o).take len)

/-- Insert the IPv4 header checksum (R396). -/
def insertIp4 (l : List Byte) : List Byte :=
  let h := headers l
  if h.ip = 0 ∨ h.v6 then l
  else
    let z := patchAt l (h.ip + 10) [0, 0]
    patchAt z (h.ip + 10) (beBytes2 (ipSum ((z.drop h.ip).take (4 * (byteAt l h.ip % 16)))))

/-- Insert the upper-layer checksum (R396), where R395 lets it be located. -/
def insertL4 (l : List Byte) : List Byte :=
  let h := headers l
  match h.l4 with
  | none => l
  | some (o, proto, len) =>
    match csumField proto h.v6 with
    | none => l
    | some f =>
      let z := patchAt l (o + f) [0, 0]
      let c := l4Sum z h h.final o proto len
      patchAt z (o + f) (beBytes2 (if proto = 17 ∧ c = 0 then 65535 else c))

/-- The IP4 and L4 results of a received frame without its FCS: 0 = not checked; 1 = good; 2 = bad (R397). -/
def checkCsum (l : List Byte) : Nat × Nat :=
  let h := headers l
  let ip4 := if h.ip = 0 ∨ h.v6 then 0
    else if ipSum ((l.drop h.ip).take (4 * (byteAt l h.ip % 16))) = 0 then 1 else 2
  let l4 := match h.l4 with
    | none => 0
    | some (o, proto, len) =>
      match csumField proto h.v6 with
      | none => 0
      | some f =>
        if proto = 17 ∧ be16 l (o + f) = 0 then (if h.v6 then 2 else 0)
        else if l4Sum l h none o proto len = 0 then 1 else 2
  (ip4, l4)

/-- A frame as the transmit MAC puts it on the line: checksums inserted, padded to 64 bytes before its FCS, which is appended
unless it is there (R394, R396).  DESIGN CHOICE: an FCS that is there stands behind the padding as it is (log entry 110). -/
def macFrame (l : List Byte) (fcs ip4 l4 : Bool) : List Byte :=
  let l := if ip4 then insertIp4 l else l
  let l := if l4 then insertL4 l else l
  if fcs then l.take (l.length - 4) ++ List.replicate (64 - l.length) 0 ++ l.drop (l.length - 4)
  else
    let p := l ++ List.replicate (60 - l.length) 0
    p ++ leBytes 4 (crc32 p)

/-- The FCS of a received frame is right. -/
def fcsGood (l : List Byte) : Bool :=
  let n := l.length - 4
  leAt l n 4 == crc32 (l.take n)

/-- The priority of a frame: the PCP of its outermost VLAN tag, else a default (R386). -/
def framePrio (l : List Byte) (dflt : Nat) : Nat :=
  if be16 l 12 = 0x8100 ∨ be16 l 12 = 0x88A8 then byteAt l 14 / 32 else dflt

end Sys2Proof.Machine
end

