-- ==== Sys2Proof/Machine/Launch.lean ====
section
/-! DEFINITION. Egress holding stages: entry, release, departure, lateness (R21 to R23, R56 to R63, R389 to R394). -/

namespace Sys2Proof.Machine

/-! ### Edges -/

/-- The Nenath port a message to a chip leaves by when this chip sends it: table 20 (R444); none = no route. -/
def State.ownPort (s : State) (chip : Nat) : Option Nat :=
  let e := s.reg (0x550000 + 20 * 0x4000 + 4 * (chip % 4096))
  if bit e 6 ∧ fld e 4 0 < 20 then some (fld e 4 0) else none

/-- The EDGE of R80 of a holding stage: the stages of the trigger streams take the edge their destination uses.  DESIGN
CHOICE: with no port that leads to a stream's peer its edge is that of NP0 (log entry 96). -/
def State.edgeOf (s : State) (k : Nat) : Nat :=
  if k < 40 then k
  else
    let st := s.strm (k - 40)
    if st.kind = 0 then 28 else if s.isLocal st.base then 29 else 8 + (s.ownPort (st.base / 2 ^ 48)).getD 0

/-- Guaranteed egress latency of an edge in ticks (R57). -/
def egress (e : Nat) : Nat :=
  if e < 8 then 28 * grain else if e < 28 then 48 * grain else if e = 28 then 80 * grain
  else if e = 29 then 60 * grain else 5 * grain

/-- Capacity of a holding stage (R58).  The table gives none for 1PPS out, which holds one pulse. -/
def stageCap (k : Nat) : Nat :=
  if k < 28 then 64 else if k = 28 then 256 else if 40 ≤ k then 512 else if 30 ≤ k ∧ k ≤ 37 then 16 else 512

/-- The rate code in force at a port (R405), and its byte time in 1/25 ticks (R389). -/
def State.epRate (s : State) (n : Nat) : Nat := s.rf (emB n + 4) 7 5
def byteTime (rate : Nat) : Nat :=
  if rate = 0 then 131072 else if rate = 1 then 65536 else if rate = 2 then 32768 else if rate = 3 then 16384 else 8192

/-- GT/s of HI_STATUS.SPEED, times two (R547). -/
def pcieGt (speed : Nat) : Nat := if speed = 0 then 5 else if speed = 1 then 10 else 2 ^ (speed + 2)

/-- Time in 1/25 ticks that a byte uses PCIe: 256 GB/s at 128 GT/s and 16 lanes (R37), in proportion below. -/
def State.pcieByte (s : State) : Nat :=
  let w := s.rf 0x80000 8 4
  if w = 0 then 25 * 256 else 25 * 256 * 256 * 16 / (pcieGt (s.rf 0x80000 3 1) * w)

/-- Bytes of a body on its edge. -/
def Body.len : Body → Nat
  | .frame l _ _ _ => l.length
  | .records l => (l.map List.length).sum
  | .store _ l => l.length
  | _ => 0

/-- How long a departure uses its edge after its departure instant, in 1/25 ticks: R389 on an Ethernet port; the bytes
on PCIe and Nenath; one launch grain elsewhere (log entry 7). -/
def State.useTime (s : State) (e : Nat) (b : Body) : Nat :=
  if e < 8 then (b.len + 12) * byteTime (s.epRate e)
  else if e < 28 then b.len * 4096
  else if e = 28 then b.len * s.pcieByte
  else 25 * grain

/-- How long before its departure instant a departure uses its edge: preamble and SFD on an Ethernet port (R389). -/
def State.leadTime (s : State) (e : Nat) : Nat := if e < 8 then 8 * byteTime (s.epRate e) else 0

/-- The first multiple of the launch grain at or after an instant in 1/25 ticks. -/
def grainAt (v : Nat) : Nat := (v + 25 * grain - 1) / (25 * grain) * grain

/-- Preemption is active at a port (R391). -/
def State.preempts (s : State) (n : Nat) : Bool :=
  (s.rb (emB n + 0x10) 0 && s.rf (emB n + 0x10) 26 24 == 2) || s.rb (emB n + 0x10) 1

/-- A MAC control frame. -/
def Held.isCtl (h : Held) : Bool := h.ctl || match h.body with | .frame l _ _ _ => be16 l 12 == 0x8808 | _ => false

/-- An untimed frame is express under R391. -/
def State.isExpress (s : State) (e : Nat) (h : Held) : Bool :=
  match h.body with
  | .frame _ _ _ _ => h.isCtl || s.rb (emB e + 0x10) (8 + h.prio)
  | _ => true

/-- A frame that yields to launched frames (R391). -/
def State.preemptable (s : State) (e : Nat) (h : Held) : Bool :=
  decide (e < 8) && h.launch.isNone && s.preempts e && !s.isExpress e h

/-- Saffron instant until which a pause stops new frames like this one (R392); MAC control frames know no pause. -/
def State.pauseEnd (s : State) (n : Nat) (h : Held) : Nat :=
  if h.isCtl then 0 else Sparse.get (fun _ => 0) (s.ep n).pause h.prio

/-- The earliest departure instant of a result on its edge, not before `d`, in ticks: the first grain at which the edge
is free of every earlier departure, no pause stops it at its release (R392) and the transmitter is awake (R398). -/
def State.edgeReady (s : State) (e : Nat) (h : Held) (d : Nat) : Nat :=
  let st := s.stage e
  let d := max d (grainAt (st.busy + s.leadTime e))
  if e < 8 then
    let d := if s.pauseEnd e h + egress e ≤ d then d else roundUp (s.pauseEnd e h) grain + egress e
    let wake := (s.ep e).wakeAt
    if wake * 25 + s.leadTime e ≤ 25 * d then d else grainAt (wake * 25 + s.leadTime e)
  else d

/-- The occupancy of the edge by a departure at `d`, in 1/25 ticks (R389). -/
def State.occupancy (s : State) (e : Nat) (b : Body) (d : Nat) : Nat × Nat := (25 * d - s.leadTime e, 25 * d + s.useTime e b)

/-! ### Preemption (R391) -/

/-- The end of the occupancy of a preemptable frame's present part. -/
def State.fragEnd (s : State) (e : Nat) (f : Frag) : Nat := f.at_ + (f.left + 12) * byteTime (s.epRate e)

/-- The bytes of a preemptable frame that are sent when it is cut at the latest point before an occupancy that begins at `a`:
with its mCRC the part keeps at least 64 × (1 + ADD_FRAG) bytes, and at least 64 are left (IEEE 802.3br; log entry 8). -/
def State.cutPoint (s : State) (e : Nat) (f : Frag) (a : Nat) : Option Nat :=
  let n := min ((a - f.at_) / byteTime (s.epRate e) - 16) (f.left - 64)
  if 64 * (1 + s.rf (emB e + 0x10) 3 2) ≤ n + 4 then some n else none

/-- What an occupancy by a launched frame leaves of the preemptable frame on the line: it is cut, or its rest, where it has not
begun when the launched frame enters, goes behind it.  None: the launched frame must wait for its end. -/
def State.yields (s : State) (e : Nat) (h : Held) (use : Nat × Nat) : Option (Option Frag) :=
  match (s.stage e).frag with
  | none => some none
  | some f =>
    if s.fragEnd e f ≤ use.1 then some none
    else if use.2 + s.leadTime e ≤ f.at_ then some (some f)
    else if !s.preempts e then none
    else
      match s.cutPoint e f use.1 with
      | some n => some (some { at_ := use.2 + s.leadTime e, left := f.left - n, cut := true })
      | none => if f.cut && 25 * h.entered + s.leadTime e ≤ f.at_ then some (some { f with at_ := use.2 + s.leadTime e }) else none

/-- Fragments that a cut adds to EM_TX_FRAGS. -/
def fragsMore : Option Frag → Option Frag → Nat
  | some f, some g => if g.left = f.left then 0 else if f.cut then 1 else 2
  | _, _ => 0

/-- The line, link or output is in use from a departure on; a preemptable frame yields. -/
def State.useEdge (s : State) (e : Nat) (h : Held) (dep : Nat) : State :=
  let st := s.stage e
  let use := s.occupancy e h.body dep
  if s.preemptable e h then s.setStage e { st with frag := some { at_ := 25 * dep, left := h.body.len } }
  else
    let f := (s.yields e h use).getD none
    let n := fragsMore st.frag f
    (if n = 0 then s else s.incSat (emB e + 0x190) n).setStage e { st with busy := use.2, frag := f }

/-! ### Order in a stage -/

/-- `a` is released before `b`: launch-time order, then order of entry (R59). -/
def Held.before (a b : Held) : Bool :=
  match a.launch, b.launch with
  | some x, some y => x < y || (x == y && a.entry < b.entry)
  | some _, none => true
  | none, some _ => false
  | none, none => a.entry < b.entry

/-- The launched result that a list releases first. -/
def firstLaunched : List Held → Option Held
  | [] => none
  | h :: r =>
    match firstLaunched r with
    | none => if h.launch.isSome then some h else none
    | some g => if h.launch.isSome && h.before g then some h else some g

/-- A stage without the result of an order of entry. -/
def Stage.drop (st : Stage) (entry : Nat) : Stage := { st with held := st.held.filter fun h => h.entry != entry }

/-! ### Lateness (R60 to R63) -/

/-- The late counter of an edge (R62). -/
def lateReg (e : Nat) : Option Nat :=
  if e < 8 then some (emB e + 0x170) else if e < 28 then some (nfB (e - 8) + 0x3C) else if e = 28 then some 0x80038
  else if 30 ≤ e ∧ e ≤ 37 then some (gpoB (e - 30) + 0xC) else if e = 38 then some 0x20164 else none

/-- The three words a late launch leaves in TB_LATE_LAST_INFO (R80). -/
def lateInfo (e cause : Nat) (drop : Bool) : Nat := e + cause * 256 + b2n drop * 1024

/-- Count a late launch and record it (R62, R63).  `cause`: 0 = CORE; 1 = BUSY; 2 = HOLD_FULL. -/
def State.late (s : State) (k : Nat) (launch by_ cause : Nat) (drop : Bool) : State :=
  let e := s.edgeOf k
  let g := min (2 ^ 32 - 1) (by_ / grain)
  let s := s.inc64 0x20140
  let s := match lateReg e with
    | some r => if e < 8 then s.incSat r else s.inc r
    | none => s
  let s := if 40 ≤ k then s.inc (strmB (k - 40) + 0x18) else s
  let s := (s.lfCount 0x38).setReg96 0x20150 (pack96 launch)
  let s := (s.setReg 0x2015C (lateInfo e cause drop)).setReg 0x20160 g
  s.eventLimited Code.LATE_LAUNCH e (100 * tus) (leBytes 4 (lateInfo e cause drop) ++ leBytes 4 g ++ leBytes 12 (pack96 launch))

/-- A launched result that a dead link (R393), or a boundary-scan instruction on an output (R573), discards is late with
cause BUSY and policy DROP; the release it would have taken is not stated, so its lateness is a free value
(log entry 2). -/
def State.lateDown (s : State) (k launch : Nat) : State := s.useFree.late k launch (s.freeVal % 2 ^ 32 * grain) 1 true

/-! ### The end of a result -/

/-- Transmit descriptors whose fate is known are returned in index order (R531, R538). -/
def State.txReturns (s : State) (r : Nat) : List (Nat × List Byte × Option (Nat × Nat)) → State
  | [] => s.setRing r { s.ring r with taken := [] }
  | (_, _, some (st, tm)) :: rest =>
    (s.ringReturn r ([BitVec.ofNat 8 st, 0, 0, 0] ++ leBytes 8 tm ++ List.replicate 7 0)).txReturns r rest
  | rest => s.setRing r { s.ring r with taken := rest }

/-- A transmit descriptor's STATUS and TIME become known. -/
def State.txDone (s : State) (r i st tm : Nat) : State :=
  s.txReturns r ((s.ring r).taken.map fun t => if t.1 = i then (t.1, t.2.1, some (st, tm)) else t)

/-- A reply's state changes. -/
def State.setReply (s : State) (id : Nat) (f : Reply → Reply) : State :=
  { s with pa := { s.pa with replies := s.pa.replies.map fun r => if r.id = id then f r else r } }

/-- The return edge of a pulse, which is dropped with its active edge (R323). -/
def State.dropPulse (s : State) (c id : Nat) : State :=
  let keep (h : Held) : Bool := h.origin != .pulse c id
  (List.range 8).foldl (fun s n =>
    let st := s.stage (30 + n)
    s.setStage (30 + n) { st with held := st.held.filter keep, wait := st.wait.filter keep }) s

/-- A result ends without departing.  `status` is the transmit descriptor's (R537). -/
def State.discarded (s : State) (h : Held) (status : Nat) : State :=
  match h.origin with
  | .pulse c id => s.dropPulse c id
  | .txRing r i => s.txDone r i status 0
  | .reply id => s.setReply id fun r => { r with state := .ended }
  | _ => s

/-- What a departure does besides leaving: counters of the port, pins, memory, and the end of what asked for it.  A timed
send leaves its Nenath port as the flits of its requests (R21). -/
def State.departs (s : State) (e : Nat) (h : Held) (dep rel : Nat) : State :=
  let nen := decide (8 ≤ e) && decide (e < 28)
  let s := if nen then s else { s with out := { edge := e, at_ := dep, body := h.body, origin := h.origin } :: s.out }
  let s := match h.body with
    | .frame l _ _ _ =>
      let s := (s.incSat (emB e + 0x158)).incSat (emB e + 0x160) l.length
      let s := if be16 l 12 = 0x8808 ∧ be16 l 14 = 0x0101 then s.incSat (emB e + 0x168) else s
      let s := if (headers l).beyond then s.incSat (emB e + 0x198) else s
      s.setEp e { s.ep e with idleFrom := (25 * dep + s.useTime e h.body) / 25 }
    | .edge b =>
      let n := e - 30
      { s with pin := { s.pin with lvdsOut := setFld s.pin.lvdsOut n n (b2n (b != s.rb (gpoB n) 8)) } }
    | .pps => { s with pin := { s.pin with ppsOut := true }, clk := { s.clk with ppsRose := Int.ofNat dep, ppsOutSec := dep / tsec } }
    | .store a l =>
      match h.origin with
      | .ctx c sl ep =>
        let due := if nen then some dep else none
        let r : MemReq := { id := 0, issuer := .ctx c sl, addr := a, write := true, bind := h.bind, epoch := ep, poison := h.poison
                            timed := true, due := due }
        State.issueCut r l.length s a l
      | _ => s.post .firmware a l
    | .records _ => s
    | .flit _ => s
  match h.origin with
  | .txRing r i => s.txDone r i 0 (pack96 (dep / 16384 * 16384) % 2 ^ 64)
  | .reply id => s.setReply id fun r => { r with state := .gone rel dep }
  | .ctx c _ _ => s.setCx c { s.cx c with launched := (s.cx c).launched + 1 }
  | _ => s

/-- A result leaves its stage and departs. -/
def State.depart (s : State) (e : Nat) (h : Held) (dep : Nat) : State :=
  ((s.setStage e ((s.stage e).drop h.entry)).useEdge e h dep).departs e h dep (dep - egress e)

/-- A result leaves its stage and is discarded. -/
def State.dropHeld (s : State) (e : Nat) (h : Held) (status : Nat) : State :=
  (s.setStage e ((s.stage e).drop h.entry)).discarded h status

/-! ### Entry (R58, R59, R393, R394, R396) -/

/-- The fault of a launch time too far ahead (R58). -/
def State.launchRange (s : State) (e bind : Nat) : State :=
  s.fault { code := Code.LAUNCH_RANGE, origin := 2, bind := bind, detail := e }

/-- What the transmit MAC makes of a frame as it enters (R394, R396). -/
def Held.macEntry (h : Held) : Held :=
  match h.body with
  | .frame l fcs ip4 l4 => { h with body := .frame (macFrame l fcs ip4 l4) true false false }
  | _ => h

/-- The places of a stage that are taken (R58). -/
def Stage.taken (st : Stage) : Nat := (st.held.filter fun h => !h.ctl).length

/-- The first waiting result enters the stage, when it has a place; on an Ethernet port it may be discarded there. -/
def State.enter (s : State) (k : Nat) : State :=
  let st := s.stage k
  match st.wait with
  | [] => s
  | h :: rest =>
    if stageCap k ≤ st.taken then s
    else
      let e := s.edgeOf k
      let s := s.setStage k { st with wait := rest }
      let h := if k < 8 then h.macEntry else h
      let h := { h with entered := s.snUp, entry := st.next }
      let tooFar : Bool := match h.launch with | some t => s.sn + 2 ^ 32 * grain < t | none => false
      if h.launch.isSome && s.inReplay h.bind then s.discarded h 3
      else if k < 8 && s.rf (emB k + 0xC) 13 0 < h.body.len then (s.incSat (emB k + 0x180)).discarded h 1
      else if k < 8 && !s.rb (emB k + 4) 0 then
        let s := (s.incSat (emB k + 0x188)).discarded h 2
        match h.launch with
        | some t => s.lateDown k t
        | none => s
      else if tooFar then (s.launchRange e h.bind).discarded h 5
      else s.setStage k { s.stage k with held := (s.stage k).held ++ [h], next := st.next + 1 }

/-! ### Release (R22, R60, R61) -/

/-- The cause of a late launch (R59, R60). -/
def Held.cause (h : Held) (rel : Nat) : Nat :=
  if rel < h.complete then 0 else if rel < h.entered then 2 else if rel < h.stuck then 0 else 1

/-- The departure instant a launched result takes: its launch time, or the first one R61 gives; a preemptable frame that cannot
yield makes it wait. -/
def State.departAt (s : State) (e : Nat) (h : Held) (launch : Nat) : Nat :=
  let ready := max h.complete (max h.entered h.stuck)
  let d := s.edgeReady e h (max launch (roundUp ready grain + egress e))
  match s.yields e h (s.occupancy e h.body d), (s.stage e).frag with
  | none, some f => max d (grainAt (s.fragEnd e f + s.leadTime e))
  | _, _ => d

/-- The transmitter of a port leaves low-power idle at the first instant a held frame asks for it (R398): an untimed one on
its arrival, a launched one TW_TX before its occupancy. -/
def State.lpiWake (s : State) (n : Nat) : State :=
  let tw := s.rf (emB n + 0x2C) 15 0 * tns
  let want (h : Held) : Nat := match h.launch with
    | some t => max h.entered ((25 * t - s.leadTime n) / 25 - tw)
    | none => h.entered
  if n < 8 ∧ s.rb (emB n + 4) 3 then
    match (s.stage n).held with
    | [] => s
    | h :: r =>
      let w := (r.map want).foldl min (want h)
      if s.sn < w then s
      else
        let p := s.ep n
        let s := p.lpiTx.elim s (s.settleNs (emB n + 0x1A0) · true)
        (s.setEp n { p with wakeAt := w + tw, lpiTx := none }).setRb (emB n + 4) 3 false
  else s

/-- The first launched result of a stage is released, or judged late, once its release time has come. -/
def State.releaseOne (s : State) (e : Nat) : State :=
  let s := s.lpiWake e
  match firstLaunched (s.stage e).held with
  | none => s
  | some h =>
    match h.launch with
    | none => s
    | some launch =>
      let rel := launch - egress e
      if s.sn < rel then s
      else
        let dep := s.departAt e h launch
        if 30 ≤ e ∧ s.holdsPins then (s.dropHeld e h 3).lateDown e launch
        else if dep = launch then s.depart e h dep
        else if h.drop then (s.dropHeld e h 3).late e launch (dep - launch) (h.cause rel) true
        else if s.sn < dep - egress e then s
        else (s.depart e h dep).late e launch (dep - launch) (h.cause rel) false

/-- Insertion of a launched result in release order. -/
def insertLaunch (x : Held) : List Held → List Held
  | [] => [x]
  | y :: r => if x.before y then x :: y :: r else y :: insertLaunch x r

/-- A port's line as the launched frames held leave it, and their occupancies in order (R390); one that DROP will discard has
none. -/
def State.linePlan (s : State) (e : Nat) : State × List (Nat × Nat) :=
  let put (x : State × List (Nat × Nat)) (h : Held) : State × List (Nat × Nat) :=
    match h.launch with
    | none => x
    | some t =>
      let d := x.1.departAt e h t
      if d ≠ t ∧ h.drop then x else (x.1.useEdge e h d, x.2 ++ [x.1.occupancy e h.body d])
  (((s.stage e).held.filter fun h => h.launch.isSome).foldr insertLaunch []).foldl put (s, [])

/-- The first departure instant from `d` on at which an untimed frame overlaps no launched frame held; a preemptable one may
start where it can be cut before the first that it overlaps. -/
def State.clearOf (s : State) (e : Nat) (use : Nat) (pre : Option Nat) : List (Nat × Nat) → Nat → Nat
  | [], d => d
  | (a, b) :: r, d =>
    if b + s.leadTime e ≤ 25 * d then s.clearOf e use pre r d
    else if 25 * d + use ≤ a then d
    else if pre.any fun len => (s.cutPoint e { at_ := 25 * d, left := len } a).isSome then d
    else s.clearOf e use pre r (max d (grainAt (b + s.leadTime e)))

/-- Untimed results in the order in which a stage lets them go: the MAC's own control frames first (R388), then order of
entry. -/
def firstUntimed : List Held → Option Held
  | [] => none
  | h :: r =>
    match firstUntimed r with
    | none => if h.launch.isNone then some h else none
    | some g => if h.launch.isNone && (h.ctl || !g.ctl) then some h else some g

/-- A pause stops a frame of a port now (R392). -/
def State.pausedNow (s : State) (e : Nat) (h : Held) : Bool := decide (e < 8) && decide (s.sn < s.pauseEnd e h)

/-- The first untimed result of a stage that no pause stops is released at the first grain that R390 allows (R23); launched
frames that go before it are released first. -/
def State.releaseUntimed (s : State) (e : Nat) : State :=
  let s := s.lpiWake e
  match firstUntimed ((s.stage e).held.filter fun h => !s.pausedNow e h) with
  | none => s
  | some h =>
    let d0 := s.edgeReady e h (roundUp (max h.complete h.entered) grain + egress e)
    if e < 8 then
      let x := s.linePlan e
      let free := match (x.1.stage e).frag with | some f => grainAt (s.fragEnd e f + s.leadTime e) | none => 0
      let pre := if s.preemptable e h then some h.body.len else none
      let d := s.clearOf e (s.useTime e h.body) pre x.2 (max d0 free)
      if s.sn < d - egress e ∨ x.2.any (fun u => u.1 < 25 * d) then s else s.depart e h d
    else if s.sn < d0 - egress e then s
    else s.depart e h d0

end Sys2Proof.Machine
end

