-- ==== Sys2Proof/Machine/Stream.lean ====
section
/-! DEFINITION. Trigger record streams: record bytes, the stream buffer, backpressure and release (R328 to R339). -/

namespace Sys2Proof.Machine

/-- Bytes padded with zeros to a multiple of 64 and at least 64 (R334). -/
def pad64 (l : List Byte) : List Byte := l ++ List.replicate (roundUp (max l.length 1) 64 - l.length) 0

/-- A record: header and fields, without its SEQ (R334).  `src` is SOURCE, `stamp` in ticks. -/
def mkRecord (type tflags src stamp : Nat) (fields : List Byte) : List Byte :=
  let n := roundUp (16 + fields.length) 64 / 64
  pad64 (leBytes 1 (type + 16 * tflags) ++ leBytes 1 n ++ leBytes 2 src ++ leBytes 4 0 ++ leBytes 8 (pack96 stamp) ++ fields)

/-- The signed 64-bit value of an amount in fine units, in ticks, truncated toward zero. -/
def ticks64 (i : Int) : Nat := ofSigned 64 (i.tdiv (Int.ofNat fine))

/-- A TIME record (R339). -/
def State.timeRecord (s : State) (src tflags stamp sample drift : Nat) (resid : Int) : List Byte :=
  mkRecord 4 tflags src stamp (leBytes 12 (pack96 stamp) ++ leBytes 4 s.tbStatus ++ leBytes 8 sample ++
    leBytes 8 drift ++ leBytes 8 (ticks64 resid))

/-- Bytes of a stream buffer above which a data-class record is refused, and at which backpressure ends (R330). -/
abbrev bufRefuse : Nat := 196608
abbrev bufResume : Nat := 131072

/-- A stream accepts records. -/
def State.strmOpen (s : State) (n : Nat) : Bool := (s.strm n).running && !(s.strm n).stopping

/-- A record enters an open stream's buffer, to be launched at its basis plus OFFSET (R330, R332). -/
def State.accept (s : State) (n basis : Nat) (rcd : List Byte) : State :=
  let st := s.strm n
  if !s.strmOpen n then s
  else
    let s := s.setStrm n { st with fill := st.fill + rcd.length }
    let launch := roundUp (basis + st.offset * grain) grain
    s.offer (40 + n) { launch := some launch, complete := s.snUp, origin := .stream n, body := .records [rcd] }

/-- A data-class record of a length is refused at present: the buffer is in backpressure, or would be above 192 KiB
(R330, R331). -/
def State.refuses (s : State) (n len : Nat) : Bool := (s.strm n).bp.isSome || decide (bufRefuse < (s.strm n).fill + len)

/-- A data-class record is refused: backpressure begins. -/
def State.refuse (s : State) (n : Nat) : State :=
  let s := s.inc (strmB n + 0xC)
  if (s.strm n).bp.isNone then (s.setStrm n { s.strm n with bp := some s.sn, bpFrom := s.sn }).setRb (strmB n) 2 true else s

/-- A GAP record (R337). -/
def gapRecord (src : Nat) (l : Loss) (resume : Nat) : List Byte :=
  mkRecord 2 0 src l.stamp (leBytes 8 l.first ++ leBytes 8 l.lost ++ leBytes 4 l.records ++ leBytes 4 l.anchors ++ leBytes 8 resume)

/-- A source has lost data: FIRST_LOST and STAMP name the first lost sample or period (R337). -/
def lostData (l : Option Loss) (first stamp count records : Nat) : Loss :=
  match l with
  | none => { first := first, stamp := stamp, lost := count, records := records, anchors := 0 }
  | some l =>
    let l := if l.lost = 0 ∨ first < l.first then { l with first := first, stamp := stamp } else l
    { l with lost := l.lost + count, records := l.records + records }

/-- A source has lost an anchor.  DESIGN CHOICE (log entry 108): with nothing else lost, FIRST_LOST and STAMP name the
anchor's sample. -/
def lostAnchor (l : Option Loss) (first stamp : Nat) : Loss :=
  let l := l.getD { first := first, stamp := stamp, lost := 0, records := 0, anchors := 0 }
  { l with anchors := l.anchors + 1 }

/-- Offer a data-class record of a source to an open stream: it is refused and joins the source's loss, or it is admitted,
after a GAP record, whose bytes count in the fill, when the source has lost something (R330, R331).  `first`, `stamp` and `count` name what the record
holds; `anchor`: a channel TIME record. -/
def State.admitData (s : State) (n src basis first stamp count : Nat) (anchor : Bool) (loss : Option Loss) (rcd : List Byte) :
    State × Option Loss × Bool :=
  if !s.strmOpen n then (s, loss, true)
  else if s.refuses n (rcd.length + if loss.isSome then 64 else 0) then
    (s.refuse n, some (if anchor then lostAnchor loss first stamp else lostData loss first stamp count 1), false)
  else
    let s := match loss with | some l => s.accept n basis (gapRecord src l first) | none => s
    (s.accept n basis rcd, none, true)

/-- A record leaves the stream buffer: backpressure ends when the fill falls to 128 KiB (R330). -/
def State.bufTake (s : State) (n len : Nat) : State :=
  let st := { s.strm n with fill := (s.strm n).fill - len, first := false }
  match st.bp with
  | some b =>
    if st.fill ≤ bufResume then
      let s := (s.setStrm n { st with bp := none, pastBp := st.pastBp ++ [(b, s.sn)] }).setRb (strmB n) 2 false
      (s.incPast (strmB n + 0x10) (st.bpPast s.sn)).inc64 (strmB n + 0x10) ((s.sn - st.bpFrom) / grain - st.bpPast s.sn)
    else s.setStrm n st
  | none => s.setStrm n st

/-- Free bytes of a memory ring (R329). -/
def Strm.free (st : Strm) : Nat := st.size - (st.written - st.consumed)

/-- Write a record that departs at `dep` to a memory ring, wrapping at its end, and store the tail word once it is visible
(R57, R329). -/
def State.memRecord (s : State) (n seq dep : Nat) (rcd : List Byte) : State :=
  let st := s.strm n
  let o := st.written % st.size
  let a := rcd.take (st.size - o)
  let r : MemReq := { id := 0, issuer := .stream n, addr := 0, write := true, bind := s.cxBind (64 + n), epoch := s.cxEpoch (64 + n) }
  let put (s : State) (r : MemReq) (x : Nat) (l : List Byte) : State := State.issueCut r l.length s x l
  let s := put (put s { r with due := some dep } (st.base + o) a) { r with due := some dep } st.base (rcd.drop a.length)
  let w := st.written + rcd.length
  let s := put s { r with fenced := true } st.tail (leBytes 8 w ++ leBytes 4 seq ++ leBytes 4 0)
  s.setStrm n { st with written := w }

/-- Hand a record that departs at `dep` to the stream's destination; false when it has too little free space (R329). -/
def State.placeRecord (s : State) (n dep : Nat) (rcd : List Byte) : State × Bool :=
  let st := s.strm n
  let seq := s.reg (strmB n + 8)
  let rcd := patchAt rcd 4 (leBytes 4 seq)
  if st.kind = 0 then
    let c := s.ringClaim st.ring (10 + n)
    if c.2 then c.1.ringRecord st.ring (leAt rcd 8 8) rcd else c
  else if st.free < rcd.length then (s, false)
  else (s.memRecord n seq dep rcd, true)

/-- Release the records of one launched result, first to last (R332); one that finds no space holds back the rest. -/
def State.releaseRecords (s : State) (n launch dep : Nat) : List Held → State
  | [] => s
  | h :: r =>
    let k := 40 + n
    let e := s.edgeOf k
    match h.body with
    | .records [rcd] =>
      let p := s.placeRecord n dep rcd
      if p.2 then
        let s := p.1.setReg (strmB n + 8) (s.reg (strmB n + 8) + 1)
        let s := s.setStage k ((s.stage k).drop h.entry)
        let left : Departure := { edge := e, at_ := dep, body := .records [patchAt rcd 4 (leBytes 4 (s.reg (strmB n + 8) - 1))] }
        let s := if 8 ≤ e ∧ e < 28 then s else { s with out := left :: s.out }
        let s := s.setStage e { s.stage e with busy := max (s.stage e).busy (25 * dep) + s.useTime e h.body }
        let s := s.bufTake n rcd.length
        let s := if dep = launch then s else s.late k launch (dep - launch) (h.cause (launch - egress e)) false
        s.releaseRecords n launch dep r
      else
        let mark (x : Held) : Held := if x.entry = h.entry then { x with stuck := p.1.snUp } else x
        p.1.setStage k { p.1.stage k with held := (p.1.stage k).held.map mark }
    | _ => s

/-- Insertion of a held result by order of entry. -/
def insertHeld (x : Held) : List Held → List Held
  | [] => [x]
  | y :: r => if x.entry ≤ y.entry then x :: y :: r else y :: insertHeld x r

/-- The result a stream releases next: the first launched one, but START before any other (R339). -/
def State.strmNext (s : State) (n : Nat) : Option Held :=
  let l := (s.stage (40 + n)).held
  if (s.strm n).first then (l.foldr insertHeld []).head? else firstLaunched l

/-- The first launched result of a stream is released once its release time has come and its edge is free. -/
def State.releaseStream (s : State) (n : Nat) : State :=
  let k := 40 + n
  let e := s.edgeOf k
  match s.strmNext n with
  | none => s
  | some h =>
    match h.launch with
    | none => s
    | some launch =>
      if s.sn < launch - egress e then s
      else
        let dep := s.departAt e h launch
        if s.sn < dep - egress e then s
        else s.releaseRecords n launch dep (((s.stage k).held.filter fun x => x.launch == h.launch).foldr insertHeld [])

/-- Release from a holding stage: records of a stream as one launched result, anything else by itself. -/
def State.releaseStage (s : State) (k : Nat) : State := if 40 ≤ k then s.releaseStream (k - 40) else s.releaseOne k

/-- SOURCE of R334. -/
def srcChan (n : Nat) : Nat := n
def srcComb (n : Nat) : Nat := 0x1000 + n
def srcOut (n : Nat) : Nat := 0x2000 + n
def srcStrm (n : Nat) : Nat := 0x3000 + n

/-- A stream TIME record (R339): TFLAGS 1 = STEP, 2 = START, 4 = WRAP. -/
def State.streamTime (s : State) (n tflags at_ drift : Nat) : State :=
  s.accept n at_ (s.timeRecord (srcStrm n) tflags at_ 0 drift (s.residAt at_))

end Sys2Proof.Machine
end

