-- ==== Sys2Proof/Machine/TimeBase.lean ====
section
/-! DEFINITION. Saffron, its domains and servos, 1PPS, refresh windows and the holding-stage commands (chapter Time Base
and Launch). -/

namespace Sys2Proof.Machine

/-! ### The first-lock step (R46, R47) -/

/-- Shift an instant by a signed amount. -/
def shiftT (a : Int) (x : Nat) : Nat := (Int.ofNat x + a).toNat

/-- A held result keeps its distance in real time through the step. -/
def Held.shift (a : Int) (h : Held) : Held :=
  { h with launch := h.launch.map (shiftT a), complete := shiftT a h.complete, entered := shiftT a h.entered
           stuck := if h.stuck = 0 then 0 else shiftT a h.stuck }

/-- Launch times of held results, WAITT deadlines and every other instant kept in Saffron time keep their distance
from the present. -/
def State.shiftTimes (s : State) (a : Int) : State :=
  let stage (_ : Nat) (st : Stage) : Stage :=
    { st with held := st.held.map (Held.shift a), wait := st.wait.map (Held.shift a)
              busy := if st.busy = 0 then 0 else shiftT (25 * a) st.busy
              frag := st.frag.map fun f => { f with at_ := shiftT (25 * a) f.at_ } }
  let plane (_ : Nat) (p : Plane) : Plane :=
    { p with deadline := p.deadline.map (shiftT a), waitFrom := p.waitFrom.map (shiftT a) }
  let cell (_ : Nat) (c : Cell) : Cell := { c with planes := Sparse.mapV (fun _ => {}) plane c.planes }
  let ctx (_ : Nat) (c : Ctx) : Ctx := { c with deadline := c.deadline.map (shiftT a) }
  let comb (_ : Nat) (c : Comb) : Comb := { c with marks := c.marks.map fun m => (shiftT a m.1, shiftT a m.2.1, m.2.2) }
  let port (_ : Nat) (p : EPort) : EPort :=
    { p with pause := p.pause.map (fun e => (e.1, shiftT a e.2)), xoff := p.xoff.map (fun e => (e.1, shiftT a e.2)), idleFrom := shiftT a p.idleFrom
             wakeAt := if p.wakeAt = 0 then 0 else shiftT a p.wakeAt }
  let chan (_ : Nat) (c : Chan) : Chan :=
    { c with enAt := shiftT a c.enAt, line := c.line.map (fun x => { x with at_ := shiftT a x.at_ })
             run := c.run.map fun r => { r with basis := shiftT a r.basis } }
  let group (g : Group) : Group := { g with at_ := shiftT a g.at_, sob := shiftT a g.sob }
  let lane (_ : Nat) (l : Lane) : Lane := { l with fifo := l.fifo.map group, sob := l.sob.map (shiftT a), upAt := shiftT a l.upAt }
  let strm (_ : Nat) (t : Strm) : Strm := { t with bp := t.bp.map (shiftT a), bpFrom := shiftT a t.bpFrom, pastBp := t.pastBp.map fun p => (shiftT a p.1, shiftT a p.2) }
  { s with
    stages := Sparse.mapV (fun _ => {}) stage s.stages
    lat := { s.lat with cells := Sparse.mapV (fun _ => {}) cell s.lat.cells }
    eng := { s.eng with ctxs := Sparse.mapV (fun _ => {}) ctx s.eng.ctxs }
    lanes := Sparse.mapV (fun _ => {}) lane s.lanes
    tg := { s.tg with chans := Sparse.mapV (fun _ => {}) chan s.tg.chans
                      combs := Sparse.mapV (fun _ => {}) comb s.tg.combs
                      streams := Sparse.mapV (fun _ => {}) strm s.tg.streams }
    eth := { s.eth with ports := Sparse.mapV (fun _ => {}) port s.eth.ports }
    pa := { s.pa with toks := s.pa.toks.map fun t => { t with due := shiftT a t.due } }
    mem := { s.mem with commits := s.mem.commits.map fun c => { c with at_ := shiftT a c.at_ } }
    host := { s.host with quiets := s.host.quiets.map fun q => { q with until_ := shiftT a q.until_ } } }

/-- SN_T0 of an enabled channel moves by the step; stamps of the samples presented before it stay as they are (R304). -/
def State.shiftChan (s : State) (a : Int) (c : Nat) : State :=
  if s.rb (snB c) 0 then
    let t := unpack96 (s.reg96 (snB c + 0x18))
    let k := s.chan c
    let s := if k.started then s.setChan c { k with t0Old := some (t, k.next) } else s
    s.setReg96 (snB c + 0x18) (pack96 (shiftT a t))
  else s

/-- SN_T0 of every enabled channel moves by the step (R304). -/
def State.shiftT0 (s : State) (a : Int) : State := (List.range 384).foldl (fun s c => s.shiftChan a c) s

/-- Seconds at the last multiple of 65,536, where SEC[15:0] last wrapped to 0 (R339). -/
def State.wrapNow (s : State) : Nat := s.sn / tsec / 65536 * 65536

/-- After the step no stream owes a WRAP record for a wrap that the step passed over. -/
def State.rewrap (s : State) : State :=
  let f (_ : Nat) (t : Strm) : Strm := if t.running then { t with wrapSec := s.wrapNow } else t
  { s with tg := { s.tg with streams := Sparse.mapV (fun _ => {}) f s.tg.streams } }

/-- A running stream marks the step with a TIME record (R339). -/
def State.stepRecords (s : State) (amount : Nat) : State :=
  (List.range 4).foldl (fun s n => if s.strmOpen n then s.streamTime n 1 s.sn amount else s) s

/-- At the first moment at which the selected domain is LOCKED, Saffron time steps to that domain's time, once. -/
def State.firstStep (s : State) : State :=
  if s.rb 0x20004 6 || s.domSt s.selDom != 2 then s
  else
    let target := (s.dom s.selDom).time
    let amount := Int.ofNat target - Int.ofNat s.clk.saf
    let s := (s.keepTime.shiftTimes (amount.tdiv (Int.ofNat fine))).shiftT0 (amount.tdiv (Int.ofNat fine))
    let s := { s with clk := { s.clk with
      saf := target, resid := 0, ppsRose := s.clk.ppsRose + amount.tdiv (Int.ofNat fine)
      ppsOutSec := (target / fine + tsec - 1) / tsec - 1 } }
    let s := (s.keepTime.setRb 0x20004 6 true).setReg64 0x20028 (ticks64 amount)
    (s.event Code.TB_STEPPED 0 (leBytes 8 (ticks64 amount))).rewrap.stepRecords (ticks64 amount)

/-! ### Domains (R44 to R55) -/

/-- Select a domain: the difference becomes the residual, and no step occurs (R54, R55); before the first-lock step a
switch only changes which domain's lock causes it (R46). -/
def State.switchTo (s : State) (d : Dom) : State :=
  let b := match d with | .a => false | .b => true
  let s := ((s.setRb 0x20004 0 b).setRb 0x20000 0 b).inc 0x20008
  if s.rb 0x20004 6 then
    let r := Int.ofNat s.clk.saf - Int.ofNat (s.dom d).time
    { s.keepTime with clk := { s.keepTime.clk with resid := r } }.keepTime.setRb 0x20004 5 (decide (r ≠ 0))
  else s.keepTime.firstStep

/-- The other domain. -/
def otherDom : Dom → Dom | .a => .b | .b => .a

/-- The selected domain has entered HOLDOVER: an automatic switch, if it can happen (R53). -/
def State.autoSwitch (s : State) : State :=
  if s.domSt s.selDom = 3 ∧ s.rb 0x20000 1 ∧ s.domSt (otherDom s.selDom) = 2 then s.switchTo (otherDom s.selDom) else s

/-- A domain enters HOLDOVER with its last rate correction frozen. -/
def State.holdover (s : State) (d : Dom) : State := (s.setDomSt d 3).setDom d { s.dom d with good := 0 }

/-- A domain returns to FREERUN: no correction. -/
def State.freerun (s : State) (d : Dom) : State :=
  ((s.keepTime.setDomSt d 0).setReg (domB d + 0x10) 0).setDom d { s.dom d with good := 0 }

/-- From FREERUN an enabled domain with a source goes to ACQUIRE. -/
def State.acquire (s : State) (d : Dom) : State :=
  if s.domSt d = 0 ∧ s.rb (domB d) 0 ∧ s.rf (domB d) 2 1 ≠ 0 then s.setDomSt d 1 else s

/-- The rate correction a servo derives from a measurement: the manual fixes no servo law, so it is a free value. -/
def State.newRate (s : State) (d : Dom) : State := (s.keepTime.setReg (domB d + 0x10) s.freeVal).useFree

/-- ENABLE of a domain is written. -/
def State.enableDom (s : State) (d : Dom) (on : Bool) : State :=
  let s := s.setRb (domB d) 0 on
  if on then s.acquire d else s.freerun d

/-- A REACQUIRE: ignored for the selected domain (R48). -/
def State.reacquireDom (s : State) (d : Dom) : State := if s.selDom = d then s else (s.freerun d).acquire d

/-- A servo measurement: source time minus domain time, in ticks (R44, R45). -/
def State.measure (s : State) (d : Dom) (off : Int) : State :=
  let st := s.domSt d
  if st = 0 then s
  else
    let s := s.setReg64 (domB d + 8) (ofSigned 64 off)
    let m := s.dom d
    let lock : Int := Int.ofNat (s.rf (domB d + 4) 15 0 * tns)
    let hold : Int := Int.ofNat (s.rf (domB d + 4) 31 16 * tns)
    let mag := Int.ofNat off.natAbs
    let s := s.setDom d { m with lastMeas := s.clk.now }
    let m := s.dom d
    if st = 1 then
      if lock ≤ mag then s.setDom d { m with good := 0 }
      else if m.good + 1 < 8 then s.setDom d { m with good := m.good + 1 }
      else
        let time := (Int.ofNat m.time + off * Int.ofNat fine).toNat
        (((s.setDom d { m with good := 0, time := time }).setDomSt d 2).newRate d).firstStep
    else if st = 2 then
      if hold < mag then (s.holdover d).autoSwitch else s.newRate d
    else
      if hold < mag then s.setDom d { m with good := 0 }
      else if m.good + 1 < 8 then s.setDom d { m with good := m.good + 1 }
      else (((s.setDom d { m with good := 0 }).setDomSt d 2).newRate d).firstStep

/-- The source, port, PTP profile and PTP domain that TB_DOM_CFG selects (R49, R78). -/
def State.sourceIs (s : State) (d : Dom) (src : TimeSource) : Bool :=
  let o := domB d
  match src with
  | .ptp port profile number =>
    s.rf o 2 1 == 1 && s.rf o 7 3 == port && s.rf o 9 8 == profile && s.rf o 23 16 == number
  | .nenath port => s.rf o 2 1 == 2 && s.rf o 7 3 == port
  | .pps => s.rf o 2 1 == 3

/-- Four expected measurement intervals of a domain's source, where the manual fixes the interval: PERIOD for NENATH
(R449), one second for PPS (R51); a PTP profile's rate is announced, so the event itself decides. -/
def State.silentAfter (s : State) (d : Dom) : Nat :=
  let src := s.rf (domB d) 2 1
  if src = 2 then 4 * s.rf (nfB (s.rf (domB d) 7 3) + 0x18) 15 0 * tus else if src = 3 then 4 * tsec else 0

/-- A source that stays silent sends a LOCKED domain to HOLDOVER. -/
def State.silent (s : State) (d : Dom) : State :=
  if s.domSt d = 2 ∧ (s.dom d).lastMeas + s.silentAfter d ≤ s.clk.now then (s.holdover d).autoSwitch else s

/-- SEL is written: a request for a switch (R53). -/
def State.selWrite (s : State) (d : Dom) : State :=
  if s.selDom = d then s
  else if s.domSt d = 2 then s.switchTo d
  else s.event Code.TB_SWITCH_REFUSED 0 (leBytes 1 (match d with | .a => 0 | .b => 1))

/-- A pulse on 1PPS in (R51): it sets the time of a PPS-sourced domain that is still acquiring; a domain that has
locked does not step again (R45), so there the pulse is only measured. -/
def State.ppsPulse (s : State) : State :=
  let src (d : Dom) : Bool := s.rb (domB d) 0 && s.rf (domB d) 2 1 == 3
  let first := s.clk.ppsIn.isNone
  let s := { s with clk := { s.clk with ppsIn := some s.clk.now } }.setRb 0x20004 8 true
  if src .a || src .b then
    let s := if s.clk.ppsFresh || first then s else s.setReg64 0x200C8 ((s.reg64 0x200C8 + 1) % 2 ^ 48)
    let s := { s with clk := { s.clk with ppsFresh := false } }
    let t := s.reg64 0x200C8 * tsec * fine
    let put (s : State) (d : Dom) : State := if src d && s.domSt d == 1 then s.setDom d { s.dom d with time := t } else s
    put (put s .a) .b
  else s

/-- The time-base reference stops (R603): both servos lose their measurements, and Saffron runs on an internal
oscillator whose rate is free within ±20 ppm. -/
def State.refLost (s : State) : State :=
  let osc := Int.ofNat (s.freeVal % 40960001) - 20480000
  let s := { s.useFree.keepTime with pin := { s.pin with refclk := false }, clk := { s.keepTime.clk with osc := osc } }.setRb 0x20004 7 false
  let s := if s.domSt .a = 2 then s.holdover .a else s
  let s := if s.domSt .b = 2 then s.holdover .b else s
  s.autoSwitch

/-- The reference returns (R77). -/
def State.refBack (s : State) : State :=
  { s with pin := { s.pin with refclk := true }, clk := { s.keepTime.clk with osc := 0 } }.setRb 0x20004 7 true

/-! ### 1PPS out (R52) -/

/-- The rising edge at a Saffron whole second. -/
def State.ppsRise (s : State) : State :=
  let sec := s.sn / tsec
  if s.rb 0x20000 2 ∧ s.clk.ppsOutSec < sec ∧ s.holdsPins then
    { s with clk := { s.clk with ppsOutSec := sec } }.lateDown 38 (sec * tsec)
  else if s.rb 0x20000 2 ∧ s.clk.ppsOutSec < sec then
    let h : Held := { launch := some (sec * tsec), complete := 0, body := .pps }
    s.departs 38 h (sec * tsec) (sec * tsec - egress 38)
  else s

/-- The fall after WIDTH microseconds. -/
def State.ppsFall (s : State) : State :=
  if s.pin.ppsOut ∧ s.clk.ppsRose + Int.ofNat (s.rf 0x200C0 19 0 * tus) ≤ Int.ofNat s.sn then { s with pin := { s.pin with ppsOut := false } } else s

/-! ### Refresh windows (R70 to R73) -/

/-- The refresh interval in ticks, by FINE (R79). -/
def refInterval (f : Bool) : Nat := if f then 1950 * tns else 3900 * tns

/-- The length of a window. -/
abbrev refLen : Nat := 280 * tns

/-- The last window start at or before an instant. -/
def gridAt (f : Bool) (t : Nat) : Nat := t / tsec * tsec + t % tsec / refInterval f * refInterval f

/-- The first window start after an instant. -/
def gridAfter (f : Bool) (t : Nat) : Nat :=
  let n := gridAt f t + refInterval f
  if n < (t / tsec + 1) * tsec then n else (t / tsec + 1) * tsec

/-- The first window start after an instant that is on the grid and at or after another instant. -/
def gridFrom (f : Bool) (t lo : Nat) : Nat := if gridAt f lo = lo ∧ t < lo then lo else max (gridAfter f t) (if gridAt f lo = lo then lo else gridAfter f lo)

/-- The start of the next refresh window (TB_REF_NEXT). -/
def State.refNextStart (s : State) : Nat :=
  let old := gridAfter (s.rb 0x20100 0) s.sn
  match s.clk.refNew with
  | none => old
  | some (f, ts) => min old (gridFrom f (max ts s.sn) (if s.clk.refOn then s.clk.refStart + refLen else s.clk.refStart))

/-- A window starts, on the grid in force; a pending change of the interval takes effect at the first start that meets
R72. -/
def State.refBegin (s : State) : State :=
  let now := s.sn
  let begin_ (s : State) (g : Nat) : State := { s with clk := { s.clk with refOn := true, refStart := g } }
  let fits (g : Nat) : Bool := decide (s.clk.refStart + refLen ≤ g) && decide (now < g + refLen)
  if s.clk.refOn then s
  else
    match s.clk.refNew with
    | some (f, ts) =>
      if ts < gridAt f now ∧ fits (gridAt f now) then
        let s := { s with clk := { s.clk with refNew := none } }.setRb 0x20100 0 f
        (begin_ s (gridAt f now)).event Code.REFRESH_RATE_CHANGE 0 (leBytes 1 (b2n f))
      else if fits (gridAt (s.rb 0x20100 0) now) then begin_ s (gridAt (s.rb 0x20100 0) now) else s
    | none => if fits (gridAt (s.rb 0x20100 0) now) then begin_ s (gridAt (s.rb 0x20100 0) now) else s

/-- A window ends after 280 ns. -/
def State.refEnd (s : State) : State :=
  if s.clk.refOn ∧ s.clk.refStart + refLen ≤ s.sn then { s with clk := { s.clk with refOn := false } } else s

/-! ### The commands -/

/-- DOMAIN_ENABLE (R44). -/
def execDomainEnable (t : Tick) (dom : Dom) (on : Bool) (s : State) : Result := .next ((s.advanceTo t).enableDom dom on)

/-- REACQUIRE (R48). -/
def execReacquire (t : Tick) (dom : Dom) (s : State) : Result := .next ((s.advanceTo t).reacquireDom dom)

/-- DOMAIN_MEASUREMENT (R44, R45, R46, R49): of the source that the domain takes, and of no other. -/
def execDomainMeasurement (t : Tick) (dom : Dom) (m : Measured) (s : State) : Result :=
  let s := s.advanceTo t
  .next (if s.sourceIs dom m.src then s.measure dom m.offset else s)

/-- SOURCE_SILENT_TIMEOUT (R44). -/
def execSourceSilentTimeout (t : Tick) (dom : Dom) (s : State) : Result := .next ((s.advanceTo t).silent dom)

/-- SEL_WRITE (R53). -/
def execSelWrite (t : Tick) (sel : Dom) (s : State) : Result := .next ((s.advanceTo t).selWrite sel)

/-- SLEW_COMPLETE (R54): the residual has reached zero. -/
def execSlewComplete (t : Tick) (s : State) : Result :=
  let s := s.advanceTo t
  .next (if s.clk.resid = 0 then s.setRb 0x20004 5 false else s)

/-- PPS_IN_PULSE (R51). -/
def execPpsInPulse (t : Tick) (s : State) : Result := .next (s.advanceTo t).ppsPulse

/-- PPS_IN_LOSS (R77): no pulse for 1.1 s. -/
def execPpsInLoss (t : Tick) (s : State) : Result :=
  let s := s.advanceTo t
  .next (match s.clk.ppsIn with
    | some p => if p + 1100 * tms < s.clk.now then s.setRb 0x20004 8 false else s
    | none => s.setRb 0x20004 8 false)

/-- PPS_OUT_RISE (R52). -/
def execPpsOutRise (t : Tick) (s : State) : Result := .next (s.advanceTo t).ppsRise

/-- PPS_OUT_FALL (R52). -/
def execPpsOutFall (t : Tick) (s : State) : Result := .next (s.advanceTo t).ppsFall

/-- REFCLK_LOSS (R603). -/
def execRefclkLoss (t : Tick) (s : State) : Result := .next (s.advanceTo t).refLost

/-- REFCLK_RETURN (R77). -/
def execRefclkReturn (t : Tick) (s : State) : Result := .next (s.advanceTo t).refBack

/-- UNTIMED_RELEASE (R23, R390). -/
def execUntimedRelease (t : Tick) (edge : Nat) (s : State) : Result := .next ((s.advanceTo t).releaseUntimed edge)

/-- EVENT_QUIET_INTERVAL_END (R620). -/
def execEventQuietIntervalEnd (t : Tick) (code unit : Nat) (s : State) : Result :=
  .next ((s.advanceTo t).quietEnd code unit)

/-- REFRESH_WINDOW_START (R70, R72). -/
def execRefreshWindowStart (t : Tick) (s : State) : Result := .next (s.advanceTo t).refBegin

/-- REFRESH_WINDOW_END (R71). -/
def execRefreshWindowEnd (t : Tick) (s : State) : Result := .next (s.advanceTo t).refEnd

end Sys2Proof.Machine
end

