-- ==== Sys2Proof/Machine/RegRead.lean ====
section
/-! DEFINITION. Reading a register: stored words, words computed from the units' state, RC and latched words (R3, R13,
R15, R75, R527, R619). -/

namespace Sys2Proof.Machine

/-! ### Words computed from the state -/

/-- Word `i` of a 96-bit time. -/
def timeWord (t i : Nat) : Nat := pack96 t / 2 ^ (32 * i) % 2 ^ 32

/-- Eight queue fills, one to a byte. -/
def fills (c : Cell) (base : Nat) : Nat :=
  (List.range 8).foldl (fun v i => v + (c.queue (base + i)).length * 2 ^ (8 * i)) 0

/-- The state code of CL_PLANE_STAT (R122, R577). -/
def Plane.code (v : Plane) : Nat :=
  if v.st == .faulted then 4
  else if v.dbg && !v.step then 3
  else match v.st with | .idle => 0 | .running => 1 | .waiting => 2 | .halted => 3 | .faulted => 4

/-- The word of a cell's block at offset `r`. -/
def State.viewCL (s : State) (n r o : Nat) : Nat :=
  let c := s.cell n
  if r = 4 then
    let run := (List.range 4).any fun p => (c.plane p).code == 1 || (c.plane p).code == 2
    s.reg o &&& 0x14 ||| (b2n run + 2 * b2n (s.drained n) + 8 * b2n (s.rb (clB n + 0x40) 31))
  else if r = 0x20 ∨ r = 0x24 then fills c 0 / 2 ^ (8 * (r - 0x20)) % 2 ^ 32
  else if r = 0x28 ∨ r = 0x2C then fills c 16 / 2 ^ (8 * (r - 0x28)) % 2 ^ 32
  else if r = 0x30 then
    (c.mqq 0).length + (c.mqq 1).length * 2 ^ 8 + (c.queue 8).length * 2 ^ 16 + (c.queue 9).length * 2 ^ 24
  else if 0x60 ≤ r ∧ r ≤ 0x6C then let v := c.plane ((r - 0x60) / 4); v.pc + v.code * 2 ^ 10
  else if r = 0x88 ∨ r = 0x8C then s.indRead n / 2 ^ (8 * (r - 0x88)) % 2 ^ 32
  else s.reg o

/-- ROW_OK of a map entry: cleared in the entries of a row group with two or more failed cells, and in every entry of a row
with a failed switch point (R82, R83, R130). -/
def State.rowOk (s : State) (i : Nat) : Bool :=
  let row := i / 96
  let g := i % 96 / 24
  let bad := (List.range 25).filter fun k =>
    let n := row * 100 + 25 * g + k
    s.rb (clB n + 4) 2 || s.fuse.cellOff.contains n
  let swBad := (s.fuse.switchOff ++ s.lat.switchBad).any fun n => n / 100 == row
  decide (bad.length < 2) && !swBad

/-- The word of a context's block at offset `r`. -/
def State.viewCX (s : State) (ctx r o : Nat) : Nat :=
  if r = 4 then setFld (s.reg o) 2 0 (s.cxView ctx)
  else if 0x30 ≤ r ∧ r ≤ 0x38 then timeWord (unpack96 (s.reg96 (cxB ctx + 0x30))) ((r - 0x30) / 4)
  else s.reg o

/-- A template's bytes would reach past the end of template memory (R418). -/
def State.tplPast (s : State) (t : Nat) : Bool :=
  decide (2 ^ 20 < s.rf (0x692004 + 0x10 * t) 13 0 * 64 + s.rf (0x692000 + 0x10 * t) 13 0)

/-- The word of an engine's block. -/
def State.viewEng (s : State) (e o : Nat) : Nat :=
  let r := o - engB e
  if r = 4 then setFld (s.reg o) 0 0 (b2n (s.engine e).busy.isSome)
  else if r = 0x18 ∨ r = 0x1C then
    let add := if (s.engine e).busy.isSome then s.nsPast (s.engine e).since else 0
    (s.reg64 (engB e + 0x18) + add) / 2 ^ (8 * (r - 0x18)) % 2 ^ 32
  else if 0x1000 ≤ r ∧ r < 0x1000 + 0x100 * engCtxs e then s.viewCX (engFirst e + (r - 0x1000) / 0x100) (r % 0x100) o
  else if e = 10 ∧ 0x200 ≤ r ∧ r < 0x300 then
    let t := s.strm ((r - 0x200) / 0x40)
    if r % 0x40 = 0 then setFld (s.reg o) 1 0 (if t.stopping then 2 else if t.running then 1 else 0)
    else if r % 0x40 = 4 then t.fill
    else if r % 0x40 = 0x10 ∨ r % 0x40 = 0x14 then
      (s.reg64 (o / 8 * 8) + (if t.bp.isSome then t.bpPast s.sn else 0)) / 2 ^ (8 * (r % 8)) % 2 ^ 32
    else s.reg o
  else if e = 9 ∧ 0x2000 ≤ r ∧ r < 0x2400 ∧ r % 0x10 = 0 then
    if s.tplPast ((r - 0x2000) / 0x10) then setFld (s.reg o) 23 23 0 else s.reg o
  else s.reg o

/-- The sum of RD_SHARE (or WR_SHARE) over the valid regions of DRAM, or of the Shared Store. -/
def State.shares (s : State) (ss wr : Bool) : Nat :=
  ((List.range 64).map fun n =>
    let b := rgB n
    if s.rb (b + 0x10) 0 && (decide (0x2000000000 ≤ s.reg64 b) == ss) then
      (if wr then s.rf (b + 0x14) 24 16 else s.rf (b + 0x14) 8 0)
    else 0).sum

/-- Some unit is debug-halted. -/
def State.haltedAny (s : State) : Bool :=
  (s.lat.cells.any fun e => e.2.halted) || s.eng.ctxs.any fun e => e.2.dbg

/-- DB_TSTATE of DB_TARGET; a refused command is stored as 3. -/
def State.dbTarget (s : State) : Nat :=
  let t := s.reg 0x50008
  let ctx := s.rf 0x5000C 4 4 == 1
  let v := (s.cell (fld t 12 0)).plane (fld t 14 13)
  let c := s.cx (fld t 12 0)
  let st := if s.rf 0x5000C 1 0 = 3 then 3
    else if ctx then (if c.step then 2 else b2n c.dbg) else (if v.step then 2 else b2n v.dbg)
  let b := if ctx then s.cxBind (fld t 12 0) else s.clBind (fld t 12 0)
  st + 4 * b2n (s.isPaused b && s.dbg.frozen.contains b)

/-- RATE of a front lane's LN_CFG, in units of 16 Mb/s: 106.25 Gb/s at 100GbE and 212.5 Gb/s at any other rate of the port
that has the lane (R375, R378, R379). -/
def State.frontRate (s : State) (lane : Nat) : Nat :=
  let p := (lane - 160) / 4
  if s.rf (emB (if s.absorbed p then p - 1 else p) + 4) 7 5 = 0 then 6640 else 13281

/-- The engine whose block holds an offset. -/
def engAt (o : Nat) : Option Nat :=
  if 0x3C0000 ≤ o ∧ o < 0x3C8000 then some 10
  else if 0x600000 ≤ o ∧ o < 0x6A0000 then (if o < 0x698000 then some ((o - 0x600000) / 0x10000) else none)
  else if 0x6A0000 ≤ o ∧ o < 0x6E0000 then some (11 + (o - 0x6A0000) / 0x10000)
  else none

/-- The present value of the word at a BAR0 offset in a unit that is present and powered. -/
def State.view (s : State) (o : Nat) : Nat :=
  if o < 0x10000 then
    if 0x20 ≤ o ∧ o < 0x30 then s.cap ((o - 0x20) / 4)
    else if o = 0x80 then setFld (setFld (s.reg o) 0 0 (b2n s.pin.pwrGood)) 13 13 (b2n s.pin.thermtrip)
    else s.reg o
  else if o < 0x1E000 then
    let d := (o - 0x10000) / 0x100
    if o % 0x100 = 4 then
      setFld (if s.domFused d then setFld (s.reg o) 1 0 3 else s.reg o) 3 3 (b2n (s.rv.queue.any fun e => engDom e == d))
    else s.reg o
  else if o < 0x20000 then
    if o = 0x1E010 ∨ o = 0x1E014 then
      let add := match s.pwr.pacedFrom with | some t => s.nsPast t | none => 0
      (s.reg64 0x1E010 + add) / 2 ^ (8 * (o - 0x1E010)) % 2 ^ 32
    else s.reg o
  else if o < 0x30000 then
    if o = 0x20004 then s.tbStatus
    else if 0x20010 ≤ o ∧ o ≤ 0x20018 then timeWord s.sn ((o - 0x20010) / 4)
    else if o = 0x20020 ∨ o = 0x20024 then ticks64 s.clk.resid / 2 ^ (8 * (o - 0x20020)) % 2 ^ 32
    else if 0x20108 ≤ o ∧ o ≤ 0x20110 then timeWord s.refNextStart ((o - 0x20108) / 4)
    else s.reg o
  else if o < 0x40000 then s.reg o
  else if o < 0x50000 then
    if 0x48000 ≤ o then
      ofLe ((List.range 4).map fun i => if o - 0x48000 + i < s.reg 0x400C0 then Config.certByte (o - 0x48000 + i) else 0)
    else if o = 0x40000 then setFld (s.reg o) 1 1 (b2n s.fuse.zeroised)
    else if o = 0x40008 then s.fuse.svn
    else if o = 0x4000C then s.fuse.tamper
    else if 0x40040 ≤ o ∧ o < 0x40080 then
      if s.rb 0x40000 2 then ofLe ((List.range 4).map fun i => idPublicKey.getD (o - 0x40040 + i) 0) else 0
    else s.reg o
  else if o < 0x80000 then
    if o = 0x50000 then b2n s.haltedAny + 2 * b2n s.holdsPins
    else if o = 0x5000C then s.dbTarget
    else if 0x50100 ≤ o ∧ o < 0x50500 ∧ 0x20 ≤ o % 0x40 ∧ o % 0x40 < 0x3C then
      let b := o / 0x40 * 0x40 + (if o % 0x40 < 0x30 then 0x20 else 0x30)
      if o - b < 12 then timeWord (unpack96 (s.reg96 b)) ((o - b) / 4) else s.reg o
    else s.reg o
  else if o < 0x100000 then
    if o = 0x80000 then setFld (s.reg o) 9 9 (b2n s.fuse.hostless)
    else if o = 0x80028 then s.host.events.length + s.host.faults.length * 2 ^ 16
    else
      let r := if o = 0x80818 then some 128 else if o = 0x80858 then some 129
        else if 0x81000 ≤ o ∧ o < 0x83000 ∧ o % 0x40 = 0x18 then some ((o - 0x81000) / 0x40) else none
      match r with
      | some n => setFld (s.reg o) 8 0 (min 256 (s.ring n).descs.length)
      | none => s.reg o
  else if o < 0x180000 then
    let p := (o - 0x100000) / 0x10000
    let r := o % 0x10000
    if r = 4 then (if s.absorbed p then 2 else s.reg o)
    else if s.absorbed p then 0
    else if r = 0x1A0 ∨ r = 0x1A4 ∨ r = 0x1A8 ∨ r = 0x1AC then
      let add := match if r < 0x1A8 then (s.ep p).lpiTx else (s.ep p).lpiRx with
        | some t => s.nsPast t
        | none => 0
      min (2 ^ 64 - 1) (s.reg64 (o / 8 * 8) + add) / 2 ^ (8 * (r % 8)) % 2 ^ 32
    else s.reg o
  else if o < 0x2A0000 then s.reg o
  else if o < 0x2C0000 then
    if o % 0x1000 = 8 then setFld (s.reg o) 14 0 (s.frontRate ((o - 0x200000) / 0x1000)) else s.reg o
  else if o < 0x3C0000 then s.reg o
  else if o < 0x3C8000 then s.viewEng 10 o
  else if o < 0x540000 then s.reg o
  else if o < 0x600000 then
    if o = 0x54000C then (s.nen.outst.filter fun q => !q.held).length
    else if o = 0x540010 then (s.nen.outst.filter fun q => q.held).length
    else s.reg o
  else if o < 0x6E0000 then match engAt o with | some e => s.viewEng e o | none => s.reg o
  else if o = 0x6E000C then 256 - s.shares false false + (256 - s.shares false true) * 2 ^ 16
  else if o = 0x6E0010 then 256 - s.shares true false + (256 - s.shares true true) * 2 ^ 16
  else if o < 0x800000 then s.reg o
  else if o < 0xE40000 then s.viewCL ((o - 0x800000) / 0x400) (o % 0x400) o
  else if 0xF00000 ≤ o ∧ o < 0xF06000 then setFld (s.reg o) 10 10 (b2n (s.rowOk ((o - 0xF00000) / 4)))
  else s.reg o

/-- Clove holds the engine whose block holds an offset (R497). -/
def State.cloveAt (s : State) (o : Nat) : Bool :=
  match engAt o with
  | some e => s.rv.queue.contains e
  | none => false

/-! ### Writes that wait for a template (R422) -/

/-- A reply or cancel held in a holding stage uses a template. -/
def State.tplUsed (s : State) (t : Nat) : Bool := s.pa.replies.any fun r => r.state == .held && r.tpl == t

/-- The template that a directory or patch entry belongs to. -/
def tplOf (o : Nat) : Option Nat :=
  if 0x692000 ≤ o ∧ o < 0x692400 then some ((o - 0x692000) / 0x10)
  else if 0x693000 ≤ o ∧ o < 0x694000 then some ((o - 0x693000) / 0x40)
  else none

/-- Writes whose template has become free take effect, in order. -/
def State.paFlush (s : State) : State :=
  let used (w : Nat × Nat) : Bool := match tplOf w.1 with | some t => s.tplUsed t | none => false
  let s' := (s.pa.waiting.filter fun w => !used w).foldl (fun s w => s.setReg w.1 w.2) s
  { s' with pa := { s'.pa with waiting := s'.pa.waiting.filter used } }

/-! ### Reading (R15, R16, R75, R527) -/

/-- The value of a register that a read clears: what it counted before the present instant (R16). -/
def State.rcValue (s : State) (w : RegWord) : Nat :=
  ((List.range w.words).map fun j => s.view (w.first + 4 * j) * 2 ^ (32 * j)).sum - s.rcFresh w.first w.words

/-- The instant from which a counter that runs goes on after a read of it: what it counts at the read itself is seen by the
next one (R16). -/
def State.rcFrom (s : State) (from_ : Tick) : Tick := max from_ (s.clk.now - 1)

/-- A register that a read clears holds what it counted in the present instant (R16). -/
def State.rcReset (s : State) (w : RegWord) : State :=
  let v := s.rcFresh w.first w.words
  (List.range w.words).foldl (fun s j =>
    let o := w.first + 4 * j
    let s := s.setReg o (v / 2 ^ (32 * j))
    { s with rcOld := (Sparse.get (fun _ => none) s.rcOld o).elim s.rcOld fun _ => Sparse.set (fun _ => none) s.rcOld o (some 0) }) s

/-- Clear an RC register, with what it is counted from. -/
def State.clearRc (s : State) (w : RegWord) : State :=
  let f := w.first
  let s := s.rcReset w
  let s := if f = 0x1E010 then { s with pwr := { s.pwr with pacedFrom := s.pwr.pacedFrom.map s.rcFrom } } else s
  let s := if 0x100000 ≤ f ∧ f < 0x180000 ∧ (f % 0x10000 = 0x1A0 ∨ f % 0x10000 = 0x1A8) then
      let p := (f - 0x100000) / 0x10000
      let e := s.ep p
      if f % 0x10000 = 0x1A0 then s.setEp p { e with lpiTx := e.lpiTx.map s.rcFrom }
      else s.setEp p { e with lpiRx := e.lpiRx.map s.rcFrom }
    else s
  let s := if 0x3C0200 ≤ f ∧ f < 0x3C0300 ∧ f % 0x40 = 0x10 then
      let n := (f - 0x3C0200) / 0x40
      let t := s.strm n
      s.setStrm n { t with bpFrom := t.bpFrom + t.bpPast s.sn * grain }
    else s
  match engAt f with
  | some e => if f = engB e + 0x18 then s.setEngine e { s.engine e with since := s.rcFrom (s.engine e).since } else s
  | none => s

/-- A word whose read latches the words above it: a 64-bit RC register's low word, TB_NOW and TB_REF_NEXT. -/
def latches (w : RegWord) : Bool := (w.rc && w.words == 2) || w.first == 0x20010 || w.first == 0x20108

/-- A word of the block of an absorbed port (R379). -/
def State.hidden (s : State) (o : Nat) : Bool :=
  decide (0x100000 ≤ o) && decide (o < 0x180000) && s.absorbed ((o - 0x100000) / 0x10000)

/-- Read one 32-bit word. -/
def State.readWord (s : State) (o : Nat) : State × Nat :=
  match regWord o with
  | none => (s, 0)
  | some w =>
    if !s.blockOn o then (s, 0)
    else if s.cloveAt o then (s, (Sparse.get regReset s.rv.snap o).toNat)
    else if s.hidden o then (s, s.view o)
    else if latches w && o != w.first then (s, (Sparse.get (fun _ => 0) s.latch o).toNat)
    else
      let all := s.rcValue w
      let word (j : Nat) : Nat := if w.rc then all / 2 ^ (32 * j) % 2 ^ 32 else s.view (o + 4 * j)
      let put (s : State) (j : Nat) : State :=
        { s with latch := Sparse.set (fun _ => 0) s.latch (o + 4 * j) (BitVec.ofNat 32 (word j)) }
      let v := if o = w.first then word 0 else s.view o
      let s := if latches w then ((List.range w.words).drop 1).foldl put s else s
      (if w.rc && o == w.first then s.clearRc w else s, v)

/-- Read the words of an access in ascending order; a whole 64-bit register is read at one instant (R527, R228). -/
def State.readWords (s : State) (o : Nat) : Nat → State × List Byte
  | 0 => (s, [])
  | n + 1 =>
    let pair : Bool := match regWord o with
      | some w => w.words == 2 && o == w.first && decide (1 ≤ n) && !s.cloveAt o && s.blockOn o && !s.hidden o
      | none => false
    let a := s.readWord o
    if pair then
      let high : Nat := match regWord o with
        | some w => if w.rc then s.rcValue w / 2 ^ 32 else s.view (o + 4)
        | none => 0
      match n with
      | 0 => (a.1, leBytes 4 a.2)
      | m + 1 =>
        let r := a.1.readWords (o + 8) m
        (r.1, leBytes 4 a.2 ++ leBytes 4 high ++ r.2)
    else
      let r := a.1.readWords (o + 4) n
      (r.1, leBytes 4 a.2 ++ r.2)

/-- A BAR0 read: 4, 8 or 16 bytes aligned to its width; any other reads zeros (R527). -/
def State.readReg (s : State) (o width : Nat) : State × List Byte :=
  if (width = 4 ∨ width = 8 ∨ width = 16) ∧ o % width = 0 then s.readWords o (width / 4) else (s, List.replicate width 0)

/-- REGISTER_READ_CLEAR (R15). -/
def execRegisterReadClear (t : Tick) (off width : Nat) (s : State) : Result :=
  let r := ((s.advanceTo t).paFlush).readReg off width
  .next { r.1 with bus := ofLe r.2 }

end Sys2Proof.Machine
end

