-- ==== Sys2Proof/Machine/MemCore.lean ====
section
/-! DEFINITION. The local address map, the regions, and the contents of DRAM, Shared Store, cell SRAM, dispatch slots and
host memory with their error states (R226 to R244, R255, R265). -/

namespace Sys2Proof.Machine

/-! ### Where an offset lies (R226, R227, R232, R255, R551) -/

/-- The target of a local offset. -/
inductive Target where
  /-- A present DRAM stack. -/
  | dram (stack : Nat)
  /-- The Shared Store. -/
  | store
  /-- A cell's SRAM. -/
  | sram (cell : Nat)
  /-- A BAR0 offset. -/
  | regs (off : Nat)
  /-- An offset in the window of a present context. -/
  | disp (win off : Nat)
  /-- Host memory. -/
  | host
  /-- The window of an absent context. -/
  | absent (win : Nat)
  /-- Nothing. -/
  | unmapped
  deriving DecidableEq, Repr

/-- Offset of a dispatch window. -/
def winAt (win off : Nat) : Nat := 0x2300000000 + win * 0x20000 + off

/-- The DRAM stack of an offset (R232). -/
def State.stackOf (s : State) (a : Nat) : Nat :=
  let n := s.fuse.grade.stacks
  a / 512 % (32 * n) % n

/-- The target of a local offset. -/
def State.target (s : State) (a : Nat) : Target :=
  if a < 0x2000000000 then
    if a < s.fuse.grade.stacks * 2 ^ 33 ∧ s.stackOn (s.stackOf a) then .dram (s.stackOf a) else .unmapped
  else if a < 0x2006000000 then (if s.domOn 17 then .store else .unmapped)
  else if 0x2100000000 ≤ a ∧ a < 0x2119000000 then
    let k := a - 0x2100000000
    if k % 0x10000 < 0xC000 ∧ s.cellOn (k / 0x10000) then .sram (k / 0x10000) else .unmapped
  else if 0x2200000000 ≤ a ∧ a < 0x2204000000 then .regs (a - 0x2200000000)
  else if 0x2300000000 ≤ a ∧ a < 0x2301000000 then
    let k := a - 0x2300000000
    let w := k / 0x20000
    if w < 100 then (if s.engOn (engineOf w) then .disp w (k % 0x20000) else .absent w) else .unmapped
  else if 0x800000000000 ≤ a ∧ a < 0x1000000000000 then (if s.rb 0x80000 0 ∧ s.domOn 28 then .host else .unmapped)
  else .unmapped

/-- A read of the target answers UNMAPPED. -/
def Target.noRead : Target → Bool
  | .unmapped => true
  | .absent _ => true
  | _ => false

/-! ### Regions (R239 to R243) -/

/-- The valid region that holds a local offset. -/
def State.regionOf (s : State) (a : Nat) : Option Nat :=
  (List.range 64).find? fun n => s.rb (rgB n + 0x10) 0 && decide (s.reg64 (rgB n) ≤ a) && decide (a < s.reg64 (rgB n + 8))

/-- The target answers EPOCH_MISMATCH (R240). -/
def State.staleAt (s : State) (a bind epoch : Nat) : Bool :=
  match s.regionOf a with
  | none => false
  | some n =>
    let b := s.rf (rgB n + 0x10) 15 8
    b == bind && b != 0 && s.rf (rgB n + 0x10) 23 16 != epoch

/-- The class of the DRAM region that holds an offset: 0 = SCRATCH; 1 = MIRRORED; 2 = REPLICATED. -/
def State.classAt (s : State) (a : Nat) : Nat :=
  match s.regionOf a with
  | none => 0
  | some n => if a < 0x2000000000 then s.rf (rgB n + 0x10) 2 1 else 0

/-! ### Errors of DRAM words and poisoned granules (R233, R265) -/

/-- The granule of an offset is marked. -/
def State.marked (s : State) (a : Nat) : Bool := s.mem.poison.contains (a / 16)

/-- Set or clear the marker of a granule. -/
def State.setMark (s : State) (a : Nat) (on : Bool) : State :=
  let g := a / 16
  let l := if on then NatSet.insert s.mem.poison g else s.mem.poison.filter fun x => x != g
  { s with mem := { s.mem with poison := l } }

/-- The error state of the 64-bit word of an offset. -/
def State.eccAt (s : State) (a : Nat) : Option Bool := Sparse.get (fun _ => none) s.mem.ecc (a / 8)
def State.setEcc (s : State) (a : Nat) (v : Option Bool) : State :=
  { s with mem := { s.mem with ecc := Sparse.set (fun _ => none) s.mem.ecc (a / 8) v } }

/-- A corrected single-bit error of a stack. -/
def State.countCe (s : State) (stack : Nat) : State := (s.inc (dmB stack + 8)).lfCount (0x80 + 4 * stack)

/-- A detected double-bit error at an offset. -/
def State.countUe (s : State) (stack a : Nat) : State :=
  (((s.inc (dmB stack + 0xC)).setReg64 (dmB stack + 0x10) a).lfCount 0xC0).event Code.DRAM_UE stack (leBytes 8 a)

/-- Read one word of DRAM: true when its data are poison. -/
def State.readEcc (s : State) (stack a : Nat) : State × Bool :=
  match s.eccAt a with
  | none => (s, false)
  | some false => (s.countCe stack, false)
  | some true => (s.countUe stack (a / 8 * 8), true)

/-! ### Refresh windows (R71) -/

/-- A refresh window is in progress. -/
def State.inRefresh (s : State) : Bool :=
  decide (s.sn < gridAt (s.rb 0x20100 0) s.sn + refLen) || (s.clk.refOn && decide (s.sn < s.clk.refStart + refLen))

/-- The start of the window in progress. -/
def State.refFrom (s : State) : Nat :=
  if s.clk.refOn ∧ s.sn < s.clk.refStart + refLen then s.clk.refStart else gridAt (s.rb 0x20100 0) s.sn

/-- A read at an offset waits for the end of a refresh window. -/
def State.dramHeld (s : State) (a : Nat) : Bool :=
  s.inRefresh && (match s.target a with | .dram _ => true | _ => false)

/-- The stacks that a range of DRAM touches. -/
def State.stacksOf (s : State) (a n : Nat) : List Nat :=
  ((List.range ((a % 512 + n + 511) / 512)).map fun i => s.stackOf (a / 512 * 512 + 512 * i)).eraseDups

/-! ### Requests that arrive together at the Shared Store (R231) -/

/-- The Shared Store port of a master. -/
def Issuer.port : Issuer → Nat
  | .cell _ _ _ _ => 15
  | .ctx n _ => engineOf n
  | .shadow n => engineOf n
  | .stream _ => 10
  | .mask _ => 10
  | .peer _ _ => 16
  | .debug => 18
  | .mirror i _ => i.port
  | _ => 17

/-- A byte of the Shared Store as a read from a port finds it: as it stood before a write of the same instant from another
port. -/
def State.storeByte (s : State) (port a : Nat) : Byte :=
  match s.mem.justNow.find? fun e => e.1 == a with
  | some (_, old, q) => if q = port then s.byte a else old
  | none => s.byte a

/-- Bytes of the Shared Store written from a port: of writes of one instant that of the highest port stands. -/
def State.storeWrite (s : State) (port : Nat) : Nat → List Byte → State
  | _, [] => s
  | a, b :: r =>
    let s := match s.mem.justNow.find? fun e => e.1 == a with
      | some (_, old, q) =>
        if port < q then s
        else
          let l := (s.mem.justNow.filter fun (e : Nat × Byte × Nat) => e.1 != a) ++ [(a, old, port)]
          ({ s with mem := { s.mem with justNow := l } }).setBytes a [b]
      | none => ({ s with mem := { s.mem with justNow := s.mem.justNow ++ [(a, s.byte a, port)] } }).setBytes a [b]
    s.storeWrite port (a + 1) r

/-! ### Reading -/

/-- Read the part of one granule that starts at `a`, through a port. -/
def State.readGranule (s : State) (port a n : Nat) : State × List Byte × Bool :=
  let data := s.bytesAt a n
  match s.target a with
  | .dram k =>
    let s := s.inc64 (dmB k + 0x28) n
    if s.marked a then (s.countUe k (a / 16 * 16), data, true)
    else
      let p := s.readEcc k a
      let q := if a / 8 = (a + n - 1) / 8 then (p.1, false) else p.1.readEcc k (a + n - 1)
      (q.1, data, p.2 || q.2)
  | .store => (s.inc64 0x6E0018 n, (List.range n).map fun i => s.storeByte port (a + i), s.marked a)
  | .unmapped => (s, List.replicate n 0, false)
  | .absent _ => (s, List.replicate n 0, false)
  | .regs o => let r := s.readReg o n; (r.1, r.2, false)
  | _ => (s, data, false)

/-- Read bytes of a local target, granule by granule. -/
def State.readLocal (port : Nat) : Nat → State → Nat → Nat → State × List Byte × Bool
  | 0, s, _, _ => (s, [], false)
  | f + 1, s, a, n =>
    if n = 0 then (s, [], false)
    else
      let k := min n (16 - a % 16)
      let g := s.readGranule port a k
      let r := State.readLocal port f g.1 (a + k) (n - k)
      (r.1, g.2.1 ++ r.2.1, g.2.2 || r.2.2)

/-- Granules a range of bytes touches, at most. -/
def granules (n : Nat) : Nat := n / 16 + 2

def State.readMem (s : State) (port a n : Nat) : State × List Byte × Bool := State.readLocal port (granules n) s a n

/-- Units that read as part of the chip itself, for `Mem.waits`: ring r, a measurement. -/
abbrev unitRing (r : Nat) : Nat := r
abbrev unitMeas : Nat := 130

/-- A range at a local offset is in DRAM, in a refresh window: its read waits. -/
def State.rangeHeld (s : State) (a n : Nat) : Bool := n != 0 && s.dramHeld a

/-- A unit's read waits for the end of a refresh window: DM_REFRESH_WAIT counts each stack once for the window (R71,
R248). -/
def State.unitHeld (s : State) (unit a n : Nat) : State :=
  (s.stacksOf a n).foldl (fun s k =>
    let now := s.mem.waits.filter fun (w : Nat × Nat × Nat) => w.2.2 == s.refFrom
    if now.contains (unit, k, s.refFrom) then s
    else { s with mem := { s.mem with waits := now ++ [(unit, k, s.refFrom)] } }.inc (dmB k + 0x20)) s

/-- Clove reads the words that hold some bytes of this chip: their errors are counted once a word (R233; log entry 105). -/
def State.loadWords (s : State) (offs : List Nat) : State :=
  ((offs.map (· / 8)).eraseDups).foldl (fun s w => (s.readMem 17 (8 * w) 8).1) s

/-! ### Writing -/

/-- The error states of the words a write of part of a granule covers: a word written whole is written with new check
bits; a word written in part is read, merged and written (R234). -/
def State.writeEcc (s : State) (k a n : Nat) : State :=
  let one (s : State) (w : Nat) : State :=
    match s.eccAt w with
    | none => s
    | some d =>
      if a ≤ w ∧ w + 8 ≤ a + n then s.setEcc w none
      else if d then s.countUe k w else (s.countCe k).setEcc w none
  let s := one s (a / 8 * 8)
  if a / 8 = (a + n - 1) / 8 then s else one s ((a + n - 1) / 8 * 8)

/-- What a write makes of a granule's marker: an engine clears it, or sets it with poisoned output; what another master's
write does to a marked granule the manual does not say (log entry 2). -/
def State.writeMark (s : State) (a : Nat) (engine poison : Bool) : State :=
  if engine then s.setMark a poison
  else if s.marked a then s.useFree.setMark a (s.freeVal % 2 == 1) else s

/-- Write the part of one granule that starts at `a`: DRAM, Shared Store, cell SRAM and host memory. -/
def State.writeGranule (s : State) (port a : Nat) (l : List Byte) (engine poison : Bool) : State :=
  match s.target a with
  | .dram k => (((s.inc64 (dmB k + 0x30) l.length).writeEcc k a l.length).writeMark a engine poison).setBytes a l
  | .store => ((s.inc64 0x6E0020 l.length).writeMark a engine poison).storeWrite port a l
  | .sram _ => s.setBytes a l
  | .host => s.setBytes a l
  | _ => s

/-- Write bytes to a local target, granule by granule. -/
def State.writeLocal (port : Nat) : Nat → State → Nat → List Byte → Bool → Bool → State
  | 0, s, _, _, _, _ => s
  | _, s, _, [], _, _ => s
  | f + 1, s, a, l, engine, poison =>
    let k := 16 - a % 16
    State.writeLocal port f (s.writeGranule port a (l.take k) engine poison) (a + k) (l.drop k) engine poison

def State.writeMem (s : State) (port a : Nat) (l : List Byte) (engine poison : Bool) : State :=
  State.writeLocal port (granules l.length) s a l engine poison

/-- A write of one of this chip's engines. -/
def Issuer.engine : Issuer → Bool
  | .ctx _ _ => true
  | .shadow _ => true
  | .mirror (.ctx _ _) _ => true
  | .mirror (.shadow _) _ => true
  | _ => false

end Sys2Proof.Machine
end

