-- ==== Sys2Proof/Machine/Engine.lean ====
section
/-! DEFINITION. Contexts and their sequencers: dispatch windows, commands, arbitration, timeouts, faults, shadows, the
sequencer instructions, and CX_CTRL (R250 to R272, R298 to R301, R623). -/

namespace Sys2Proof.Machine

/-! ### The instruction word (R250, R253, R254) -/

def opE (w : Nat) : Nat := fld w 127 120
def ctxE (w : Nat) : Nat := fld w 119 112
def sealE (w : Nat) : Bool := opE w == 0x01 || bit w 96
def irqE (w : Nat) : Bool := bit w 97
def satfpE (w : Nat) : Bool := bit w 98
def timedE (w : Nat) : Bool := bit w 99
def opfE (w : Nat) : Nat := fld w 111 104
def timeE (w : Nat) : Nat := fld w 95 64
def operE (w : Nat) : Nat := fld w 63 0

/-- Slots of a window. -/
abbrev slots : Nat := 8192

/-- The instruction in a slot. -/
def State.slotWord (s : State) (ctx i : Nat) : Nat := s.leMem (winAt ctx (16 * (i % slots))) 16

/-- CX_HEAD. -/
def State.cxHead (s : State) (n : Nat) : Nat := s.rf (cxB n + 0x18) 12 0

/-- Clove holds an engine, and a context of it does not run a replay (R497, R507). -/
def State.cloveHolds (s : State) (n : Nat) : Bool := s.rv.queue.contains (engineOf n) && s.rv.replay != some n

/-- The context executes: RUNNING or WAITING, or a replay of Clove's. -/
def State.cxLive (s : State) (n : Nat) : Bool :=
  (s.cxState n == 1 || s.cxState n == 2 || (s.cxState n == 5 && s.rv.replay == some n)) && !s.cloveHolds n

/-- An instruction in progress when Clove took the engine runs on to its completion (R500). -/
def State.cxDrains (s : State) (n : Nat) : Bool := s.cloveHolds n && (s.cx n).phase == .reading

/-- STATE follows the sequencer, except in a replay, where it stays CLOVE. -/
def State.setRun (s : State) (n v : Nat) : State := if s.cxState n = 5 then s else s.setCxState n v

/-! ### Writes of a context, and the shadow (R259 to R261) -/

/-- A request is a write of a context's instructions, or the duplicate of one (R244). -/
def Issuer.ofCtx (n : Nat) : Issuer → Bool
  | .ctx c _ => c == n
  | .mirror (.ctx c _) _ => c == n
  | _ => false

/-- Writes of a context that are not yet visible: waiting at a target, on the fabric, or held for their launch. -/
def State.cxWrites (s : State) (n : Nat) : Bool :=
  (s.mem.inflight.any fun r => r.write && r.issuer.ofCtx n) || (s.nen.outst.any fun o => o.req.write && o.req.issuer.ofCtx n) ||
  (s.stages.any fun e => (e.2.held ++ e.2.wait).any fun h => match h.origin with | .ctx c _ _ => c == n | _ => false)

/-- The shadow of a context, with STATUS, if CX_CFG.SHADOW_EN asks for it. -/
def State.shadow (s : State) (n status : Nat) : State :=
  let b := cxB n
  if s.rb (b + 0xC) 6 then
    let l := leBytes 4 (s.reg (b + 0x1C)) ++ leBytes 4 (s.reg (b + 0x20)) ++ leBytes 2 status ++ leBytes 1 (s.cxEpoch n) ++ [0, 0, 0, 0, 0]
    s.issue { id := 0, issuer := .shadow n, addr := s.reg64 (b + 0x10), write := true, data := l, bind := s.cxBind n, epoch := s.cxEpoch n }
  else s

/-- Release the slots of the present command. -/
def State.releaseSlots (s : State) (n status : Nat) : State :=
  let s := s.settleCx n
  let c := s.cx n
  let b := cxB n
  let h := s.cxHead n
  let s := s.setCx n { c with present := c.present.filter fun i => decide (c.len ≤ (i + slots - h) % slots)
                              phase := .none, len := 0, irq := false, timeout := 0, ran := 0, deadline := none, waitq := none
                              cache := [], cmdMem := none, insMem := none, atEnd := [], refWaits := [], pollHeld := false }
  let s := (s.setRf (b + 0x18) 12 0 (h + c.len)).setReg (b + 0x1C) (s.reg (b + 0x1C) + c.len)
  s.shadow n status

/-- Issue the write of an engine's output. -/
def State.engWrite (s : State) (n a : Nat) (l : List Byte) (poison : Bool) (fenced : Bool := false) : State :=
  let r : MemReq := { id := 0, issuer := .ctx n (s.cx n).slot, addr := a, write := true, bind := s.cxBind n, epoch := s.cxEpoch n
                      poison := poison, fenced := fenced }
  State.issueCut r l.length s (a % 2 ^ 64) l

/-! ### The engine's datapath (R262, R298) -/

/-- The engine is no longer busy with a context's instruction. -/
def State.freeEngine (s : State) (n : Nat) : State :=
  let e := engineOf n
  if (s.engine e).busy = some n then
    let s := s.settleNs (engB e + 0x18) (s.engine e).since
    s.setEngine e { s.engine e with busy := none }
  else s

/-- No stop of CX_CTRL waits for the boundary; a replay of Clove's heeds none. -/
def State.cxFree (s : State) (n : Nat) : Bool := (s.cx n).stopReq % 4 == 0 || s.rv.replay == some n

/-- An instruction of the engine can start in a context. -/
def State.cxReady (s : State) (n : Nat) : Bool :=
  let c := s.cx n
  s.cxLive n && c.phase == .ready && (!c.dbg || c.step) && s.cxFree n && decide (16 ≤ opE (s.slotWord n c.slot))

/-- The context the engine takes next: PRIO = 1 before PRIO = 0, round robin among each. -/
def State.arbiter (s : State) (e : Nat) : Option Nat :=
  let k := engCtxs e
  let pick (prio : Bool) (last : Nat) : Option Nat :=
    (((List.range k).map fun i => engFirst e + (last + 1 + i) % k).find? fun n => s.cxReady n && s.rb (cxB n + 0xC) 7 == prio)
  (pick true (s.engine e).rrHi).or (pick false (s.engine e).rrLo)

/-- The engine takes a context's instruction. -/
def State.takeEngine (s : State) (n : Nat) : State :=
  let e := engineOf n
  let g := s.engine e
  let i := n - engFirst e
  if g.busy = some n then s
  else s.setEngine e { g with busy := some n, since := s.clk.now, rrHi := if s.rb (cxB n + 0xC) 7 then i else g.rrHi
                              rrLo := if s.rb (cxB n + 0xC) 7 then g.rrLo else i }

/-! ### Reset of a context, and what happens at an instruction boundary (R301, R328, R578, R623) -/

/-- RESET takes effect: issued writes have completed.  A debug halt ends (R581).  Slots that were present are released, and
the shadow follows; its STATUS for a reset is not stated, so it is a free value (R259, R260; log entry 25). -/
def State.resetCxNow (s : State) (n : Nat) : State :=
  let b := cxB n
  let had := !(s.cx n).present.isEmpty
  let s := s.setCx n { present := [], loops := [], ranAt := s.clk.now }
  let s := (((s.setReg (b + 0x18) 0).setReg (b + 0x1C) 0).setReg (b + 0x20) 0).setReg96 (b + 0x30) 0
  let s := ((s.setCxState n 0).freeEngine n).repause
  let s := if had then s.useFree.shadow n (s.freeVal % 2 ^ 16) else s
  if 64 ≤ n ∧ n < 68 then s.setStrm (n - 64) { s.strm (n - 64) with running := false, stopping := false } else s

/-- A pending RESET takes effect once no instruction is in progress and no write is in flight. -/
def State.tryReset (s : State) (n : Nat) : State :=
  let c := s.cx n
  if bit c.stopReq 1 && c.phase != .busy && c.phase != .reading && !s.cxWrites n then s.resetCxNow n else s

/-- Pending RESETs take effect where a launched copy was all they waited for (R301). -/
def State.settleResets (s : State) : State :=
  ((List.range 100).filter fun n => bit (s.cx n).stopReq 1).foldl State.tryReset s

/-- An instruction boundary: pending stops take effect, a step ends, and the next instruction becomes current. -/
def State.cxBoundary (s : State) (n : Nat) : State :=
  let s := s.settleCx n
  let c := s.cx n
  let replay := s.rv.replay == some n
  let s := if replay then s else s.setCx n { c with step := false, stopReq := c.stopReq &&& 2 }
  if replay then (if c.phase = .ready then s.bpCheck 2 n c.slot (s.cxBind n) s.sn else s)
  else if bit c.stopReq 1 then s.tryReset n
  else
    let s := if bit c.stopReq 0 then s.setRun n 3 else s.setRun n 1
    let s := if bit c.stopReq 2 then s.holdCx n else s
    if c.phase = .ready then s.bpCheck 2 n c.slot (s.cxBind n) s.sn else s

/-- The sequencer moves on to a slot. -/
def State.gotoSlot (s : State) (n slot : Nat) : State :=
  (s.setCx n { s.cx n with slot := slot, phase := .ready, deadline := none, waitq := none, cache := [], insMem := none
                           refWaits := [], pollHeld := false }).cxBoundary n

/-- The sequencer moves past the present slot; past the last one the command waits for its writes. -/
def State.nextSlot (s : State) (n : Nat) : State :=
  let c := s.cx n
  if (c.slot + slots - s.cxHead n) % slots + 1 = c.len then
    (s.setCx n { c with phase := .sealed, deadline := none, waitq := none, cache := [], insMem := none, refWaits := []
                        pollHeld := false }).cxBoundary n
  else s.gotoSlot n ((c.slot + 1) % slots)

/-! ### Faults (R264, R474) -/

/-- A context faults; one that has faulted, or has no command, takes no fault. -/
def State.cxFault (s : State) (n code slot : Nat) (addr : Option Nat := none) (arg : Nat := 0) : State :=
  if s.cxState n = 4 then s
  else
    let s := (s.settleCx n).freeEngine n
    let c := s.cx n
    let s := s.setCx n { c with phase := if c.phase = .none then .none else .ready, deadline := none, waitq := none, cache := []
                                insMem := none, atEnd := [], refWaits := [], pollHeld := false, dbg := false, step := false
                                stopReq := c.stopReq &&& 2 }
    let s := s.setReg (cxB n + 0x28) (code + slot % slots * 2 ^ 16 + 2 ^ 31)
    let s := if s.cxState n = 5 then s else s.setCxState n 4
    let s := if s.rv.replay = some n then
        ({ s.setCx n { s.cx n with guilty := true } with rv := { s.rv with replay := none } }).setRf 0x30004 18 12 0 else s
    let s := s.fault { code := code, origin := 1, bind := s.cxBind n, epoch := s.cxEpoch n, ctx := some n, pc := slot % slots
                       arg := arg, addr := addr }
    (s.shadow n code).tryReset n

/-- The answer to a request of a context is an error: the fault of the instruction that issued it, while its command
lasts (R227, R264, R440). -/
def State.cxAnswerFault (s : State) (n slot code : Nat) (addr : Nat) : State :=
  let c := s.cx n
  if c.phase ≠ .none ∧ (slot + slots - s.cxHead n) % slots < c.len then s.cxFault n (answerFault code) slot (if code = Code.ENGINE_ABSENT then none else some addr) else s

/-! ### Commands (R257, R259, R261) -/

/-- Slots from CX_HEAD to the first sealing point, when every one of them is present. -/
def State.cmdLen (s : State) (n : Nat) (present : List Nat) (h : Nat) : Nat → Nat → Option Nat
  | 0, _ => none
  | f + 1, k =>
    let i := (h + k) % slots
    if !present.contains i then none
    else if sealE (s.slotWord n i) then some (k + 1)
    else s.cmdLen n present h f (k + 1)

/-- A full window without a sealing point. -/
def State.unsealed (s : State) (n : Nat) : Bool :=
  (s.cx n).present.length == slots && !((List.range slots).any fun i => sealE (s.slotWord n i))

/-- The context is free to start a command. -/
def State.cxIdle (s : State) (n : Nat) : Bool :=
  s.engOn (engineOf n) && s.cxState n == 0 && (s.cx n).phase == .none && !(s.cx n).dbg && !s.cloveHolds n && (s.cx n).stopReq == 0

/-- COMMAND_UNSEALED: the present command is the whole window. -/
def State.checkUnsealed (s : State) (n : Nat) : State :=
  if s.cxIdle n ∧ s.unsealed n then
    (s.setCx n { s.cx n with phase := .ready, len := slots, slot := s.cxHead n }).cxFault n Code.COMMAND_UNSEALED (s.cxHead n)
  else s

/-- The checkpoint a command starts with (R505). -/
def State.checkpoint (s : State) (n : Nat) : Ckpt :=
  let b := cxB n
  { head := s.cxHead n, consumed := s.reg (b + 0x1C), done := s.reg (b + 0x20), loops := (s.cx n).loops, ref := s.reg96 (b + 0x30)
    rng := if engineOf n = 6 then s.reg (b + 0x80) else 0 }

/-- A command starts. -/
def State.cmdStart (s : State) (n : Nat) : State :=
  let h := s.cxHead n
  match s.cmdLen n (s.cx n).present h slots 0 with
  | none => s
  | some k =>
    let irq := (List.range k).any fun i => irqE (s.slotWord n (h + i))
    let s := s.setCx n { s.cx n with phase := .ready, slot := h, len := k, irq := irq, ran := 0, ranAt := s.clk.now, timeout := 0
                                     ckpt := some (s.checkpoint n), launched := 0, discard := 0, cache := [], guilty := false
                                     cmdMem := some s.mem.bytes, insMem := none, atEnd := [], refWaits := [], pollHeld := false }
    (s.setRun n 1).bpCheck 2 n h (s.cxBind n) s.sn

/-- The timeout in µs of a command, by its first instruction (R254). -/
def State.cmdTimeout (s : State) (n : Nat) : Nat :=
  let w := s.slotWord n (s.cxHead n)
  if timedE w ∨ opE w = 0x04 ∨ timeE w = 0 then s.reg (engB (engineOf n) + 8) else timeE w

/-- The first instruction of a command starts its timeout (R263). -/
def State.startTimeout (s : State) (n : Nat) : State :=
  let c := s.cx n
  if c.timeout = 0 then s.setCx n { c with timeout := s.cmdTimeout n, ran := 0, ranAt := s.clk.now } else s

/-! ### What an instruction comes to -/

/-- The outcome of an engine or sequencer instruction. -/
inductive EngOut where
  /-- Its reads are done and its writes issued. -/
  | done (s : State)
  /-- The sequencer continues at another slot. -/
  | jump (s : State) (slot : Nat)
  /-- A sequencer instruction waits. -/
  | wait (s : State)
  /-- Bytes of other chips are needed first: ranges of global addresses. -/
  | read (s : State) (ranges : List (Nat × Nat))
  /-- It ends in a fault. -/
  | fault (s : State) (code : Nat) (addr : Option Nat)
  deriving DecidableEq, Repr

/-- The meaning of an opcode: state, context, word. -/
abbrev EngSem := State → Nat → Nat → EngOut

/-- A context has asked for an address of another chip and not yet been answered. -/
def State.asked (s : State) (n a : Nat) : Bool :=
  let f (r : MemReq) : Bool := !r.write && r.issuer.ofCtx n && decide (r.addr ≤ a) && decide (a < r.addr + r.len)
  (s.mem.inflight.any f) || (s.nen.outst.any fun o => f o.req)

/-- Ask for a range of another chip, in aligned requests of at most 256 bytes. -/
def State.askRange (n : Nat) : Nat → State → Nat → Nat → State
  | 0, s, _, _ => s
  | f + 1, s, a, last =>
    if last < a then s
    else
      let e := min (last / 16 * 16 + 16) ((a / 256 + 1) * 256)
      let r : MemReq := { id := 0, issuer := .ctx n (s.cx n).slot, addr := a, write := false, len := e - a, bind := s.cxBind n, epoch := s.cxEpoch n }
      State.askRange n f (if s.asked n a then s else s.issue r) e last

/-- Ask for every missing range. -/
def State.askAll (s : State) (n : Nat) (l : List (Nat × Nat)) : State :=
  l.foldl (fun s r => if r.2 = 0 then s else State.askRange n (r.2 / 256 + 2) s (r.1 / 16 * 16) (r.1 + r.2 - 1)) s

/-- The checks every instruction passes first (R252, R253). -/
def wordBad (n w : Nat) (timedOk : Bool) : Bool :=
  ctxE w != n || fld w 103 100 != 0 || (timedE w && !timedOk)

/-- Run the present instruction of a context, if its opcode is one of `op` and it can start. -/
def State.cxRun (s : State) (n : Nat) (op : Nat → Bool) (timedOk : Bool) (f : EngSem) : State :=
  let c := s.cx n
  let w := s.slotWord n c.slot
  let e := engineOf n
  let seq := decide (opE w < 16)
  let turn : Bool := seq || (s.engine e).busy == some n || ((s.engine e).busy.isNone && s.arbiter e == some n)
  if !(decide (n < 100) && s.engOn e && (s.cxLive n || s.cxDrains n) && (c.phase == .ready || c.phase == .reading) && (!c.dbg || c.step) &&
       s.cxFree n && op (opE w) && turn) then s
  else
    let s := s.startTimeout n
    if wordBad n w timedOk then s.cxFault n Code.INVALID_FIELD c.slot
    else
      match f s n w with
      | .fault s code addr => s.cxFault n code c.slot addr
      | .jump s slot => s.gotoSlot n slot
      | .wait s => s.setRun n 2
      | .read s l =>
        let mem := (s.cx n).insMem.getD s.mem.bytes
        ((s.setCx n { s.cx n with phase := .reading, insMem := some mem }).takeEngine n).askAll n l
      | .done s =>
        if seq then s.nextSlot n
        else (s.setCx n { s.cx n with phase := .busy, cache := [], insMem := none, refWaits := [] }).takeEngine n

/-! ### Sequencer instructions (R267 to R272) -/

/-- NOP and SEAL. -/
def nopSem : EngSem := fun s _ _ => .done s

/-- A loop counter and its ARMED bit. -/
def Ctx.loop (c : Ctx) (l : Nat) : Nat × Bool := Sparse.get (fun _ => (0, false)) c.loops l
def Ctx.setLoop (c : Ctx) (l : Nat) (v : Nat × Bool) : Ctx := { c with loops := Sparse.set (fun _ => (0, false)) c.loops l v }

/-- LOOP (R270). -/
def loopSem : EngSem := fun s n w =>
  let c := s.cx n
  let dist := fld w 12 0
  let l := fld w 15 14
  let pos := (c.slot + slots - s.cxHead n) % slots
  if dist = 0 ∨ pos < dist then .fault s Code.INVALID_FIELD none
  else
    let v := if (c.loop l).2 then (c.loop l).1 else fld w 47 16
    if v = 0 then .done (s.setCx n (c.setLoop l (0, false)))
    else .jump (s.setCx n (c.setLoop l (v - 1, true))) ((c.slot + slots - dist) % slots)

/-- WAITT (R74, R268). -/
def waittSem : EngSem := fun s n w =>
  let c := s.cx n
  let d := c.deadline.getD (s.nearTime (operE w))
  if d ≤ s.sn then .done s else .wait (s.setCx n { c with deadline := some d })

/-- C has reached the count (R269). -/
def reached (c time : Nat) : Bool := decide ((c + 2 ^ 32 - time) % 2 ^ 32 < 2 ^ 31)

/-- Bytes of another chip that have been received for the present instruction. -/
def Ctx.cached (c : Ctx) (a : Nat) : Option Byte := (c.cache.find? fun e => e.1 == a).map Prod.snd

/-- A context's read meets the refresh window of a stack: DM_REFRESH_WAIT counts the stack once for the instruction and the
window (R71; log entry 99). -/
def State.countHeld (s : State) (n stack : Nat) : State :=
  let c := s.cx n
  if c.refWaits.contains (stack, s.refFrom) then s
  else (s.setCx n { c with refWaits := c.refWaits ++ [(stack, s.refFrom)] }).inc (dmB stack + 0x20)

/-- A poll of WAITQ's word: an access error, the value, or a request to another chip. -/
def State.waitqPoll (s : State) (n w : Nat) : EngOut :=
  let a := operE w
  let c := s.cx n
  let start := match c.waitq with | some (t, k) => (if c.pollHeld then (t, k) else (t, k + 1)) | none => (s.clk.now, 0)
  let s := s.setCx n { c with waitq := some start, cache := [], pollHeld := false }
  let off := a % 2 ^ 48
  if !s.isLocal a then
    .wait (State.askRange n 1 s a a)
  else if s.staleAt off (s.cxBind n) (s.cxEpoch n) then .fault (s.inc 0x6E0008) Code.STALE_TARGET (some a)
  else if (s.target off).noRead then .fault (s.inc 0x6E0004) Code.ADDR_RANGE (some a)
  else if s.dramHeld off then .wait ((s.countHeld n (s.stackOf off)).setCx n { (s.countHeld n (s.stackOf off)).cx n with pollHeld := true })
  else
    let r := s.readMem (engineOf n) off 16
    let s := if r.2.2 then r.1.setRb (cxB n + 4) 5 true else r.1
    let v := ofLe (r.2.1.take 4)
    if reached v (timeE w) then .done s else .wait s

/-- WAITQ (R269).  The manual gives no count for a context number above 99, so that is a free value (log entry 2). -/
def waitqSem : EngSem := fun s n w =>
  if bit (opfE w) 0 then
    let t := fld w 7 0
    let c := if t < 100 then s.reg (cxB t + 0x20) else s.freeVal % 2 ^ 32
    let s := if t < 100 then s else s.useFree
    if reached c (timeE w) then .done s else .wait s
  else if operE w % 16 ≠ 0 then .fault s Code.MISALIGNED (some (operE w))
  else
    match (s.cx n).waitq with
    | none => s.waitqPoll n w
    | some _ =>
      match (s.cx n).cached (operE w) with
      | none => .wait s
      | some _ =>
        let v := ofLe ((List.range 4).map fun i => ((s.cx n).cached (operE w + i)).getD 0)
        if reached v (timeE w) then .done s else .wait s

/-- FENCE. -/
def fenceSem : EngSem := fun s n _ => if s.cxWrites n then .wait s else .done s

/-- SIGNAL (R271). -/
def signalSem : EngSem := fun s n w =>
  if operE w % 16 ≠ 0 then .fault s Code.MISALIGNED (some (operE w))
  else if s.cxWrites n then .wait s
  else
    let l := leBytes 4 (s.reg (cxB n + 0x20) + 1) ++ leBytes 1 n ++ leBytes 1 (s.cxEpoch n) ++ [0, 0] ++ leBytes 8 (pack96 s.sn)
    .done (s.issue { id := 0, issuer := .ctx n (s.cx n).slot, addr := operE w, write := true, data := l, bind := s.cxBind n, epoch := s.cxEpoch n })

/-- SETREF (R272). -/
def setrefSem : EngSem := fun s n w =>
  let t := if bit (opfE w) 0 then s.sn else s.nearTime (operE w)
  .done (s.setReg96 (cxB n + 0x30) (pack96 t))

/-- The instruction word of a waiting context names WAITQ on another context. -/
def State.waitsOn (s : State) (n t : Nat) : Bool :=
  let w := s.slotWord n (s.cx n).slot
  s.cxState n == 2 && (s.cx n).phase == .ready && opE w == 0x04 && bit (opfE w) 0 && fld w 7 0 == t

/-- Every waiting WAITQ on a context sees its CX_DONE change. -/
def State.wakeWaitq (s : State) (t : Nat) : State :=
  ((List.range 100).filter fun n => s.waitsOn n t).foldl (fun s n => s.cxRun n (fun o => o == 0x04) false waitqSem) s

/-! ### CX_CTRL (R301, R623) -/

/-- A started command is in the context. -/
def State.cxStarted (s : State) (n : Nat) : Bool := (s.cx n).phase != .none

/-- HALT. -/
def State.cxHalt (s : State) (n : Nat) : State :=
  let c := s.cx n
  let st := s.cxView n
  if !(st == 0 || st == 1 || st == 2) then s
  else if c.phase = .busy ∨ c.phase = .reading then s.setCx n { c with stopReq := Nat.lor c.stopReq 1 }
  else ((s.settleCx n).abandonCx n).setCxState n 3

/-- GO: a HALTED context continues. -/
def State.cxGo (s : State) (n : Nat) : State :=
  if s.cxState n = 3 then
    let s := s.setCxState n (if s.cxStarted n then 1 else 0)
    if (s.cx n).phase = .ready then s.bpCheck 2 n (s.cx n).slot (s.cxBind n) s.sn else s
  else s

/-- SKIP. -/
def State.cxSkip (s : State) (n : Nat) : State :=
  let st := s.cxView n
  if st = 4 ∨ (st = 3 ∧ s.cxStarted n) then
    let s := if s.cxStarted n then s.releaseSlots n 0xFFFF else s
    ((s.freeEngine n).setCxState n 0).setCx n { s.cx n with phase := .none }
  else if st = 3 then s.setCxState n 0
  else s

/-- RESET. -/
def State.cxReset (s : State) (n : Nat) : State :=
  let s := if (s.cx n).phase = .busy ∨ (s.cx n).phase = .reading then s else s.abandonCx n
  (s.setCx n { s.cx n with stopReq := Nat.lor (s.cx n).stopReq 2 }).tryReset n

/-- CX_CTRL can be written: the context is present and Clove does not hold its engine (R497). -/
def State.cxCtl (s : State) (n : Nat) : Bool :=
  decide (n < 100) && s.engOn (engineOf n) && !s.rv.queue.contains (engineOf n)

/-! ### Dispatch stores (R255, R256, R258, R528) -/

/-- One aligned 16-byte store, or a discarded part of one, to a window. -/
def State.slotStore (s : State) (win off : Nat) (l : List Byte) : State :=
  if l.length < 16 ∨ off % 16 ≠ 0 then s.setRb (cxB win + 4) 4 true
  else
    let i := off / 16
    if (s.cx win).present.contains i then
      (s.setRb (cxB win + 4) 3 true).event Code.DISPATCH_OVERRUN win
    else
      let s := s.setBytes (winAt win off) l
      (s.setCx win { s.cx win with present := NatSet.insert (s.cx win).present i }).checkUnsealed win

/-- The aligned 16-byte stores of a store, in ascending order. -/
def State.slotStores : Nat → State → Nat → Nat → List Byte → State
  | 0, s, _, _, _ => s
  | _, s, _, _, [] => s
  | f + 1, s, win, off, l =>
    let k := 16 - off % 16
    State.slotStores f (s.slotStore win off (l.take k)) win (off + k) (l.drop k)

/-- A store to a window: the state, and the answer code (0 = performed). -/
def State.dispatch (s : State) (win off : Nat) (l : List Byte) (bind epoch : Nat) : State × Nat :=
  if 100 ≤ win then (s.inc 0x6E0004, Code.UNMAPPED)
  else if !s.engOn (engineOf win) then (s, Code.ENGINE_ABSENT)
  else if bind = s.cxBind win ∧ bind ≠ 0 ∧ epoch ≠ s.cxEpoch win then (s.inc 0x6E0008, Code.EPOCH_MISMATCH)
  else (State.slotStores (granules l.length) s win off l, 0)

/-! ### Commands of the sequencer -/

/-- A command completes (R253, R259, R261). -/
def State.cmdComplete (s : State) (n : Nat) : State :=
  let irq := (s.cx n).irq
  let b := cxB n
  let replay := s.cxState n = 5
  let s := s.setReg (b + 0x20) (s.reg (b + 0x20) + 1)
  let s := (s.inc64 (engB (engineOf n) + 0x10)).releaseSlots n 0
  let s := if replay then ({ s with rv := { s.rv with replay := none } }).setRf 0x30004 18 12 0 else s.setCxState n 0
  let s := if irq then (s.event Code.CMD_DONE n (leBytes 4 (s.reg (b + 0x20)))).signal (s.rf (b + 0xC) 5 0) else s
  s.wakeWaitq n

/-- DISPATCH_STORE (R255, R256, R258). -/
def execDispatchStore (t : Tick) (win off : Nat) (data : List Byte) (bind epoch : Nat) (s : State) : Result :=
  let r := (s.advanceTo t).dispatch win (off % 0x20000) data bind epoch
  let a := r.1.global (winAt win (off % 0x20000))
  .next (if r.2 = 0 then r.1
    else r.1.fault { code := answerFault r.2, origin := 3, bind := bind, epoch := epoch
                     addr := if r.2 = Code.ENGINE_ABSENT then none else some a })

/-- COMMAND_START (R257, R505). -/
def execCommandStart (t : Tick) (ctx : Nat) (s : State) : Result :=
  let s := s.advanceTo t
  .next (if ctx < 100 ∧ s.cxIdle ctx then (if s.unsealed ctx then s.checkUnsealed ctx else s.cmdStart ctx) else s)

/-- ENGINE_INSTRUCTION_COMPLETE (R261, R262). -/
def execEngineInstructionComplete (t : Tick) (ctx : Nat) (s : State) : Result :=
  let s := s.advanceTo t
  .next (if (s.cx ctx).phase ≠ .busy then s
    else if s.cxLive ctx then (s.freeEngine ctx).nextSlot ctx
    else if s.cloveHolds ctx then (s.freeEngine ctx).setCx ctx { s.cx ctx with phase := .ready }
    else s)

/-- What the command stores at its completion is issued, every byte of its output being visible (R208, R212). -/
def State.finishWrites (s : State) (n : Nat) : State :=
  let l := (s.cx n).atEnd
  l.foldl (fun s x => s.engWrite n x.1 x.2.1 x.2.2) (s.setCx n { s.cx n with atEnd := [] })

/-- COMMAND_COMPLETE (R208, R261): what the command stores at its completion goes first, and then has to be visible. -/
def execCommandComplete (t : Tick) (ctx : Nat) (s : State) : Result :=
  let s := s.advanceTo t
  .next (if (s.cx ctx).phase = .sealed ∧ s.cxLive ctx ∧ !(s.cx ctx).dbg ∧
      ((s.cx ctx).stopReq = 0 ∨ s.rv.replay = some ctx) ∧ !s.cxWrites ctx then
      (if (s.cx ctx).atEnd.isEmpty then s.cmdComplete ctx else s.finishWrites ctx)
    else s)

/-- NOP of the sequencer. -/
def execSeqNop (t : Tick) (ctx : Nat) (s : State) : Result := .next ((s.advanceTo t).cxRun ctx (fun o => o == 0x00) false nopSem)
/-- SEAL. -/
def execSeal (t : Tick) (ctx : Nat) (s : State) : Result := .next ((s.advanceTo t).cxRun ctx (fun o => o == 0x01) false nopSem)
/-- LOOP of the sequencer. -/
def execSeqLoop (t : Tick) (ctx : Nat) (s : State) : Result := .next ((s.advanceTo t).cxRun ctx (fun o => o == 0x02) false loopSem)
/-- WAITT of the sequencer. -/
def execSeqWaitt (t : Tick) (ctx : Nat) (s : State) : Result := .next ((s.advanceTo t).cxRun ctx (fun o => o == 0x03) false waittSem)
/-- WAITQ of the sequencer. -/
def execSeqWaitq (t : Tick) (ctx : Nat) (s : State) : Result := .next ((s.advanceTo t).cxRun ctx (fun o => o == 0x04) false waitqSem)
/-- SIGNAL. -/
def execSignalStore (t : Tick) (ctx : Nat) (s : State) : Result := .next ((s.advanceTo t).cxRun ctx (fun o => o == 0x05) false signalSem)
/-- FENCE. -/
def execFence (t : Tick) (ctx : Nat) (s : State) : Result := .next ((s.advanceTo t).cxRun ctx (fun o => o == 0x06) false fenceSem)
/-- SETREF. -/
def execSetref (t : Tick) (ctx : Nat) (s : State) : Result := .next ((s.advanceTo t).cxRun ctx (fun o => o == 0x07) false setrefSem)

/-- WAITQ_POLL (R269): 100 ns after the start, and every 100 ns from then on. -/
def execWaitqPoll (t : Tick) (ctx : Nat) (s : State) : Result :=
  let s := s.advanceTo t
  let due : Bool := match (s.cx ctx).waitq with
    | some (t0, k) => (s.cx ctx).pollHeld || decide (t0 + (k + 1) * 100 * tns ≤ s.clk.now)
    | none => false
  .next (if due then s.cxRun ctx (fun o => o == 0x04) false (fun s n w => s.waitqPoll n w) else s)

/-- The opcodes the engine of a context defines (R251, R252). -/
def engDefines (e o : Nat) : Bool :=
  if o < 8 then true
  else if e < 4 then o == 0x10
  else if e = 4 then decide (0x20 ≤ o) && decide (o ≤ 0x24)
  else if e = 5 then o == 0x30
  else if e = 6 then o == 0x38
  else if e = 7 then decide (0x40 ≤ o) && decide (o ≤ 0x43)
  else if e = 8 then decide (0x50 ≤ o) && decide (o ≤ 0x54)
  else if e = 9 then decide (0x60 ≤ o) && decide (o ≤ 0x63)
  else if e = 10 then decide (0x70 ≤ o) && decide (o ≤ 0x75)
  else decide (0x80 ≤ o) && decide (o ≤ 0x84)

/-- The instruction of a word is the one named, and the engine of its context defines it. -/
def engOp (ctx o v : Nat) : Bool := o == v && engDefines (engineOf ctx) v

/-- UNDEFINED_ENGINE_OPCODE (R252). -/
def execUndefinedEngineOpcode (t : Tick) (ctx : Nat) (s : State) : Result :=
  .next ((s.advanceTo t).cxRun ctx (fun o => !engDefines (engineOf ctx) o) true fun s _ _ => .fault s Code.INVALID_OPCODE none)

/-- CX_HALT (R301). -/
def execCxHalt (t : Tick) (ctx : Nat) (s : State) : Result :=
  let s := s.advanceTo t
  .next (if s.cxCtl ctx then s.cxHalt ctx else s)
/-- CX_GO (R301). -/
def execCxGo (t : Tick) (ctx : Nat) (s : State) : Result :=
  let s := s.advanceTo t
  .next (if s.cxCtl ctx then s.cxGo ctx else s)
/-- CX_SKIP (R301). -/
def execCxSkip (t : Tick) (ctx : Nat) (s : State) : Result :=
  let s := s.advanceTo t
  .next (if s.cxCtl ctx then s.cxSkip ctx else s)
/-- CX_RESET (R301). -/
def execCxReset (t : Tick) (ctx : Nat) (s : State) : Result :=
  let s := s.advanceTo t
  .next (if s.cxCtl ctx then (s.cxReset ctx).wakeWaitq ctx else s)

end Sys2Proof.Machine
end

