-- ==== Sys2Proof/Machine/LineCode.lean ====
section
/-! DEFINITION. The codes of the serial lanes: RS(34,32) codewords and their PAM4 symbols, RS(544,514), 8b/10b and PRBS31
(R354 to R357, R403). -/

namespace Sys2Proof.Machine

/-! ### RS(34,32) codewords of a Nenath lane (R355, R356) -/

/-- Multiplication by α in GF(2^8) modulo 0x11D. -/
def gfX (v : Nat) : Nat := if v < 128 then 2 * v else Nat.xor (2 * v) 0x11D

/-- The syndromes of a codeword: the sum of its bytes, and its value at α, byte 0 as the highest coefficient. -/
def syndromes (l : List Byte) : Nat × Nat := l.foldl (fun p b => (Nat.xor p.1 b.toNat, Nat.xor (gfX p.2) b.toNat)) (0, 0)

/-- `v` times α^k. -/
def gfXn : Nat → Nat → Nat
  | 0, v => v
  | k + 1, v => gfXn k (gfX v)

/-- Index of the byte a single error lies in. -/
def errorAt (l : List Byte) : Option Nat :=
  let p := syndromes l
  if p.1 = 0 then none else (List.range 34).find? fun i => gfXn (33 - i) p.1 == p.2

/-- A codeword: 0 = no error; 1 = corrected; 2 = uncorrectable. -/
def codewordFate (l : List Byte) : Nat :=
  if syndromes l = (0, 0) then 0 else if (errorAt l).isSome then 1 else 2

/-- The payload of a codeword, with a single byte in error put right. -/
def payloadOf (l : List Byte) : List Byte :=
  let p := (syndromes l).1
  let l := match errorAt l with
    | some i => l.set i (BitVec.ofNat 8 (Nat.xor (l.getD i 0).toNat p))
    | none => l
  l.take 32

/-- A PAM4 byte with its levels inverted: the upper bit of each symbol changes (R355, R375). -/
def flipPam (b : Byte) : Byte := b ^^^ 0xAA

/-- The check bytes of 32 payload bytes: the remainder on division by (x + 1)(x + α) = x^2 + (1 + α)x + α. -/
def checkBytes (l : List Byte) : List Byte :=
  let r := l.foldl (fun (r : Nat × Nat) b =>
    let f := Nat.xor b.toNat r.1
    (Nat.xor r.2 (Nat.xor f (gfX f)), gfX f)) (0, 0)
  [BitVec.ofNat 8 r.1, BitVec.ofNat 8 r.2]

/-- The codewords of a list of bytes, 32 payload bytes each. -/
def codewords : Nat → List Byte → List (List Byte)
  | 0, _ => []
  | k + 1, l => (l.take 32 ++ checkBytes (l.take 32)) :: codewords k (l.drop 32)

/-- The PAM4 levels of a byte, from bits [1:0] up. -/
def pamLevels (b : Byte) : List Nat :=
  [0, 1, 2, 3].map fun i => match fld b.toNat (2 * i + 1) (2 * i) with | 0 => 0 | 1 => 1 | 3 => 2 | _ => 3

/-! ### RS(544,514) of an Ethernet port: GF(2^10) modulo x^10 + x^3 + 1, 30 check symbols (R403; log entry 109) -/

/-- Multiplication by α, and of two elements. -/
def gf10X (v : Nat) : Nat := if v < 512 then 2 * v else Nat.xor (2 * v) 0x409
def gf10Mul (a b : Nat) : Nat :=
  ((List.range 10).foldl (fun (x : Nat × Nat) i => (if bit b i then Nat.xor x.1 x.2 else x.1, gf10X x.2)) (0, a)).1

/-- α^k, and the inverse of an element, a^1022. -/
def gf10Exp : Nat → Nat
  | 0 => 1
  | k + 1 => gf10X (gf10Exp k)
def gf10Inv (a : Nat) : Nat :=
  ((List.range 9).foldl (fun (x : Nat × Nat) _ => let q := gf10Mul x.2 x.2; (gf10Mul x.1 q, q)) (1, a)).1

/-- The value of a polynomial at `x`, highest coefficient first. -/
def gf10Eval (x : Nat) (l : List Nat) : Nat := l.foldl (fun v c => Nat.xor (gf10Mul v x) c) 0

/-- The sum of two polynomials, lowest coefficient first. -/
def polyAdd : List Nat → List Nat → List Nat
  | [], b => b
  | a, [] => a
  | x :: a, y :: b => Nat.xor x y :: polyAdd a b

/-- Berlekamp and Massey's search for an error locator: its coefficients, lowest first, and its length. -/
structure Locator where
  c : List Nat := [1]
  b : List Nat := [1]
  len : Nat := 0
  m : Nat := 1
  bd : Nat := 1

/-- One step, on the syndromes up to the present one, newest first. -/
def Locator.next (x : Locator) (n : Nat) (syn : List Nat) : Locator :=
  let d := (List.zipWith gf10Mul x.c syn).foldl Nat.xor 0
  if d = 0 then { x with m := x.m + 1 }
  else
    let f := gf10Mul d (gf10Inv x.bd)
    let c := polyAdd x.c (List.replicate x.m 0 ++ x.b.map (gf10Mul f))
    if 2 * x.len ≤ n then { c := c, b := x.c, len := n + 1 - x.len, m := 1, bd := d } else { x with c := c, m := x.m + 1 }

/-- The search over a list of syndromes; `seen` holds those already used, newest first. -/
def Locator.run (x : Locator) (n : Nat) (seen : List Nat) : List Nat → Locator
  | [] => x
  | v :: r => (x.next n (v :: seen)).run (n + 1) (v :: seen) r

/-- A codeword of 544 symbols of 10 bits: 0 = no error; 1 = corrected, at most 15 symbols; 2 = uncorrectable. -/
def fecFate (bytes : List Byte) : Nat :=
  let v := ofLe bytes
  let sym := (List.range 544).map fun i => fld v (10 * i + 9) (10 * i)
  let syn := (List.range 30).map fun j => gf10Eval (gf10Exp j) sym
  if syn.all (· == 0) then 0
  else
    let x := Locator.run {} 0 [] syn
    let roots := (List.range 544).filter fun p => gf10Eval (gf10Exp ((1023 - p) % 1023)) x.c.reverse == 0
    if x.len ≤ 15 ∧ roots.length = x.len then 1 else 2

/-! ### 8b/10b (R357) -/

/-- The 6-bit codes of EDCBA at negative running disparity, bit a first as bit 0. -/
def code6 : List Nat :=
  [0b111001, 0b101110, 0b101101, 0b100011, 0b101011, 0b100101, 0b100110, 0b000111, 0b100111, 0b101001, 0b101010, 0b001011,
   0b101100, 0b001101, 0b001110, 0b111010, 0b110110, 0b110001, 0b110010, 0b010011, 0b110100, 0b010101, 0b010110, 0b010111,
   0b110011, 0b011001, 0b011010, 0b011011, 0b011100, 0b011101, 0b011110, 0b110101]

/-- The 4-bit codes of HGF at negative running disparity; entry 8 is the alternate of 7. -/
def code4 : List Nat := [0b1101, 0b1001, 0b1010, 0b0011, 0b1011, 0b0101, 0b0110, 0b0111, 0b1110]

/-- Ones of a number. -/
def onesOf (w v : Nat) : Nat := ((List.range w).filter fun i => bit v i).length

/-- A sub-block at a running disparity: the complement where the code is not balanced, or is one of the pairs. -/
def subBlock (w v pairA : Nat) (pos : Bool) : Nat :=
  if pos ∧ (onesOf w v * 2 ≠ w ∨ v = pairA) then 2 ^ w - 1 - v else v

/-- The running disparity after a sub-block. -/
def rdAfter (w v up down : Nat) (pos : Bool) : Bool :=
  if w < onesOf w v * 2 ∨ v = up then true else if onesOf w v * 2 < w ∨ v = down then false else pos

/-- The 10-bit code of a data character, bit 0 first on the line. -/
def encD (b : Nat) (pos : Bool) : Nat :=
  let x := b % 32
  let y := b / 32 % 8
  let six := subBlock 6 (code6.getD x 0) 0b000111 pos
  let mid := rdAfter 6 six 0b111000 0b000111 pos
  let alt := y == 7 && (if mid then x == 11 || x == 13 || x == 14 else x == 17 || x == 18 || x == 20)
  six + subBlock 4 (code4.getD (if alt then 8 else y) 0) 0b0011 mid * 64

/-- The control characters of the 8b/10b table: value and code at negative running disparity. -/
def kTable : List (Nat × Nat) :=
  [(0x1C, 0b0010111100), (0x3C, 0b1001111100), (0x5C, 0b1010111100), (0x7C, 0b1100111100), (0x9C, 0b0100111100),
   (0xBC, 0b0101111100), (0xDC, 0b0110111100), (0xFC, 0b0001111100), (0xF7, 0b0001010111), (0xFB, 0b0001011011),
   (0xFD, 0b0001011101), (0xFE, 0b0001011110)]

def encK (k : Nat × Nat) (pos : Bool) : Nat := if pos then 1023 - k.2 else k.2

/-- A decoded character. -/
inductive Chr where
  | d (b : Nat)
  | k (b : Nat)
  /-- Not in the code table. -/
  | bad
  deriving DecidableEq, Repr

/-- The character of a code in the column of one running disparity. -/
def chrIn (code : Nat) (pos : Bool) : Option Chr :=
  match kTable.find? fun k => encK k pos == code with
  | some k => some (.k k.1)
  | none => ((List.range 256).find? fun b => encD b pos == code).map Chr.d

/-- Decode a 10-bit group: the character, and whether its disparity is invalid. -/
def decode10 (code : Nat) (pos : Bool) : Chr × Bool :=
  match chrIn code pos with
  | some c => (c, false)
  | none =>
    match chrIn code (!pos) with
    | some c => (c, true)
    | none => (.bad, false)

/-- The running disparity after a 10-bit group. -/
def rdNext (code : Nat) (pos : Bool) : Bool :=
  rdAfter 4 (code / 64) 0b1100 0b0011 (rdAfter 6 (code % 64) 0b111000 0b000111 pos)

/-- Characters as 10-bit groups from a running disparity on. -/
def code10s (pos : Bool) : List Chr → List Nat
  | [] => []
  | c :: r =>
    let v := match c with
      | .d b => encD b pos
      | .k b => ((kTable.find? fun k => k.1 == b).map fun k => encK k pos).getD 0
      | .bad => 0
    v :: code10s (rdNext v pos) r

/-! ### PRBS31 (R354) -/

/-- Symbols of x^31 + x^28 + 1 from a state on. -/
def prbs31 : Nat → Nat → List Bool
  | 0, _ => []
  | k + 1, v =>
    let b := bit v 30 != bit v 27
    b :: prbs31 k (v * 2 % 2 ^ 31 + b2n b)

end Sys2Proof.Machine
end

