-- ==== Sys2Proof/Machine/NenCore.lean ====
section
/-! DEFINITION. Nenath: flits, ports, routes, the outstanding store, and what an answer does to the master of a request
(R431 to R453). -/

namespace Sys2Proof.Machine

/-! ### Messages (R438) -/

/-- The operations. -/
abbrev Op.READ : Nat := 0
abbrev Op.WRITE : Nat := 1
abbrev Op.READ_DATA : Nat := 2
abbrev Op.WRITE_ACK : Nat := 3
abbrev Op.EPOCH_MISMATCH : Nat := 4
abbrev Op.UNMAPPED : Nat := 5
abbrev Op.NO_ROUTE : Nat := 6
abbrev Op.RECOVERING : Nat := 7
abbrev Op.PROBE : Nat := 8
abbrev Op.READY : Nat := 9
abbrev Op.COLL : Nat := 10

/-- The message is a request. -/
def Msg.isReq (m : Msg) : Bool := m.op == Op.READ || m.op == Op.WRITE || m.op == Op.PROBE || m.op == Op.COLL

/-- Data units of a message. -/
def Msg.units (m : Msg) : Nat := (m.data.length + 15) / 16

/-- The header unit of a message. -/
def Msg.header (m : Msg) : List Byte :=
  leBytes 8 m.addr ++ leBytes 2 m.src ++ leBytes 1 m.bind ++ leBytes 1 m.epoch ++
  leBytes 4 (m.op % 16 + m.units % 32 * 2 ^ 4 + b2n m.timed * 2 ^ 9 + b2n m.mirror * 2 ^ 10 + m.vc % 4 * 2 ^ 12 + m.tag % 65536 * 2 ^ 16)

/-- Bytes cut into units of 16, the last one padded with zeros. -/
def unitsOf : Nat → List Byte → List (List Byte)
  | 0, _ => []
  | n + 1, l => (l.take 16 ++ List.replicate (16 - l.length) 0) :: unitsOf n (l.drop 16)

/-- The units of a message. -/
def Msg.toUnits (m : Msg) : List (List Byte) := m.header :: unitsOf m.units m.data

/-- The message that a header unit and its data units carry. -/
def msgOf (h : List Byte) (data : List Byte) : Msg :=
  let w := leAt h 12 4
  { addr := leAt h 0 8, src := leAt h 8 2, bind := byteAt h 10, epoch := byteAt h 11, op := fld w 3 0, timed := bit w 9
    mirror := bit w 10, vc := fld w 13 12, tag := fld w 31 16, data := data }

/-- Data units that follow a header unit. -/
def headUnits (h : List Byte) : Nat := fld (leAt h 12 4) 8 4

/-! ### Flits (R435) -/

/-- The flit CRC. -/
def flitCrc (l : List Byte) : Nat := Nat.xor (crcR 0x82F63B78 0xFFFFFFFF l) 0xFFFFFFFF

/-- The unit directory of units. -/
def dirOf (codes : List Nat) : Nat := codes.foldr (fun c v => c + 8 * v) 0

/-- The payload bytes of a flit. -/
def flitPayload (codes : List Nat) (units : List (List Byte)) : List Byte :=
  leBytes 12 (dirOf codes) ++ (units.flatten ++ List.replicate 480 0).take 480

/-- A flit of a header and payload. -/
def mkFlit (hdr : List Byte) (payload : List Byte) : List Byte :=
  let b := hdr ++ payload
  b ++ leBytes 4 (flitCrc b)

/-- The CRC of a received flit is correct. -/
def flitOk (l : List Byte) : Bool := l.length == 512 && flitCrc (l.take 508) == leAt l 508 4

def flitType (l : List Byte) : Nat := fld (byteAt l 0) 3 0
def flitSeq (l : List Byte) : Nat := fld (leAt l 0 4) 15 4
def flitAck (l : List Byte) : Nat := fld (leAt l 0 4) 27 16
def flitAckValid (l : List Byte) : Bool := bit (leAt l 0 4) 28
def flitNak (l : List Byte) : Bool := bit (leAt l 0 4) 29
def flitCredit (l : List Byte) (vc : Nat) : Nat := byteAt l (4 + vc)
def flitCtrl (l : List Byte) : Nat := byteAt l 8
def flitMask (l : List Byte) : Nat := byteAt l 9
def flitUnit (l : List Byte) (u : Nat) : List Byte := (l.drop (28 + 16 * u)).take 16
def flitDir (l : List Byte) (u : Nat) : Nat := fld (leAt l 16 12) (3 * u + 2) (3 * u)

/-! ### Ports (R433) -/

/-- NF_STATUS.STATE: 0 = DOWN; 1 = TRAINING; 2 = UP; 3 = RECOVERING. -/
def State.npState (s : State) (p : Nat) : Nat := s.rf (nfB p + 4) 1 0
def State.setNpState (s : State) (p v : Nat) : State := s.setRf (nfB p + 4) 1 0 v

/-- LN_STATUS.STATE of a lane: 0 = OFF; 1 = ACQUIRE; 2 = EQUALISE; 3 = MEASURE; 4 = UP; 5 = SLEEP; 6 = FAILED. -/
def State.laneSt (s : State) (n : Nat) : Nat := s.rf (lnB n + 4) 2 0

/-- A lane carries its port's traffic: it is UP, and its transmit half does not sleep (R431, R434). -/
def State.carries (s : State) (n : Nat) : Bool := s.laneSt n == 4 && !s.rb (lnB n) 2 && !(s.lane n).txWaking

/-- The lanes of a port that carry its traffic, as a mask. -/
def State.upMask (s : State) (p : Nat) : Nat :=
  (List.range 8).foldl (fun v i => v + if s.carries (8 * p + i) then 2 ^ i else 0) 0

/-- Lanes in a mask. -/
def maskCount (m : Nat) : Nat := ((List.range 8).filter fun i => bit m i).length

/-- At least MIN_LANES lanes are UP. -/
def State.enoughLanes (s : State) (p : Nat) : Bool := decide (max 1 (s.rf (nfB p) 6 3) ≤ maskCount (s.upMask p))

/-- The lanes that carry a port's codewords: active and UP (R431). -/
def State.lineLanes (s : State) (p : Nat) : List Nat :=
  ((List.range 8).filter fun i => bit (s.rf (nfB p + 4) 9 2) i && s.carries (8 * p + i)).map fun i => 8 * p + i

/-- The codewords of a flit on their lanes, from number `k` of the port's stream on; a lane with TX_INV inverts its levels (R355,
R375, R431). -/
def State.stripe (s : State) (p k : Nat) (flit : List Byte) : List (Nat × List Byte) :=
  let lanes := s.lineLanes p
  (codewords 16 flit).zipIdx.filterMap fun x =>
    lanes[(k + x.2) % lanes.length]?.map fun n => (n, if s.rb (lnB n + 8) 16 then x.1.map flipPam else x.1)

/-- Put a flit of this side on the lanes, with the ACK and the credit this side has to return.  How many codewords of IDLE flits
went before it the model does not follow: the number of its first codeword is a free value (log entry 2). -/
def State.putFlit (s : State) (p ftype seq : Nat) (nak : Bool) (ctrl mask : Nat) (payload : List Byte) : State :=
  let n := s.np p
  let free (vc : Nat) : Nat := min 255 (Sparse.get (fun _ => 0) n.freed vc)
  let w := ftype + seq % 4096 * 2 ^ 4 + n.rxSeq % 4096 * 2 ^ 16 + b2n (n.rxAny || nak) * 2 ^ 28 + b2n nak * 2 ^ 29
  let hdr := leBytes 4 w ++ (List.range 4).flatMap (fun vc => leBytes 1 (free vc)) ++ leBytes 1 ctrl ++ leBytes 1 mask ++
    leBytes 2 s.chip ++ [0, 0, 0, 0]
  let freed := (List.range 4).foldl (fun m vc => Sparse.set (fun _ => 0) m vc (Sparse.get (fun _ => 0) m vc - free vc)) n.freed
  let s := s.setNp p { n with freed := freed }
  let flit := mkFlit hdr payload
  { s.useFree with out := { edge := 8 + p, at_ := s.sn, body := .flit flit, line := s.stripe p (s.freeVal % 8) flit } :: s.out }

/-- An empty payload. -/
def noUnits : List Byte := List.replicate 492 0

/-- Send an IDLE flit: it carries the ACK, a NAK, and credit. -/
def State.sendIdle (s : State) (p : Nat) (nak : Bool := false) : State :=
  if s.npState p = 2 then s.putFlit p 0 0 nak 0 0 noUnits else s

/-- Send a CTRL flit. -/
def State.sendCtrl (s : State) (p ctrl mask : Nat) : State := s.putFlit p 2 0 false ctrl mask noUnits

/-- Send the units of one message as a DATA flit, and keep it until it is acknowledged (R437). -/
def State.sendData (s : State) (p : Nat) (m : Msg) : State :=
  let n := s.np p
  let u := m.toUnits
  let pay := flitPayload (1 :: List.replicate (u.length - 1) 2) u
  let s := s.setNp p { n with replay := n.replay ++ [{ seq := n.txSeq, bytes := pay, sent := s.clk.now }], txSeq := (n.txSeq + 1) % 4096 }
  (s.inc64 (nfB p + 0x20)).putFlit p 1 n.txSeq false 0 0 pay

/-- Resend every flit that is not acknowledged (R437). -/
def State.resend (s : State) (p : Nat) : State :=
  (s.np p).replay.foldl (fun s f =>
    (((s.inc64 (nfB p + 0x20)).inc (nfB p + 0x34)).lfCount 0x30).putFlit p 1 f.seq false 0 0 f.bytes) s

/-- The first message that its virtual channel lets go, with the messages before and after it; an earlier message of the
same channel goes first (R446). -/
def pickTx (credit : Nat → Nat) : List Msg → List Msg → List Nat → Option (Msg × List Msg)
  | [], _, _ => none
  | m :: r, seen, stuck =>
    if !stuck.contains m.vc && decide (1 + m.units ≤ credit m.vc) then some (m, seen.reverse ++ r)
    else pickTx credit r (m :: seen) (m.vc :: stuck)

/-- Send what an UP port has room, lanes and credit for (R437, R446). -/
def State.npFlush : Nat → State → Nat → State
  | 0, s, _ => s
  | f + 1, s, p =>
    let n := s.np p
    if s.npState p ≠ 2 ∨ 64 ≤ n.replay.length then s
    else
      match pickTx (Sparse.get (fun _ => 0) n.credit) n.tx [] [] with
      | none => s
      | some (m, rest) =>
        let c := Sparse.set (fun _ => 0) n.credit m.vc (Sparse.get (fun _ => 0) n.credit m.vc - (1 + m.units))
        State.npFlush f ((s.setNp p { n with tx := rest, credit := c }).sendData p m) p

/-- A message is routed to a port. -/
def State.npSend (s : State) (p : Nat) (m : Msg) : State :=
  let n := s.np p
  State.npFlush (n.tx.length + 1) (s.setNp p { n with tx := n.tx ++ [m] }) p

/-! ### Routes (R443 to R445) -/

/-- Where a route table sends a message. -/
inductive Route where
  /-- To a port, on a virtual channel. -/
  | port (p vc : Nat)
  /-- To this chip. -/
  | here
  /-- Nowhere. -/
  | none
  /-- To a port that is RECOVERING. -/
  | recovering
  deriving DecidableEq, Repr

/-- The chip a message is routed on. -/
def Msg.dest (m : Msg) : Nat := if m.isReq then m.addr / 2 ^ 48 % 65536 else m.src

/-- The route of a message by table `t`. -/
def State.routeOf (s : State) (t : Nat) (m : Msg) : Route :=
  let e := s.reg (0x550000 + t * 0x4000 + 4 * (m.dest % 4096))
  let p := fld e 4 0
  if m.dest / 4096 ≠ s.chip / 4096 ∨ !bit e 6 then .none
  else if p = 30 then .here
  else if 20 ≤ p ∨ !s.npOn p ∨ s.npState p = 0 then .none
  else if s.npState p = 3 then .recovering
  else .port p (if bit e 5 then Nat.lor m.vc 1 else m.vc)

/-- Answer a request: the answer travels to the chip that issued it (R439). -/
def State.answerMsg (s : State) (m : Msg) (op : Nat) (data : List Byte := []) : State :=
  let a : Msg := { m with op := op, data := data, vc := 2, timed := false, mirror := false }
  let own (s : State) : State := { s with nen := { s.nen with self := s.nen.self ++ [a] } }
  if m.src = s.chip then own s
  else
    match s.routeOf 20 a with
    | .port p vc => s.npSend p { a with vc := vc }
    | .here => own s
    | _ => s.inc 0x540024

/-- A message that has no route, or whose port is RECOVERING. -/
def State.unroutable (s : State) (m : Msg) (recovering : Bool) : State :=
  if !m.isReq then s.inc 0x540024
  else if recovering then s.answerMsg m Op.RECOVERING
  else (s.inc 0x540020).answerMsg m Op.NO_ROUTE

/-! ### A port's life (R432 to R434, R450) -/

/-- Nenath port NPn goes DOWN: what has not been sent has no route any more. -/
def State.portDown (s : State) (p : Nat) : State :=
  if s.npState p = 0 then s
  else
    let tx := (s.np p).tx
    let s := s.setNp p { rx := (s.np p).rx }
    let s := (s.setReg (nfB p + 4) 0).setReg (nfB p + 8) 0
    (tx.foldl (fun s m => s.unroutable m false) s).event Code.NP_DOWN p

/-- An enabled port that is DOWN starts TRAINING once lanes train. -/
def State.portTry (s : State) (p : Nat) : State :=
  let training : Bool := (List.range 8).any fun i => let st := s.laneSt (8 * p + i); decide (1 ≤ st) && decide (st ≤ 4)
  if s.npOn p && s.rb (nfB p) 0 && s.npState p == 0 && training then
    (s.setNpState p 1).setNp p { s.np p with trainFrom := s.clk.now }
  else s

/-- A lane of an UP port left or reached UP: the new mask is announced, and unacknowledged flits follow again. -/
def State.laneMaskChange (s : State) (p : Nat) : State :=
  let m := s.upMask p
  if s.npOn p && s.npState p == 2 && s.rf (nfB p + 4) 9 2 != m then
    let s := s.sendCtrl p 3 m
    let s := ((s.setRf (nfB p + 4) 9 2 m).inc (nfB p + 0x38)).event Code.LANE_REMAP p
    s.resend p
  else s

/-- The port enters RECOVERING. -/
def State.portRecovering (s : State) (p : Nat) : State :=
  (s.setNpState p 3).setNp p { s.np p with recFrom := s.clk.now, resuming := false }

/-! ### The outstanding store (R439, R447, R451) -/

/-- NF_DEST.STATE of a chip INDEX: 0 = READY; 1 = RECOVERING; 2 = LOST. -/
def State.destSt (s : State) (d : Nat) : Nat := s.rf (destR (d % 4096)) 1 0

/-- The first tag identity from `t` on that no outstanding request has. -/
def State.freeTag (s : State) : Nat → Nat → Nat
  | 0, t => t
  | f + 1, t => if s.nen.outst.any (fun o => o.tag % 4096 == t % 4096) then s.freeTag f (t + 1) else t % 4096

/-- INJECT_HOLD. -/
def State.injectHeld (s : State) : Bool := s.rb 0x540000 0

/-- A request to another chip can be taken now. -/
def State.canSend (s : State) : Bool := decide (s.nen.outst.length < 4096) && !s.injectHeld

/-- A read or write in whole aligned units (R438): a read asks for every unit its range touches; a write of part of a unit
carries free bytes beside its own, since the message names no bytes (log entry 2). -/
def State.wholeUnits (s : State) (m : Msg) : State × Msg :=
  let skip := m.addr % 16
  let n := roundUp (skip + m.data.length) 16
  if m.op = Op.READ then (s, { m with addr := m.addr - skip })
  else if m.op = Op.WRITE && n != m.data.length then
    let pad := leBytes 8 s.freeVal ++ leBytes 8 s.useFree.freeVal
    (s.useFree 2, { m with addr := m.addr - skip, data := pad.take skip ++ m.data ++ pad.drop (16 - (n - skip - m.data.length)) })
  else (s, m)

/-- Put a request of this chip into the outstanding store, and send it unless its destination is RECOVERING. -/
def State.request (s : State) (r : MemReq) (m : Msg) : State :=
  let id := s.freeTag 4096 s.nen.nextTag
  let units := max 1 (roundUp (r.addr % 16 + r.len) 16 / 16)
  let tag := if m.op = Op.READ then id + (units - 1) % 16 * 4096 else id
  let p := s.wholeUnits { m with tag := tag, src := s.chip, vc := 0 }
  let s := p.1
  let m := p.2
  let held := s.destSt m.dest == 1 && m.op != Op.PROBE
  let s := { s with nen := { s.nen with outst := s.nen.outst ++ [({ tag := tag, req := r, msg := m, held := held } : Outst)], nextTag := id + 1 } }
  if held then s.repause else { s with nen := { s.nen with own := s.nen.own ++ [m] } }

/-- Send the held requests to a destination again, in issue order. -/
def State.resendHeld (s : State) (d : Nat) : State :=
  let mine (o : Outst) : Bool := o.held && o.msg.dest % 4096 == d
  let msgs := (s.nen.outst.filter mine).map fun o => o.msg
  let outst := s.nen.outst.map fun o => if mine o then { o with held := false } else o
  ({ s with nen := { s.nen with outst := outst, own := s.nen.own ++ msgs } }).repause

/-! ### What an answer does to a master (R164, R227, R244, R260, R264, R440, R544, R575) -/

/-- STATUS of a remote access answer. -/
def raStatus (code : Nat) : Nat :=
  if code = 0 then 0 else if code = Code.NO_ROUTE then 3 else if code = Code.EPOCH_MISMATCH then 4
  else if code = Code.PEER_LOST then 5 else 1

/-- The code of an answer message. -/
def ansOp (code : Nat) : Nat :=
  if code = Code.EPOCH_MISMATCH then Op.EPOCH_MISMATCH
  else if code = Code.NO_ROUTE then Op.NO_ROUTE
  else Op.UNMAPPED

/-- A part of a duplicate write has not been answered. -/
def State.copying (s : State) (i : Issuer) : Bool :=
  (s.mem.inflight.any fun r => r.issuer == i) || s.nen.outst.any fun o => o.req.issuer == i

/-- The remaining parts of a duplicate write remember the code that one was answered with. -/
def State.copyErr (s : State) (i : Issuer) (code : Nat) : State :=
  let note (r : MemReq) : MemReq := if r.issuer == i then { r with err := code } else r
  { s with
    mem := { s.mem with inflight := s.mem.inflight.map note }
    nen := { s.nen with outst := s.nen.outst.map fun o => { o with req := note o.req } } }

/-- The answer to a request reaches its master. -/
def State.master (s : State) : Issuer → MemAns → State
  | .cell _ _ _ _, a => { s with mem := { s.mem with answers := s.mem.answers ++ [a] } }
  | .debug, a => { s with mem := { s.mem with answers := s.mem.answers ++ [a] } }
  | .ctx n slot, a =>
    if a.code ≠ 0 then (s.cxAnswerFault n slot a.code a.req.addr).tryReset n
    else if a.req.write then s.tryReset n
    else
      let got := (List.range a.data.length).map fun i => (a.req.addr + i, a.data.getD i 0)
      let s := s.setCx n { s.cx n with cache := (s.cx n).cache ++ got }
      if s.cxState n = 2 then s.cxRun n (fun o => o == 0x04) false waitqSem else s
  | .shadow n, a => if a.code ≠ 0 then s.setRb (cxB n + 4) 6 true else s
  | .stream n, a =>
    if a.code = 0 then (if a.req.write then s else s.setStrm n { s.strm n with consumed := ofLe (a.data.take 8) })
    else s.fault { code := answerFault a.code, origin := 3, bind := a.req.bind, epoch := a.req.epoch
                   addr := if a.code = Code.ENGINE_ABSENT then none else some a.req.addr }
  | .mask c, a =>
    if a.code = 0 then
      let got (e : Nat × Nat × Option (List Byte)) : Nat × Nat × Option (List Byte) :=
        if e.1 = a.req.id then (e.1, e.2.1, some a.data) else e
      let s := if a.poison then s.setRb (cxB (64 + s.rf (snB c + 8) 7 6) + 4) 5 true else s
      s.setChan c { s.chan c with env := (s.chan c).env.map got }
    else s.fault { code := answerFault a.code, origin := 3, bind := a.req.bind, epoch := a.req.epoch
                   addr := if a.code = Code.ENGINE_ABSENT then none else some a.req.addr }
  | .remote, a => s.raPart a.req.id (raStatus a.code) a.data
  | .ring r, a =>
    if a.code = 0 then (if a.req.write then s else s.ringRead r a.req.id a.data)
    else
      let s := if a.req.write then s else s.ringFail r a.req.id
      s.fault { code := answerFault a.code, origin := 3, bind := a.req.bind, epoch := a.req.epoch
                addr := if a.code = Code.ENGINE_ABSENT then none else some a.req.addr }
  | .peer _ m, a =>
    if a.code = 0 then (if m.op = Op.READ then s.answerMsg m Op.READ_DATA a.data else s.answerMsg m Op.WRITE_ACK)
    else s.answerMsg m (ansOp a.code)
  | .mirror of_ req, a =>
    let code := if a.req.err = 0 then a.code else a.req.err
    if s.copying (.mirror of_ req) then s.copyErr (.mirror of_ req) code
    else s.master of_ { a with code := code, req := { a.req with issuer := of_, id := req, addr := s.global a.req.addr } }
  | .host, a =>
    let s := if a.req.write then s else { s with bus := ofLe a.data }
    if a.code = 0 then s
    else s.fault { code := answerFault a.code, origin := 3, bind := a.req.bind, epoch := a.req.epoch
                   addr := if a.code = Code.ENGINE_ABSENT then none else some a.req.addr }
  | _, a =>
    if a.code = 0 then s
    else s.fault { code := answerFault a.code, origin := 3, bind := a.req.bind, epoch := a.req.epoch
                   addr := if a.code = Code.ENGINE_ABSENT then none else some a.req.addr }

/-- A request has been answered. -/
def State.answer (s : State) (r : MemReq) (code : Nat) (data : List Byte := []) (poison : Bool := false) : State :=
  s.master r.issuer { req := r, code := code, data := data, poison := poison }

end Sys2Proof.Machine
end

