-- ==== Sys2Proof/Machine/Tensor.lean ====
section
/-! DEFINITION. What engine instructions read and write: operand reads, element formats, tensor and quantisation
descriptors, scale groups, scale history and quantisation status (R185 to R188, R199 to R217, R265, R266, R273). -/

namespace Sys2Proof.Machine

/-! ### Reading operands -/

/-- Reads of one instruction in progress. -/
structure Rd where
  s : State
  /-- The context. -/
  n : Nat
  /-- Ranges of other chips that have not arrived. -/
  miss : List (Nat × Nat) := []
  /-- Poisoned data were read (R265). -/
  poison : Bool := false
  /-- The first error: fault code and address. -/
  err : Option (Nat × Option Nat) := none
  /-- Stacks at which a read waits for the end of a refresh window (R71). -/
  hold : List Nat := []
  /-- Memory as it is read, where that is not the present one: as it stood at the start (R213). -/
  mem : Option (List Host.Cell) := none
  deriving DecidableEq, Repr

/-- Nothing is missing, nothing waits and nothing failed. -/
def Rd.ok (r : Rd) : Bool := r.miss.isEmpty && r.hold.isEmpty && r.err.isNone

/-- Bytes of a memory image. -/
def imageAt (m : List Host.Cell) (a n : Nat) : List Byte := (List.range n).map fun i => Sparse.get memReset m (a + i)

/-- What a read finds at an offset: the image of the start of the command or of the instruction, except in registers. -/
def Rd.seen (r : Rd) (off n : Nat) (now : List Byte) : List Byte :=
  match r.mem.or (r.s.cx r.n).insMem, r.s.target off with
  | some _, .regs _ => now
  | some m, _ => imageAt m off n
  | none, _ => now

/-- An error, unless the data it comes from are incomplete. -/
def Rd.fail (r : Rd) (code : Nat) (addr : Option Nat) : Rd := if r.ok then { r with err := some (code, addr) } else r

/-- A condition on what was read; INVALID_FIELD otherwise. -/
def Rd.want (r : Rd) (c : Bool) : Rd := if c then r else r.fail Code.INVALID_FIELD none

/-- An address that must be aligned; MISALIGNED otherwise. -/
def Rd.align (r : Rd) (a m : Nat) : Rd := if a % m = 0 then r else r.fail Code.MISALIGNED (some a)

/-- Read local bytes, granule by granule; a granule of DRAM waits for the end of a refresh window (R71). -/
def Rd.local_ : Nat → Rd → Nat → Nat → Rd × List Byte
  | 0, r, _, n => (r, List.replicate n 0)
  | f + 1, r, a, n =>
    if n = 0 then (r, [])
    else
      let k := min n (16 - a % 16)
      let off := a % 2 ^ 48
      if r.err.isSome then (r, List.replicate n 0)
      else if r.s.staleAt off (r.s.cxBind r.n) (r.s.cxEpoch r.n) then
        ({ r with s := r.s.inc 0x6E0008 }.fail Code.STALE_TARGET (some a), List.replicate n 0)
      else if (r.s.target off).noRead then
        ({ r with s := r.s.inc 0x6E0004 }.fail Code.ADDR_RANGE (some a), List.replicate n 0)
      else if r.s.dramHeld off then
        let t := Rd.local_ f { r with hold := NatSet.insert r.hold (r.s.stackOf off) } (a + k) (n - k)
        (t.1, List.replicate k 0 ++ t.2)
      else
        let g := r.s.readGranule (engineOf r.n) off k
        let t := Rd.local_ f { r with s := g.1, poison := r.poison || g.2.2 } (a + k) (n - k)
        (t.1, r.seen off k g.2.1 ++ t.2)

/-- Read bytes at a global address. -/
def Rd.bytes (r : Rd) (a n : Nat) : Rd × List Byte :=
  let a := a % 2 ^ 64
  if r.s.isLocal a then Rd.local_ (granules n) r a n
  else
    let l := (List.range n).map fun i => (r.s.cx r.n).cached (a + i)
    if l.all Option.isSome then (r, l.map fun b => b.getD 0)
    else ({ r with miss := r.miss ++ [(a, n)] }, List.replicate n 0)

/-- Read a little-endian number. -/
def Rd.num (r : Rd) (a n : Nat) : Rd × Nat := let x := r.bytes a n; (x.1, ofLe x.2)

/-- Read each of a list of things. -/
def Rd.each {α β : Type} (f : Rd → α → Rd × β) : Rd → List α → Rd × List β
  | r, [] => (r, [])
  | r, a :: l =>
    let x := f r a
    let y := Rd.each f x.1 l
    (y.1, x.2 :: y.2)

/-- The end of the reads: an error, reads that wait or data that are missing, or the effect, which learns whether poison was
read. -/
def Rd.out (r : Rd) (s0 : State) (f : State → Bool → EngOut) : EngOut :=
  match r.err with
  | some (code, a) => .fault r.s code a
  | none =>
    if !r.hold.isEmpty then .read (r.hold.foldl (fun s k => s.countHeld r.n k) s0) r.miss
    else if r.miss.isEmpty then f (if r.poison then r.s.setRb (cxB r.n + 4) 5 true else r.s) r.poison
    else .read s0 r.miss

/-! ### Writing results -/

/-- A store that the command makes when it completes (R208, R212). -/
def State.atEnd (s : State) (n a : Nat) (l : List Byte) (poison : Bool) : State :=
  s.setCx n { s.cx n with atEnd := (s.cx n).atEnd ++ [(a, l, poison)] }

/-- Indications of a context: INV, INF, SAT, ASAT (R266). -/
def indBit : Ind → Nat
  | .none => 0
  | .inv => 1
  | .inf => 2
  | .sat => 4

def State.indicate (s : State) (n m : Nat) : State := s.setReg (cxB n + 0x24) (Nat.lor (s.reg (cxB n + 0x24)) m)

/-- The indications of the flags of R168. -/
def indOfFlags (m : Nat) : Nat := b2n (bit m 3) + 2 * b2n (bit m 4)

/-! ### Element formats (R181, R183, R185, R207, R273) -/

/-- An element format: a w-bit integer, a floating-point format, or an MXINT8 element. -/
inductive EF where
  | int (w : Nat) (sg : Bool)
  | fl (f : FFmt)
  | mxint
  deriving DecidableEq, Repr

def EF.bits : EF → Nat
  | .int w _ => w
  | .fl f => f.width
  | .mxint => 8

/-- DFMT (R273). -/
def dfmt (v : Nat) : Option EF :=
  match v with
  | 0 => some (.int 8 true) | 1 => some (.int 8 false) | 2 => some (.int 4 true) | 3 => some (.int 4 false)
  | 4 => some (.fl e4m3) | 5 => some (.fl e5m2) | 6 => some (.fl bf16) | 7 => some (.fl fp16) | 8 => some (.fl fp32)
  | 9 => some (.int 16 true) | 10 => some (.int 32 true)
  | _ => none

/-- EFMT (R207); a CB4 code counts as a 4-bit number. -/
def efmt (v : Nat) : Option EF :=
  match v with
  | 0 => some (.int 4 true) | 1 => some (.int 8 true) | 2 => some (.int 4 false) | 3 => some (.int 8 false)
  | 4 => some (.fl e4m3) | 5 => some (.fl e5m2) | 6 => some (.fl e4m3) | 7 => some (.fl e5m2)
  | 8 => some (.fl e3m2) | 9 => some (.fl e2m3) | 10 => some (.fl e2m1) | 11 => some .mxint | 12 => some (.int 4 false)
  | _ => none

def isMx (v : Nat) : Bool := decide (6 ≤ v) && decide (v ≤ 11)

/-- Element `j` of packed elements of `w` bits. -/
def codeAt (w : Nat) (l : List Byte) (j : Nat) : Nat := leAt l (w * j / 8) 5 >>> (w * j % 8) % 2 ^ w

/-- Elements packed into bytes: the first in the lowest bits. -/
def packNat (w : Nat) : List Nat → Nat
  | [] => 0
  | c :: r => c % 2 ^ w + packNat w r * 2 ^ w

def packCodes (w : Nat) (l : List Nat) : List Byte := leBytes ((w * l.length + 7) / 8) (packNat w l)

/-- The integer an element encodes. -/
def EF.intOf (f : EF) (c : Nat) : Int :=
  match f with
  | .int w true => signed w c
  | .mxint => signed 8 c
  | _ => Int.ofNat c

/-- The exact value of an element less its zero point. -/
def EF.value (f : EF) (z : Int) (c : Nat) : Num :=
  match f with
  | .fl g => g.decode c
  | .mxint => .dyad (decide (signed 8 c < 0)) (signed 8 c).natAbs (-6)
  | f => .ofInt (f.intOf c - z)

/-- Range of an integer format. -/
def intRange (w : Nat) (sg : Bool) : Int × Int :=
  if sg then (-Int.ofNat (2 ^ (w - 1)), Int.ofNat (2 ^ (w - 1)) - 1) else (0, Int.ofNat (2 ^ w) - 1)

/-- Encoding into an element format (R192, R194). -/
def EF.put (f : EF) (satfp : Bool) (z : Int) (x : Num) : Nat × Ind :=
  match f with
  | .fl g => g.encode satfp x
  | .mxint => let r := toInt (-128) 127 0 (x.mul (.ofInt 64)).1; (ofSigned 8 r.1, r.2)
  | .int w sg => let r := toInt (intRange w sg).1 (intRange w sg).2 z x; (ofSigned w r.1, r.2)

/-! ### Quantisation descriptors (R202, R207) -/

structure QD where
  ctrl : Nat := 0
  k : Nat := 0
  rows : Nat := 0
  zp : Nat := 0
  scale : Nat := 0
  hist : Nat := 0
  alt : Nat := 0
  qsw : Nat := 0
  deriving DecidableEq, Repr

def QD.efmt (q : QD) : Nat := fld q.ctrl 3 0
def QD.mx (q : QD) : Bool := isMx q.efmt
def QD.ef (q : QD) : EF := (Machine.efmt q.efmt).getD (.int 8 true)
/-- Elements of a group, and groups of a row. -/
def QD.g (q : QD) : Nat := if q.mx then 32 else 32 * 2 ^ fld q.ctrl 5 4
def QD.ng (q : QD) : Nat := (q.k + q.g - 1) / q.g
def QD.sfmt (q : QD) : Nat := fld q.ctrl 7 6
def QD.zmode (q : QD) : Nat := fld q.ctrl 9 8
def QD.shist (q : QD) : Bool := bit q.ctrl 10
def QD.policy (q : QD) : Nat := fld q.ctrl 12 11
def QD.ushift (q : QD) : Nat := fld q.ctrl 17 13
def QD.mshift (q : QD) : Nat := fld q.ctrl 21 18
/-- Bytes of a scale entry. -/
def QD.sw (q : QD) : Nat := if q.mx then 1 else if q.sfmt = 0 then 1 else if q.sfmt = 1 then 2 else 4

/-- What a reader checks (R199, R202, R207). -/
def QD.readOk (q : QD) : Bool :=
  decide (q.efmt ≤ 12) && q.k % 32 == 0 && q.zmode != 3 &&
  (q.mx || (fld q.ctrl 5 4 != 3 && ((q.zmode == 2) == (q.sfmt == 3)))) &&
  (q.zmode == 0 || decide (q.efmt < 4)) && decide (q.zp < 256)

/-- What a writer checks beyond that. -/
def QD.writeOk (q : QD) : Bool :=
  q.readOk && q.efmt != 12 && q.policy != 3 && fld q.ctrl 31 22 == 0 &&
  (!q.shist || ((q.efmt == 0 || q.efmt == 1 || q.efmt == 4 || q.efmt == 5) && q.zmode == 0 && q.sfmt != 3))

def Rd.qd (r : Rd) (a : Nat) : Rd × QD :=
  let x := (r.align a 16).bytes a 48
  let l := x.2
  (x.1, { ctrl := leAt l 0 4, k := leAt l 4 4, rows := leAt l 8 4, zp := leAt l 12 4, scale := leAt l 16 8, hist := leAt l 24 8
          alt := leAt l 32 8, qsw := leAt l 40 8 })

/-! ### Tensor descriptors (R273) -/

structure TD where
  addr : Nat := 0
  rows : Nat := 0
  cols : Nat := 0
  stride : Nat := 0
  ctrl : Nat := 0
  q : QD := {}
  deriving DecidableEq, Repr

def TD.quant (t : TD) : Bool := bit t.ctrl 4
def TD.dfmt (t : TD) : Nat := fld t.ctrl 3 0
def TD.ef (t : TD) : EF := if t.quant then t.q.ef else (Machine.dfmt t.dfmt).getD (.int 8 true)
/-- Bytes of a row's elements. -/
def TD.bytes (t : TD) : Nat := (t.cols * t.ef.bits + 7) / 8

/-- Read a tensor descriptor, with its quantisation descriptor, and check it; `write`: it is an output. -/
def Rd.td (r : Rd) (a : Nat) (write : Bool) : Rd × TD :=
  let x := (r.align a 16).bytes a 32
  let l := x.2
  let t : TD := { addr := leAt l 0 8, rows := leAt l 8 4, cols := leAt l 12 4, stride := leAt l 16 4, ctrl := leAt l 20 4 }
  let r := ((x.1.want (t.rows != 0 && decide (t.ctrl < 32) && t.stride % 16 == 0)).align t.addr 16).want (t.quant || decide (t.dfmt < 11))
  if t.quant then
    let y := r.qd (leAt l 24 8)
    let q := y.2
    (y.1.want ((if write then q.writeOk else q.readOk) && q.k == t.cols && q.rows == t.rows), { t with q := q })
  else (r, t)

/-- The element codes of a row. -/
def Rd.codes (r : Rd) (t : TD) (i : Nat) : Rd × List Nat :=
  let x := r.bytes (t.addr + i * t.stride) t.bytes
  (x.1, (List.range t.cols).map (codeAt t.ef.bits x.2))

/-! ### Groups as read (R200 to R204) -/

/-- A scale group of a row. -/
structure Grp where
  /-- The group offset of a constant group. -/
  off : Option Num
  scale : Num
  zp : Int
  /-- Element codes. -/
  codes : List Nat
  deriving DecidableEq, Repr

/-- A zero point in an element format's own range. -/
def zpOf (f : EF) (v : Nat) : Int :=
  match f with
  | .int w true => signed w v
  | .int w false => Int.ofNat (v % 2 ^ w)
  | _ => 0

/-- The scale of an entry. -/
def QD.scaleOf (q : QD) (e : Nat) : Num :=
  if q.mx then (if e = 255 then .nan else .dyad false 1 (Int.ofNat e - 127))
  else if q.sfmt = 0 then e4m3.decode e
  else if q.sfmt = 2 then fp32.decode e
  else bf16.decode (e % 65536)

/-- The entry is the constant-group code. -/
def QD.isConst (q : QD) (e : Nat) : Bool :=
  !q.mx && (if q.sfmt = 0 then e == 0x80 else if q.sfmt = 2 then e == 0x80000000 else e % 65536 == 0x8000)

/-- Group `g` of row `i`. -/
def Rd.group (r : Rd) (t : TD) (i g : Nat) (row : List Byte) (codes : List Nat) : Rd × Grp :=
  let q := t.q
  let x := r.num (q.scale + (i * q.ng + g) * q.sw) q.sw
  let e := x.2
  let zp := if q.zmode = 1 then zpOf t.ef q.zp else if q.zmode = 2 then zpOf t.ef (e / 65536 % 256) else 0
  let off := if q.isConst e then some (fp32.decode (leAt row (g * q.g * t.ef.bits / 8) 4)) else none
  (x.1, { off := off, scale := if off.isSome then .one else q.scaleOf e, zp := zp, codes := (codes.drop (g * q.g)).take q.g })

/-- The groups of row `i` of a grouped tensor. -/
def Rd.groups (r : Rd) (t : TD) (i : Nat) : Rd × List Grp :=
  let x := r.bytes (t.addr + i * t.stride) t.bytes
  let codes := (List.range t.cols).map (codeAt t.ef.bits x.2)
  Rd.each (fun r g => r.group t i g x.2 codes) x.1 (List.range t.q.ng)

/-- Unscaled values of a group: a constant group has its offset as every one (R205). -/
def Grp.unscaled (g : Grp) (f : EF) : List Num :=
  match g.off with
  | some o => g.codes.map fun _ => o
  | none => g.codes.map (f.value g.zp)

/-- Decoded values of a group (R186, R203, R204). -/
def Grp.values (g : Grp) (f : EF) : List (Num × Ind) :=
  match g.off with
  | some o => g.codes.map fun _ => (o, .none)
  | none => g.codes.map fun c => (f.value g.zp c).mul g.scale

/-- The exact values of a row of a tensor, with the indications of decoding it. -/
def Rd.values (r : Rd) (t : TD) (i : Nat) : Rd × List (Num × Ind) :=
  if t.quant then
    let x := r.groups t i
    (x.1, x.2.flatMap fun g => g.values t.ef)
  else
    let x := r.codes t i
    (x.1, x.2.map fun c => (t.ef.value 0 c, .none))

/-! ### Scale history (R209, R210, R212) -/

/-- A scale-history record's head. -/
structure Hist where
  cfg : Nat := 0
  ngroups : Nat := 0
  head : Nat := 0
  count : Nat := 0
  init : Nat := 0
  step : Nat := 0
  ovf : Nat := 0
  under : Nat := 0
  const : Nat := 0
  rerun : Nat := 0
  /-- FP32 ring values, slot by slot. -/
  ring : List Nat := []
  deriving DecidableEq, Repr

def Hist.h (x : Hist) : Nat := fld x.cfg 5 0
def Hist.gran (x : Hist) : Bool := bit x.cfg 6

/-- The record, as it stood when the command started (R210, R213). -/
def Rd.hist (r : Rd) (t : TD) : Rd × Hist :=
  let a := t.q.hist
  let was := r.mem
  let r := { r with mem := (r.s.cx r.n).cmdMem.or r.mem }
  let x := (r.align a 64).bytes a 64
  let l := x.2
  let h : Hist := { cfg := leAt l 0 4, ngroups := leAt l 4 4, head := leAt l 8 4, count := leAt l 12 4, init := leAt l 16 4
                    step := leAt l 24 8, ovf := leAt l 32 4, under := leAt l 36 4, const := leAt l 40 4, rerun := leAt l 44 4 }
  let want := if h.gran then 1 else t.rows * t.q.ng
  let r := x.1.want (decide (1 ≤ h.h) && decide (h.h ≤ 32) && decide (h.head < h.h) && decide (h.count ≤ h.h) && h.ngroups == want &&
    decide (h.init < 0x7F800000))
  if r.ok then
    let y := r.bytes (a + 64) (h.h * h.ngroups * 4)
    ({ y.1 with mem := was }, { h with ring := (List.range (h.h * h.ngroups)).map fun i => leAt y.2 (4 * i) 4 })
  else ({ r with mem := was }, h)

/-- QMAX and B of an element format (R210, R211). -/
def qmaxOf (e : Nat) : Nat := if e = 0 then 7 else if e = 1 then 127 else if e = 4 then 448 else 57344
def boundOf (e : Nat) : Nat := if e = 0 then 8 else if e = 1 then 128 else if e = 2 then 16 else if e = 3 then 256 else if e = 4 then 448 else 57344

/-- The larger of two values, the first where they do not compare. -/
def Num.max2 (a b : Num) : Num := if a.lt b then b else a

/-- A scale encoded in the scale format: never an infinity and never 0. -/
def QD.encodeScale (q : QD) (t : Num) : Nat :=
  let f := if q.sfmt = 0 then e4m3 else if q.sfmt = 1 then bf16 else fp32
  let c := (f.encode false t).1
  let c := if f.maxF < c % 2 ^ (f.width - 1) then f.maxF else c
  if c = 0 then 1 else c

/-- The scale entry of group position `p` from the record (R210). -/
def Hist.scaleAt (x : Hist) (q : QD) (p : Nat) : Nat :=
  let p := if x.gran then 0 else p
  let vals := (List.range x.count).map fun i =>
    fp32.decode (x.ring.getD ((x.head + x.h - 1 - i) % x.h * x.ngroups + p) 0)
  let m := match vals with
    | [] => fp32.decode x.init
    | a :: r => r.foldl Num.max2 a
  q.encodeScale ((m.mul (.ofInt (2 ^ q.mshift))).1.div (.ofInt (qmaxOf q.efmt))).1

/-! ### Groups as written (R187, R211) -/

/-- A value to be written: whether its channel is an outlier, and the indications of its arithmetic. -/
structure Elem where
  v : Num
  out : Bool := false
  ind : Nat := 0
  deriving DecidableEq, Repr

/-- A group as a writer makes it. -/
structure WGrp where
  /-- The scale entry; none = the entry in the tensor stays. -/
  entry : Option Nat
  /-- Element codes, or the FP32 group offset of a constant group. -/
  body : List Nat ⊕ Nat
  ovf : Bool := false
  under : Bool := false
  /-- FP32 amax. -/
  amax : Nat := 0
  /-- Indications of the context. -/
  ind : Nat := 0
  inv : Bool := false
  deriving DecidableEq, Repr

/-- The group was written with the constant-group code. -/
def WGrp.const (g : WGrp) : Bool := match g.body with | .inr _ => true | .inl _ => false

/-- Values of a group that take part: outliers are left out. -/
def partOf (x : List Elem) : List Num := (x.filter fun e => !e.out).map Elem.v

/-- Some element's arithmetic had INV (R208). -/
def invOf (x : List Elem) : Bool := x.any fun e => !e.out && bit e.ind 0

/-- Largest finite magnitude. -/
def amaxOf (l : List Num) : Num := (l.filter Num.finite).foldl (fun m a => m.max2 a.abs) .zero

/-- The group is constant: every value is finite and all are equal. -/
def constOf (l : List Num) : Option Num :=
  if !l.all Num.finite then none
  else match l with
    | [] => some .zero
    | a :: r =>
      if r.all fun b => !a.lt b && !b.lt a then
        (if a.isZero && !((a :: r).all Num.isNeg) then some .zero else some a)
      else none

/-- An MX block (R187). -/
def mxGroup (e : Nat) (f : EF) (x : List Elem) : WGrp :=
  let l := partOf x
  let inv := !(l.any Num.isNan) && l.any Num.isInf
  if l.any fun a => !a.finite then { entry := some 255, body := .inl (x.map fun _ => 0), ind := b2n inv, inv := inv || invOf x }
  else
    let am := amaxOf l
    let emax : Int := if e = 6 then 8 else if e = 7 then 15 else if e = 8 then 4 else if e = 11 then 0 else 2
    let ex : Int := match am with
      | .fin _ n d => if n = 0 then -127 else max (-127) (floorLog2 n d - emax)
      | _ => -127
    let cs := x.map fun a => if a.out then (0, Ind.none) else f.put true 0 (a.v.mul (.dyad false 1 (-ex))).1
    { entry := some (ex + 127).toNat, body := .inl (cs.map Prod.fst), ovf := cs.any fun c => c.2 != Ind.none
      amax := f32 am, ind := cs.foldl (fun m c => Nat.lor m (indBit c.2)) 0, inv := invOf x }

/-- A group of a non-MX tensor under scale entry `e`. -/
def scaleGroup (q : QD) (f : EF) (satfp : Bool) (entry : Option Nat) (e : Nat) (x : List Elem) : WGrp :=
  let l := partOf x
  let s := q.scaleOf e
  let z := if q.zmode = 1 then zpOf f q.zp else if q.zmode = 2 then zpOf f (e / 65536 % 256) else 0
  let one (a : Elem) : Nat × Ind :=
    if a.out then (0, .none)
    else
      let d := a.v.div s
      let c := f.put satfp z d.1
      (c.1, d.2.first c.2)
  let cs := x.map one
  let ovf := cs.any fun c => c.2 == Ind.sat || c.2 == Ind.inf
  let am := amaxOf l
  let small := ((am.mul (.ofInt (2 ^ q.ushift))).1).lt (s.mul (.ofInt (boundOf q.efmt))).1
  { entry := entry, body := .inl (cs.map Prod.fst), ovf := ovf, under := !ovf && q.ushift != 0 && small, amax := f32 am
    ind := cs.foldl (fun m c => Nat.lor m (indBit c.2)) 0, inv := invOf x || cs.any fun c => c.2 == Ind.inv }

/-- A group whose entry in the tensor is the constant-group code, which never acts as a scale (R200): the manual gives no
scale to encode it with, so codes, OVF, UNDER and INF or SAT are free values (log entry 100). -/
def unscaledGroup (f : EF) (fv : Nat → Nat) (x : List Elem) : WGrp :=
  { entry := none, body := .inl (x.zipIdx.map fun a => if a.1.out then 0 else fv a.2 % 2 ^ f.bits)
    ovf := fv x.length % 2 == 1, under := fv x.length % 4 == 2, amax := f32 (amaxOf (partOf x))
    ind := fv (x.length + 1) % 4 * 2, inv := invOf x }

/-- One group of an output: `old` is the entry in the tensor, `new` the one of the record when SHIST = 1. -/
def putGroup (q : QD) (satfp : Bool) (fv : Nat → Nat) (old : Nat) (new : Option Nat) (x : List Elem) : WGrp :=
  let f := q.ef
  if q.mx then mxGroup q.efmt f x
  else
    match new with
    | some e =>
      match constOf (partOf x) with
      | some c =>
        let code := if q.sfmt = 0 then 0x80 else if q.sfmt = 2 then 0x80000000 else 0x8000
        { entry := some code, body := .inr (f32 c), amax := f32 (amaxOf (partOf x)), inv := invOf x }
      | none => scaleGroup q f satfp (some e) e x
    | none => if q.isConst old then unscaledGroup f fv x else scaleGroup q f satfp none old x

/-! ### A grouped output as a whole (R208, R210 to R217) -/

/-- Free bytes (log entry 2). -/
def State.freeBytes (s : State) : Nat → State × List Byte
  | 0 => (s, [])
  | k + 1 =>
    let r := s.useFree.freeBytes k
    (r.1, BitVec.ofNat 8 s.freeVal :: r.2)

/-- The element bytes of a group; those of a constant group beyond its offset are not stated. -/
def State.groupBytes (s : State) (w : Nat) (n : Nat) (g : WGrp) : State × List Byte :=
  match g.body with
  | .inl cs => (s, packCodes w cs)
  | .inr off =>
    let r := s.freeBytes (w * n / 8 - 4)
    (r.1, leBytes 4 off ++ r.2)

/-- Cut a row into groups. -/
def cutGroups {α : Type} (g : Nat) : Nat → List α → List (List α)
  | 0, _ => []
  | k + 1, l => l.take g :: cutGroups g k (l.drop g)

/-- Read the scale entries an output already has; `rows` × NG of them. -/
def Rd.oldScales (r : Rd) (t : TD) : Rd × List Nat :=
  if t.q.mx || t.q.shist then (r, [])
  else
    let w := t.q.sw
    let x := r.bytes t.q.scale (t.rows * t.q.ng * w)
    (x.1, (List.range (t.rows * t.q.ng)).map fun p => leAt x.2 (w * p) w)

/-- Write one group, and its entry. -/
def State.writeGroup (s : State) (n : Nat) (t : TD) (poison : Bool) (i g : Nat) (len : Nat) (x : WGrp) : State :=
  let w := t.ef.bits
  let b := s.groupBytes w len x
  let s := b.1.engWrite n (t.addr + i * t.stride + g * t.q.g * w / 8) b.2 poison
  match x.entry with
  | some e => s.engWrite n (t.q.scale + (i * t.q.ng + g) * t.q.sw) (leBytes t.q.sw e) poison
  | none => s

/-- Saturating 32-bit count. -/
def sat32 (v : Nat) : Nat := min (2 ^ 32 - 1) v

/-- The record after a step (R212), as bytes: its head, and the ring slot at HEAD. -/
def Hist.update (x : Hist) (gs : List WGrp) (rerun : Bool) : List Byte × List Byte :=
  let am := gs.map WGrp.amax
  let slot := if x.gran then [am.foldl max 0] else am
  let head := (x.head + 1) % x.h
  let count := if x.count < x.h then x.count + 1 else x.count
  let c (f : WGrp → Bool) : Nat := (gs.filter f).length
  (leBytes 4 head ++ leBytes 4 count ++ leBytes 4 x.init ++ [0, 0, 0, 0] ++ leBytes 8 (x.step + 1) ++
    leBytes 4 (sat32 (x.ovf + c WGrp.ovf)) ++ leBytes 4 (sat32 (x.under + c WGrp.under)) ++
    leBytes 4 (sat32 (x.const + c WGrp.const)) ++
    leBytes 4 (sat32 (x.rerun + b2n rerun)),
   slot.flatMap (leBytes 4))

/-- Index of the first element of a list that satisfies a test. -/
def firstIdx {α : Type} (p : α → Bool) : Nat → List α → Option Nat
  | _, [] => none
  | k, a :: r => if p a then some k else firstIdx p (k + 1) r

/-- The outlier channels of an output (R221).  No descriptor field names them to a writer, so up to COLS ÷ 64 of them are a
free function of the tensor's address (log entry 101). -/
def TD.outliers (t : TD) : List Bool :=
  let l := ((Config.outliersOf t.addr).filter fun c => decide (c < t.cols)).eraseDups.take (t.cols / 64)
  (List.range t.cols).map fun c => l.contains c

/-- POLICY in force: DEFAULT is resolved when the binding is loaded (R215), which no register shows, so it is a free
function of binding and epoch (log entry 102). -/
def State.policy (s : State) (n : Nat) (q : QD) : Nat :=
  if q.policy = 0 then (if Config.launches (s.cxBind n) (s.cxEpoch n) then 1 else 2) else q.policy

/-- Write a grouped output: rows of exact values with their indications; `old` as `Rd.oldScales` reads it.  The record and
the status word follow when the command completes (R208, R212). -/
def State.putGrouped (s : State) (n : Nat) (t : TD) (satfp poison : Bool) (old : List Nat) (h : Hist) (rows : List (List (Num × Nat))) : State :=
  let q := t.q
  let marks := t.outliers
  let elems (r : List (Num × Nat)) : List Elem := r.zipIdx.map fun x => { v := x.1.1, out := marks.getD x.2 false, ind := x.1.2 }
  let cut := (rows.map elems).flatMap fun r => cutGroups q.g q.ng r
  let scale (p : Nat) : Option Nat := if q.shist then some (h.scaleAt q p) else none
  let fv (p i : Nat) : Nat := (Config.freeValue (s.free + 256 * p + i)).toNat
  let gs := (cut.zip (List.range cut.length)).map fun x => putGroup q satfp (fv x.2) (old.getD x.2 0) (scale x.2) x.1
  let s := s.useFree (256 * cut.length)
  let put (s : State) (x : (WGrp × List Elem) × Nat) : State :=
    s.writeGroup n t poison (x.2 / q.ng) (x.2 % q.ng) x.1.2.length x.1.1
  let s := ((gs.zip cut).zip (List.range cut.length)).foldl put s
  let ovf := gs.any WGrp.ovf
  let rerun := ovf && s.policy n q == 2
  let alt := rows.map fun r => r.map fun x => bf16.encode false x.1
  let s := if rerun then
      (alt.zip (List.range rows.length)).foldl (fun s r =>
        (s.engWrite n (q.alt + r.2 * t.cols * 2) (packCodes 16 (r.1.map Prod.fst)) poison).indicate n
          (r.1.foldl (fun m c => Nat.lor m (indBit c.2)) 0)) s
    else s
  let rerunOvf := rerun && alt.any fun r => r.any fun x => x.2 == Ind.inf
  let s := if q.shist then
      let u := h.update gs rerun
      (s.atEnd n (q.hist + 8) u.1 poison).atEnd n (q.hist + 64 + h.head * h.ngroups * 4) u.2 poison
    else s
  let word := b2n ovf + 2 * b2n (gs.any WGrp.under) + 4 * b2n rerun + 8 * b2n (ovf && !rerun) + 16 * b2n (gs.any WGrp.inv) + 32 * b2n rerunOvf
  let qsw := leBytes 4 word ++ leBytes 4 (gs.filter WGrp.ovf).length ++ leBytes 4 (gs.filter WGrp.under).length ++
    leBytes 4 ((firstIdx WGrp.ovf 0 gs).getD 0xFFFFFFFF)
  (s.atEnd n q.qsw qsw poison).indicate n (gs.foldl (fun m g => Nat.lor m g.ind) 0)

/-- Write a plain output row: the codes, and the indications. -/
def State.putRow (s : State) (n : Nat) (t : TD) (satfp poison : Bool) (i : Nat) (x : List Num) : State :=
  let cs := x.map (t.ef.put satfp 0)
  (s.engWrite n (t.addr + i * t.stride) (packCodes t.ef.bits (cs.map Prod.fst)) poison).indicate n
    (cs.foldl (fun m c => Nat.lor m (indBit c.2)) 0)

/-- What a writer of a tensor reads beforehand: the scales and the record of a grouped output. -/
def Rd.forOutput (r : Rd) (t : TD) : Rd × List Nat × Hist :=
  if !t.quant then (r, [], {})
  else
    let x := r.oldScales t
    if t.q.shist then let y := x.1.hist t; (y.1, x.2, y.2) else (x.1, x.2, {})

/-- Write a whole output. -/
def State.putTensor (s : State) (n : Nat) (t : TD) (satfp poison : Bool) (old : List Nat) (h : Hist) (rows : List (List (Num × Nat))) : State :=
  if t.quant then s.putGrouped n t satfp poison old h rows
  else (rows.zip (List.range rows.length)).foldl (fun s r => s.putRow n t satfp poison r.2 (r.1.map Prod.fst)) s

end Sys2Proof.Machine
end

