-- ==== Sys2Proof/Machine/EngRed.lean ====
section
/-! DEFINITION. The reduction engine: collectives on fixed trees, their messages, logs and replay (R288 to R292, R485,
R510, R516).  The rules give COLL messages no payload layout, so a message's first data unit is the model's own: STEP,
tree position and byte offset; the result on its way down has position 4,096. -/

namespace Sys2Proof.Machine

/-! ### Contributions in a staging buffer -/

/-- The part of a buffer, step and position. -/
def partFind (l : List CollPart) (buf step pos : Nat) : Option CollPart :=
  l.find? fun p => p.buf == buf && p.step == step && p.pos == pos

/-- Take in bytes from an offset on, at an instant: a second message of the same part is discarded (R510). -/
def partTake (l : List CollPart) (buf step pos off : Nat) (data : List Byte) (at_ : Tick) : List CollPart :=
  match partFind l buf step pos with
  | none => if off = 0 then l ++ [{ buf := buf, step := step, pos := pos, data := data, at_ := at_ }] else l
  | some p => if off = p.data.length then (l.filter fun q => q != p) ++ [{ p with data := p.data ++ data, at_ := at_ }] else l

/-- Parts in the order of their last bytes, those of one instant in ascending position (R290). -/
def partInsert (p : CollPart) : List CollPart → List CollPart
  | [] => [p]
  | q :: r => if q.at_ < p.at_ ∨ (q.at_ = p.at_ ∧ q.pos < p.pos) then q :: partInsert p r else p :: q :: r

/-- Position of a result on its way down. -/
abbrev downPos : Nat := 4096

/-! ### Messages -/

/-- Send bytes to a chip's staging buffer, in messages of at most 15 units after the first (R438). -/
def State.collSend (n chip buf step pos : Nat) : Nat → State → Nat → List Byte → State
  | 0, s, _, _ => s
  | f + 1, s, off, l =>
    let unit0 := leBytes 8 step ++ leBytes 2 pos ++ leBytes 4 off ++ [0, 0]
    let r : MemReq := { id := 0, issuer := .ctx n (s.cx n).slot, addr := chip * 2 ^ 48 + buf % 2 ^ 48, write := true, coll := true
                        data := unit0 ++ l.take 240, bind := s.cxBind n, epoch := s.cxEpoch n }
    let s := s.issue r
    if l.length ≤ 240 then s else State.collSend n chip buf step pos f s (off + 240) (l.drop 240)

def State.sendPart (s : State) (n chip buf step pos : Nat) (l : List Byte) : State :=
  State.collSend n chip buf step pos (l.length / 240 + 1) s 0 l

/-! ### The descriptor (R288) -/

/-- A collective: its descriptor, group and tensors. -/
structure Coll where
  kind : Nat := 0
  src : TD := {}
  dst : TD := {}
  group : List Byte := []
  p : Nat := 1
  rank : Nat := 0
  fanin : Nat := 2
  op : Nat := 0
  log : Bool := false
  root : Nat := 0
  step : Nat := 0
  buf : Nat := 0
  deriving DecidableEq, Repr

/-- Tree position of this member. -/
def Coll.q (c : Coll) : Nat := (c.rank + c.p - c.root) % c.p
/-- The chip at a tree position. -/
def Coll.chipAt (c : Coll) (q : Nat) : Nat := leAt c.group (2 * ((q + c.root) % c.p)) 2
/-- The rank at a tree position. -/
def Coll.rankAt (c : Coll) (q : Nat) : Nat := (q + c.root) % c.p
/-- The children of a position (R289). -/
def Coll.kids (c : Coll) (q : Nat) : List Nat := ((List.range c.fanin).map fun i => c.fanin * q + 1 + i).filter fun i => decide (i < c.p)
/-- The parent of a position. -/
def Coll.parent (c : Coll) (q : Nat) : Nat := (q - 1) / c.fanin
/-- The positions of a subtree. -/
def Coll.inTree (c : Coll) (q : Nat) : Nat → Nat → Bool
  | 0, _ => false
  | f + 1, x => x == q || (decide (q < x) && c.inTree q f (c.parent x))
def Coll.subtree (c : Coll) (q : Nat) : List Nat := (List.range c.p).filter fun x => c.inTree q 13 x

/-- The element types of R288. -/
def collFmt (t : TD) : Bool := !t.quant && (t.dfmt == 8 || t.dfmt == 6 || t.dfmt == 10)

/-- Bytes of the output. -/
def Coll.outLen (c : Coll) : Nat := c.dst.rows * c.dst.bytes

/-- Read a collective. -/
def Rd.coll (r : Rd) (kind a : Nat) : Rd × Coll :=
  let x := (r.align a 16).bytes a 64
  let l := x.2
  let ctrl := leAt l 0x18 4
  let p := ctrl % 4096 + 1
  let y := x.1.td (leAt l 0 8) false
  let z := y.1.td (leAt l 8 8) true
  let g := z.1.bytes (leAt l 0x10 8) (2 * p)
  let c : Coll := { kind := kind, src := y.2, dst := z.2, group := g.2, p := p, rank := fld ctrl 23 12, fanin := fld ctrl 27 24, op := fld ctrl 29 28
                    log := bit ctrl 30, root := leAt l 0x1C 4, step := leAt l 0x20 8, buf := leAt l 0x28 8 }
  let shape : Bool :=
    if kind = 1 then c.dst.cols * p == c.src.cols && c.dst.rows == c.src.rows
    else if kind = 2 then c.src.cols * p == c.dst.cols && c.dst.rows == c.src.rows
    else c.dst.cols == c.src.cols && c.dst.rows == c.src.rows
  (g.1.want (!bit ctrl 31 && decide (c.rank < p) && decide (c.root < p) && (c.fanin == 2 || c.fanin == 4 || c.fanin == 8) &&
    decide (c.op < 3) && leAt l 0x30 8 == 0 && leAt l 0x38 8 == 0 && collFmt c.src && collFmt c.dst &&
    ((c.src.dfmt == 10) == (c.dst.dfmt == 10)) && shape), c)

/-! ### Values: FP32 bits or INT32 patterns in a tree, element codes in ALLGATHER and BCAST -/

/-- A BF16 code as FP32: a conversion, so that a NaN becomes the canonical one (R180, R191). -/
def bf16To32 (code : Nat) : Nat := (fp32.encode false (bf16.decode code)).1

/-- An element code as a tree value. -/
def Coll.lift (c : Coll) (code : Nat) : Nat := if c.src.dfmt = 6 then bf16To32 code else code

/-- One addition, MAX or MIN of R289, with its indications. -/
def Coll.join (c : Coll) (a b : Nat) : Nat × Nat :=
  if c.src.dfmt = 10 then
    let x := signed 32 a
    let y := signed 32 b
    if c.op = 0 then (ofSigned 32 (satInt 32 (x + y)), if satInt 32 (x + y) = x + y then 0 else 4)
    else (ofSigned 32 (if c.op = 1 then max x y else min x y), 0)
  else if c.op = 0 then let r := f32Add a b; (r.1, indBit r.2)
  else (if c.op = 1 then fmaxF a b else fminF a b, 0)

/-- Add a child's values to a node's. -/
def Coll.joinAll (c : Coll) (a : List Nat × Nat) (b : List Nat) : List Nat × Nat :=
  let l := (a.1.zip b).map fun p => c.join p.1 p.2
  (l.map Prod.fst, l.foldl (fun m p => Nat.lor m p.2) a.2)

def words (l : List Byte) : List Nat := (List.range (l.length / 4)).map fun i => leAt l (4 * i) 4
def unwords (l : List Nat) : List Byte := l.flatMap (leBytes 4)

/-- Tree values as codes of the output, with indications: FP32 to BF16 rounds. -/
def Coll.lower (c : Coll) (tree : Bool) (satfp : Bool) (v : Nat) : Nat × Nat :=
  let from32 : Bool := tree || c.src.dfmt == 8
  if c.dst.dfmt = 10 then (v, 0)
  else if c.dst.dfmt = 8 then (if from32 then v else bf16To32 v, 0)
  else if from32 then let r := bf16.encode satfp (fp32.decode v); (r.1, indBit r.2)
  else (v, 0)

/-- Every element of the input, row after row. -/
def Rd.allCodes (r : Rd) (t : TD) : Rd × List Nat :=
  let x := Rd.each (fun r i => r.codes t i) r (List.range t.rows)
  (x.1, x.2.flatten)

/-- Columns [a, a + k) of each of `rows` rows of `cols` elements. -/
def colsOf (rows cols a k : Nat) (l : List Nat) : List Nat :=
  (List.range rows).flatMap fun i => ((l.drop (i * cols + a)).take k)

/-- The output of an all-gather: per row, the members' rows in rank order. -/
def Coll.concat (c : Coll) (parts : List (List Nat)) : List Nat :=
  (List.range c.src.rows).flatMap fun i => parts.flatMap fun l => (l.drop (i * c.src.cols)).take c.src.cols

/-! ### Finishing -/

/-- Write the output and, with LOG, the log entry (R291). -/
def State.collWrite (s : State) (n : Nat) (c : Coll) (poison : Bool) (out : List Byte) : State :=
  let k := c.dst.bytes
  let s := (List.range c.dst.rows).foldl (fun s i => s.engWrite n (c.dst.addr + i * c.dst.stride) ((out.drop (i * k)).take k) poison) s
  if c.log then
    let cfg := s.reg (cxB n + 0x88)
    let e := s.reg64 (cxB n + 0x80) + c.step % (max 1 (fld cfg 7 0)) * (16 * fld cfg 23 8)
    s.engWrite n e (leBytes 8 c.step ++ leBytes 4 c.outLen ++ [0, 0, 0, 0] ++ out) poison
  else s

/-- The output bytes of element codes, row by row. -/
def Coll.outBytes (c : Coll) (codes : List Nat) : List Byte :=
  (List.range c.dst.rows).flatMap fun i => packCodes c.dst.ef.bits ((codes.drop (i * c.dst.cols)).take c.dst.cols)

/-- Older parts of the buffer are no longer needed once a step completes. -/
def State.partsDone (s : State) (c : Coll) : State :=
  let b := c.buf % 2 ^ 48
  { s with eng := { s.eng with parts := s.eng.parts.filter fun p => !(p.buf == b && decide (p.step < c.step))
                               collDone := (b, c.step) :: s.eng.collDone.filter fun e => e != (b, c.step) } }

/-- A step has been completed on a buffer. -/
def State.collPast (s : State) (buf step : Nat) : Bool := s.eng.collDone.contains (buf, step)

/-- The buffer of a collective holds a message of a STEP that is neither this one nor completed (R288). -/
def State.collOther (s : State) (c : Coll) (p : CollPart) : Bool :=
  p.buf == c.buf % 2 ^ 48 && p.step != c.step && !s.collPast p.buf p.step

/-- The messages of another STEP are taken out with the fault they cause. -/
def State.dropOther (s : State) (c : Coll) : State :=
  { s with eng := { s.eng with parts := s.eng.parts.filter fun p => !s.collOther c p } }

/-- ARRIVAL is asked for, and is not ignored (R290, R485). -/
def State.arrival (s : State) (w : Nat) : Bool := bit (opfE w) 0 && !s.rb 0x670080 0 && !s.rb 0x48 18

/-- Count an ARRIVAL request at the node where it takes effect or is ignored (R290, R484). -/
def State.countArrival (s : State) (n w kids : Nat) : State :=
  if !bit (opfE w) 0 then s
  else if !s.arrival w then s.inc 0x670084
  else if 2 ≤ kids then s.tdc (s.cxBind n) else s

/-- The result, at the end of its way down, as output. -/
def Coll.finish (c : Coll) (n : Nat) (w : Nat) (tree poison : Bool) (s : State) (vals : List Nat) : EngOut :=
  let o := vals.map (c.lower tree (satfpE w))
  let s := s.indicate n (o.foldl (fun m x => Nat.lor m x.2) 0)
  .done ((s.collWrite n c poison (c.outBytes (o.map Prod.fst))).partsDone c)

/-! ### Running -/

/-- The part from a position. -/
def State.part (s : State) (c : Coll) (pos : Nat) : Option CollPart := partFind s.eng.parts (c.buf % 2 ^ 48) c.step pos

/-- Remember that this member has sent its part up. -/
def State.sentUp (s : State) (c : Coll) : State :=
  { s with eng := { s.eng with parts := partTake s.eng.parts (c.buf % 2 ^ 48) c.step c.q 0 [0] s.clk.now } }

/-- Send the result down to this position's children. -/
def State.sendDown (s : State) (n : Nat) (c : Coll) (l : List Byte) : State :=
  (c.kids c.q).foldl (fun s k => s.sendPart n (c.chipAt k) c.buf c.step downPos l) s

/-- Wait for messages: the reads made so far are made again. -/
def waitParts (s : State) : EngOut := .read s []

/-- A whole part has arrived. -/
def State.partFull (s : State) (c : Coll) (pos len : Nat) : Option (List Nat) :=
  match s.part c pos with
  | some p => if p.data.length = 4 * len then some (words p.data) else none
  | none => none

/-- The children in the order in which they are added. -/
def State.kidOrder (s : State) (c : Coll) (w : Nat) : List Nat :=
  if s.arrival w then
    let mine := s.eng.parts.filter fun p => p.buf == c.buf % 2 ^ 48 && p.step == c.step && (c.kids c.q).contains p.pos
    (mine.foldr partInsert []).map CollPart.pos
  else c.kids c.q

/-- A node's sum: its own values, then those of its children in their order. -/
def State.combined (s : State) (c : Coll) (w : Nat) (own : List Nat) : List Nat × Nat :=
  (s.kidOrder c w).foldl (fun a k => match s.partFull c k own.length with | some l => c.joinAll a l | none => a) (own.map c.lift, 0)

/-- The slice of a rank (REDSCAT). -/
def Coll.slice (c : Coll) (r : Nat) (l : List Nat) : List Nat := colsOf c.src.rows c.src.cols (r * c.dst.cols) c.dst.cols l

/-- ALLREDUCE and REDSCAT: up the tree, and down again or to the owner of each slice. -/
def collReduce (s0 s : State) (n w : Nat) (c : Coll) (own : List Nat) (poison : Bool) : EngOut :=
  let size := own.length
  let slice := c.dst.rows * c.dst.cols
  let resLen := if c.kind = 1 then slice else size
  let kids := c.kids c.q
  let got := kids.filterMap fun k => s.partFull c k size
  if c.q = 0 then
    if got.length < kids.length then waitParts s0
    else
      let r := s.combined c w own
      let s := (s.countArrival n w kids.length).indicate n r.2
      let s :=
        if c.kind = 1 then
          ((List.range c.p).drop 1).foldl (fun s q => s.sendPart n (c.chipAt q) c.buf c.step downPos (unwords (c.slice (c.rankAt q) r.1))) s
        else s.sendDown n c (unwords r.1)
      c.finish n w true poison s (if c.kind = 1 then c.slice c.rank r.1 else r.1)
  else
    match s.partFull c downPos resLen with
    | some res =>
      let s := if c.kind = 1 then s else s.sendDown n c (unwords res)
      c.finish n w true poison s res
    | none =>
      if (s.part c c.q).isSome ∨ got.length < kids.length then waitParts s0
      else
        let r := s.combined c w own
        let s := ((s0.countArrival n w kids.length).indicate n r.2).sentUp c
        waitParts (s.sendPart n (c.chipAt (c.parent c.q)) c.buf c.step c.q (unwords r.1))

/-- ALLGATHER: every part to the root, and the whole down. -/
def collGather (s0 s : State) (n w : Nat) (c : Coll) (own : List Nat) (poison : Bool) : EngOut :=
  let size := own.length
  let below := (c.subtree c.q).filter fun x => x != c.q
  let piece (x : Nat) : Option (List Nat) := if x = c.q then some own else s.partFull c x size
  let have_ := below.filterMap piece
  if c.q = 0 then
    if have_.length < below.length then waitParts s0
    else
      let parts := (List.range c.p).map fun r => (piece ((r + c.p - c.root) % c.p)).getD []
      let all := c.concat parts
      c.finish n w false poison (s.sendDown n c (unwords all)) all
  else
    match s.partFull c downPos (size * c.p) with
    | some all => c.finish n w false poison (s.sendDown n c (unwords all)) all
    | none =>
      if (s.part c c.q).isSome ∨ have_.length < below.length then waitParts s0
      else
        let send (s : State) (x : Nat) : State := s.sendPart n (c.chipAt (c.parent c.q)) c.buf c.step x (unwords ((piece x).getD []))
        waitParts ((c.subtree c.q).foldl send (s0.sentUp c))

/-- BCAST: the root's input down the tree. -/
def collBcast (s0 s : State) (n w : Nat) (c : Coll) (own : List Nat) (poison : Bool) : EngOut :=
  if c.q = 0 then c.finish n w false poison (s.sendDown n c (unwords own)) own
  else
    match s.partFull c downPos (c.src.rows * c.src.cols) with
    | some all => c.finish n w false poison (s.sendDown n c (unwords all)) all
    | none => waitParts s0

/-- The highest logged STEP that a context in replay takes from its log (R516); none outside replay. -/
def State.replayTop (s : State) (n : Nat) : Option Nat := (s.rv.replaying.find? fun p => p.1 == n).map Prod.snd

/-- A logged collective in replay takes its output from the log (R291). -/
def collReplay (r : Rd) (n : Nat) (c : Coll) : EngOut :=
  let cfg := r.s.reg (cxB n + 0x88)
  let e := r.s.reg64 (cxB n + 0x80) + c.step % (max 1 (fld cfg 7 0)) * (16 * fld cfg 23 8)
  let x := r.bytes e 16
  if x.1.ok && (leAt x.2 0 8 != c.step || leAt x.2 8 4 != c.outLen) then .fault x.1.s Code.REPLAY_MISS none
  else
    let y := x.1.bytes (e + 16) c.outLen
    y.1.out r.s fun s poison => .done (s.collWrite n { c with log := false } poison y.2)

/-- Clove sets FORCE_FIXED through a replay, and gives it back afterwards (R290, R490). -/
def State.forceFixed (s : State) : State :=
  if s.rv.forced.isSome then s
  else ({ s with rv := { s.rv with forced := some (s.rb 0x670080 0) } }).setRb 0x670080 0 true
def State.unforce (s : State) : State :=
  match s.rv.forced with
  | none => s
  | some b => ({ s with rv := { s.rv with forced := none } }).setRb 0x670080 0 b

/-- A context leaves the replay of R516; with the last one FORCE_FIXED is no longer forced. -/
def State.leaveReplay (s : State) (n : Nat) : State :=
  let l := s.rv.replaying.filter fun p => p.1 != n
  let s := { s with rv := { s.rv with replaying := l } }
  if l.isEmpty then s.unforce else s

/-- A collective as it is read, and whether its slot of the log is large enough. -/
def Rd.collD (r : Rd) (kind w : Nat) : Rd × Coll :=
  let a := r.coll kind (operE w)
  (a.1.want (!a.2.log || decide (a.2.outLen + 16 ≤ 16 * r.s.rf (cxB r.n + 0x88) 23 8)), a.2)

/-- The member's own input; a BCAST reads the root's alone. -/
def Rd.collOwn (r : Rd) (c : Coll) : Rd × List Nat := if c.kind = 3 ∧ c.q ≠ 0 then (r, []) else r.allCodes c.src

/-- A collective by its kind: 0 = ALLREDUCE; 1 = REDSCAT; 2 = ALLGATHER; 3 = BCAST.  A member that has received a message of
another STEP ends in COLL_MISMATCH; a replay of Clove's runs beside what has arrived since (R288, R510; log entry 106). -/
def collSem (kind : Nat) : EngSem := fun s n w =>
  let a := ({ s := s, n := n } : Rd).collD kind w
  let c := a.2
  let r := a.1
  if !r.ok then r.out s fun s _ => .done s
  else
    let top := s.replayTop n
    if c.log && top.any (fun t => decide (c.step ≤ t)) then collReplay r n c
    else if s.rv.replay != some n && s.eng.parts.any (s.collOther c) then .fault (s.dropOther c) Code.COLL_MISMATCH none
    else
      let s0 := if c.log && top.isSome then s.leaveReplay n else s
      let r := if c.log && top.isSome then { r with s := r.s.leaveReplay n } else r
      let x := r.collOwn c
      x.1.out s0 fun s poison =>
        if kind < 2 then collReduce s0 s n w c x.2 poison
        else if kind = 2 then collGather s0 s n w c x.2 poison
        else collBcast s0 s n w c x.2 poison

/-! ### A message arrives (R288, R289, R510) -/

/-- BUF and STEP of the collective that a context is executing. -/
def State.collNow (s : State) (n : Nat) : Option (Nat × Nat) :=
  let w := s.slotWord n (s.cx n).slot
  if (s.cx n).phase == .reading && decide (0x40 ≤ opE w) && decide (opE w ≤ 0x43) then
    let c := (({ s := s, n := n } : Rd).coll 0 (operE w)).2
    some (c.buf % 2 ^ 48, c.step)
  else none

/-- The staging buffer receives a message: a context that executes a collective with this buffer and another STEP
ends in COLL_MISMATCH. -/
def State.collArrive (s : State) (off : Nat) (data : List Byte) : State :=
  let step := leAt data 0 8
  let pos := leAt data 8 2
  let at_ := leAt data 10 4
  let old := partFind s.eng.parts off step pos
  let dup : Bool := match old with | some p => decide (at_ < p.data.length) | none => s.collPast off step
  if dup then s
  else
    let s := { s with eng := { s.eng with parts := partTake s.eng.parts off step pos at_ (data.drop 16) s.clk.now } }
    let bad := ((List.range 4).map (52 + ·)).filter fun n => match s.collNow n with
      | some (b, t) => b == off && t != step && s.rv.replay != some n
      | none => false
    let s := if bad.isEmpty then s else { s with eng := { s.eng with parts := s.eng.parts.filter fun p => !(p.buf == off && p.step == step) } }
    bad.foldl (fun s n => s.cxFault n Code.COLL_MISMATCH (s.cx n).slot) s

/-- ALLREDUCE. -/
def execAllreduce (t : Tick) (ctx : Nat) (s : State) : Result :=
  .next ((s.advanceTo t).cxRun ctx (fun o => engOp ctx o 0x40) false (collSem 0))
/-- REDSCAT. -/
def execRedscat (t : Tick) (ctx : Nat) (s : State) : Result :=
  .next ((s.advanceTo t).cxRun ctx (fun o => engOp ctx o 0x41) false (collSem 1))
/-- ALLGATHER. -/
def execAllgather (t : Tick) (ctx : Nat) (s : State) : Result :=
  .next ((s.advanceTo t).cxRun ctx (fun o => engOp ctx o 0x42) false (collSem 2))
/-- BCAST. -/
def execBcast (t : Tick) (ctx : Nat) (s : State) : Result :=
  .next ((s.advanceTo t).cxRun ctx (fun o => engOp ctx o 0x43) false (collSem 3))

end Sys2Proof.Machine
end

