-- ==== Sys2Proof/Machine/Nenath.lean ====
section
/-! DEFINITION. The commands of the Nenath fabric: ports, flits, messages, recovery of destinations and time transfer
(R431 to R455). -/

namespace Sys2Proof.Machine

/-! ### The link layer (R435 to R437) -/

/-- The header fields of a good flit: acknowledged flits leave the replay buffer, credit comes back, a NAK asks for
everything after ACK. -/
def State.flitHeader (s : State) (p : Nat) (l : List Byte) : State :=
  let n := s.np p
  let ack := flitAck l
  let s :=
    if flitAckValid l then
      match n.replay.find? fun f => f.seq == ack with
      | none => s
      | some f =>
        let rest := (n.replay.dropWhile fun g => g.seq != ack).drop 1
        (s.setReg (nfB p + 0xC) ((s.clk.now - f.sent) / tns)).setNp p { n with replay := rest }
    else s
  let n := s.np p
  let credit := (List.range 4).foldl (fun m vc => Sparse.set (fun _ => 0) m vc (Sparse.get (fun _ => 0) m vc + flitCredit l vc)) n.credit
  let s := s.setNp p { n with credit := credit }
  let s := if flitNak l then s.resend p else s
  State.npFlush ((s.np p).tx.length + 1) s p

/-- A flit with a bad CRC. -/
def State.badFlit (s : State) (p : Nat) : State := s.inc (nfB p + 0x30)

/-- A whole message has arrived.  One of a reserved OP is nobody's: its units are free again, and nothing else happens
(DESIGN CHOICE, log entry 32). -/
def NPort.gotMsg (n : NPort) (m : Msg) : NPort :=
  if m.op ≤ Op.COLL then { n with units := [], rx := n.rx ++ [m] }
  else { n with units := [], freed := Sparse.set (fun _ => 0) n.freed m.vc (Sparse.get (fun _ => 0) n.freed m.vc + 1 + m.units) }

/-- The units of an accepted flit become messages. -/
def State.takeUnit (s : State) (p : Nat) (code : Nat) (u : List Byte) : State :=
  let n := s.np p
  let units := if code = 1 then [u] else if code = 2 ∧ n.units ≠ [] then n.units ++ [u] else n.units
  match units with
  | [] => s
  | h :: r =>
    if (code = 1 ∨ code = 2) ∧ headUnits h ≤ r.length then s.setNp p (n.gotMsg (msgOf h r.flatten))
    else s.setNp p { n with units := units }

/-- A DATA flit (R436). -/
def State.dataFlit (s : State) (p : Nat) (l : List Byte) : State :=
  if !s.npOn p || s.npState p != 2 || flitType l != 1 then s
  else if !flitOk l then (s.badFlit p).sendIdle p true
  else
    let s := s.flitHeader p l
    let n := s.np p
    if flitSeq l ≠ (n.rxSeq + 1) % 4096 then s
    else
      let s := (s.setNp p { n with rxSeq := flitSeq l, rxAny := true }).inc64 (nfB p + 0x28)
      ((List.range 30).foldl (fun s u => s.takeUnit p (flitDir l u) (flitUnit l u)) s).sendIdle p

/-- A flit of another type: discarded and counted when its CRC is bad. -/
def State.otherFlit (s : State) (p : Nat) (l : List Byte) (type : Nat) (f : State → State) : State :=
  if !s.npOn p || s.npState p < 2 || flitType l != type then s
  else if !flitOk l then s.badFlit p
  else f s

/-- A RECOVER flit. -/
def State.recoverIn (s : State) (p : Nat) (l : List Byte) : State :=
  s.otherFlit p l 2 fun s => if flitCtrl l = 1 ∧ s.npState p = 2 then s.portRecovering p else s

/-- Leave RECOVERING: the ACKs have been exchanged, and what the other side lacks is sent again. -/
def State.portResume (s : State) (p : Nat) (l : List Byte) : State :=
  let s := if (s.np p).resuming then s else s.sendCtrl p 2 0
  let s := (s.setNpState p 2).setRf (nfB p + 4) 9 2 (s.upMask p)
  ((s.flitHeader p l).resend p).sendIdle p

/-- A RESUMED flit. -/
def State.resumedIn (s : State) (p : Nat) (l : List Byte) : State :=
  s.otherFlit p l 2 fun s =>
    if flitCtrl l = 2 ∧ s.npState p = 3 ∧ s.enoughLanes p then s.portResume p l else s

/-- A LANE_MAP flit (R434). -/
def State.laneMapIn (s : State) (p : Nat) (l : List Byte) : State :=
  s.otherFlit p l 2 fun s =>
    if flitCtrl l ≠ 3 ∨ s.npState p ≠ 2 ∨ s.rf (nfB p + 4) 9 2 = flitMask l then s
    else
      let s := s.flitHeader p l
      let s := ((s.setRf (nfB p + 4) 9 2 (flitMask l)).inc (nfB p + 0x38)).event Code.LANE_REMAP p
      (s.resend p).sendIdle p

/-! ### Ports (R433) -/

/-- EN is written. -/
def State.nfEnable (s : State) (p : Nat) (on : Bool) : State :=
  let s := s.setRb (nfB p) 0 on
  if on then s.portTry p
  else (if s.npState p = 2 then s.sendCtrl p 1 0 else s).portDown p

/-- Identities have been exchanged and enough lanes are UP: the link layer starts; what this side can receive is
returned as credit, and the rules do not say how much that is (log entry 2). -/
def State.portUp (s : State) (p peer peerPort : Nat) : State :=
  if !s.enoughLanes p then s
  else if s.npState p = 1 then
    let n := s.np p
    let freed := (List.range 4).map fun vc => (vc, (Config.freeValue (s.free + vc)).toNat % 256)
    let s := (s.useFree 4).setNp p { tx := n.tx, rx := n.rx, freed := freed.foldl (fun m e => Sparse.set (fun _ => 0) m e.1 e.2) [] }
    let s := s.setReg (nfB p + 8) (peer % 65536 + peerPort % 32 * 65536 + 2 ^ 31)
    let s := (s.setNpState p 2).setRf (nfB p + 4) 9 2 (s.upMask p)
    s.sendIdle p
  else if s.npState p = 3 ∧ !(s.np p).resuming then
    let s := s.sendCtrl p 2 0
    s.setNp p { s.np p with resuming := true }
  else s

/-- RECOVERY_GRACE in ticks. -/
def State.grace (s : State) : Nat := s.reg 0x540004 * tms

/-! ### Time transfer (R449) -/

/-- A stamp as a unit. -/
def stampUnit (t : Nat) : List Byte := leBytes 12 (pack96 t) ++ [0, 0, 0, 0]

/-- Send a TIME flit. -/
def State.timeOut (s : State) (p : Nat) : State :=
  let n := s.np p
  let due : Bool := n.timeSent == 0 || decide (n.timeSent + s.rf (nfB p + 0x18) 15 0 * tus ≤ s.clk.now)
  if s.npOn p && s.npState p == 2 && s.rb (nfB p) 1 && due then
    let u := match n.peerTime with
      | some (t1, t2) => stampUnit t1 ++ stampUnit t2
      | none => List.replicate 32 0
    let pay := List.replicate 12 0 ++ u ++ stampUnit s.sn ++ List.replicate 432 0
    (s.setNp p { n with timeSent := s.clk.now }).putFlit p 3 0 false 0 0 pay
  else s

/-- The stamp in a unit. -/
def unitStamp (u : List Byte) : Nat := unpack96 (leAt u 0 12)

/-- The measurement reaches every domain that takes it from this port. -/
def State.nenMeasure (s : State) (p : Nat) (off : Int) : State :=
  [Dom.a, Dom.b].foldl (fun s d =>
    if s.rf (domB d) 2 1 = 2 ∧ s.rf (domB d) 7 3 = p then s.measure d off else s) s

/-- Half of an integer, rounded to nearest, ties to even (R177). -/
def halfRne (x : Int) : Int := if x % 4 = 3 then (x + 1) / 2 else x / 2

/-- Receive a TIME flit. -/
def State.timeIn (s : State) (p : Nat) (l : List Byte) : State :=
  if !s.npOn p || s.npState p != 2 || flitType l != 3 then s
  else if !flitOk l then (s.badFlit p).inc (nfB p + 0x40)
  else
    let t4 : Int := Int.ofNat s.sn
    let st (u : Nat) : Int := Int.ofNat (unitStamp (flitUnit l u))
    let seen := st 0 != 0 || st 1 != 0
    let s := s.flitHeader p l
    let s := s.setNp p { s.np p with peerTime := some (unitStamp (flitUnit l 2), s.sn) }
    if !seen then s
    else
      let a := st 1 - st 0
      let b := t4 - st 2
      let asym := signed 32 (s.reg (nfB p + 0x14))
      (s.setReg (nfB p + 0x10) (ofSigned 32 (halfRne (a + b)))).nenMeasure p (halfRne (a - b + asym))

/-! ### Messages (R438 to R445, R450) -/

/-- Take the message at the head of a source: 0 to 19 = received on that port; 20 = this chip's own requests;
21 = answers this chip's own router gave to it.  Taking a received one frees its units. -/
def State.nenTake (s : State) (src : Nat) : Option (Msg × State) :=
  if src < 20 then
    match (s.np src).rx with
    | [] => none
    | m :: r =>
      let n := s.np src
      let freed := Sparse.set (fun _ => 0) n.freed m.vc (Sparse.get (fun _ => 0) n.freed m.vc + 1 + m.units)
      some (m, (s.setNp src { n with rx := r, freed := freed }).sendIdle src)
  else if src = 20 then
    match s.nen.own with
    | [] => none
    | m :: r => some (m, { s with nen := { s.nen with own := r } })
  else
    match s.nen.self with
    | [] => none
    | m :: r => some (m, { s with nen := { s.nen with self := r } })

/-- A message that has come to this chip: while LOCAL_RECOVERING requests are answered RECOVERING and answers are
dropped. -/
def State.here (s : State) (m : Msg) (f : State → Msg → State) : State :=
  if s.rb 0x540000 1 then (if m.isReq then s.answerMsg m Op.RECOVERING else s.inc 0x540024) else f s m

/-- One message of an operation at a source: forwarded, answered by the router, or given to its target here. -/
def State.nenStep (s : State) (src op : Nat) (f : State → Msg → State) : State :=
  match s.nenTake src with
  | none => s
  | some (m, s1) =>
    if m.op ≠ op then s
    else if 21 ≤ src then s1.here m f
    else
      match s1.routeOf src m with
      | .port p vc => s1.npSend p { m with vc := vc }
      | .here => s1.here m f
      | .none => s1.unroutable m false
      | .recovering => s1.unroutable m true

/-- A READ or WRITE at its target becomes a request there. -/
def State.peerRequest (src : Nat) (s : State) (m : Msg) : State :=
  s.issue { id := 0, issuer := .peer src m, addr := s.global m.addr, write := m.op == Op.WRITE, len := if m.op = Op.READ then 16 * (m.tag / 4096 + 1) else 0
            data := if m.op = Op.READ then [] else m.data, bind := m.bind, epoch := m.epoch, timed := m.timed }

/-- A COLL at its target (R33, R289). -/
def State.peerColl (s : State) (m : Msg) : State :=
  let off := m.addr % 2 ^ 48
  if s.staleAt off m.bind m.epoch then (s.inc 0x6E0008).answerMsg m Op.EPOCH_MISMATCH
  else if (s.target off).noRead then (s.inc 0x6E0004).answerMsg m Op.UNMAPPED
  else (s.collArrive off m.data).answerMsg m Op.WRITE_ACK

/-- The request an answer names leaves the outstanding store. -/
def State.closeReq (s : State) (m : Msg) (f : State → Outst → State) : State :=
  match s.nen.outst.find? fun o => o.tag == m.tag with
  | none => s
  | some o => f { s with nen := { s.nen with outst := s.nen.outst.filter fun x => x.tag != m.tag } } o

/-- An answer with a code, or the data, completes the request. -/
def State.complete (code : Nat) (s : State) (m : Msg) : State :=
  s.closeReq m fun s o => if o.msg.op = Op.PROBE then s else s.answer o.req code ((m.data.drop (o.req.addr % 16)).take o.req.len)

/-- A held or answered request to a LOST destination: PEER_LOST; a duplicate write completes locally (R245). -/
def State.lostReq (s : State) (o : Outst) : State :=
  if o.msg.op = Op.PROBE then s
  else if o.msg.mirror then s.answer o.req 0
  else s.answer o.req Code.PEER_LOST

/-- Mark a destination RECOVERING (R451). -/
def State.destRecovering (s : State) (d : Nat) : State :=
  if s.destSt d ≠ 0 then s
  else
    let s := ((s.setRf (destR d) 1 0 1).inc 0x540014).event Code.PEER_RECOVERING d
    { s with nen := { s.nen with dests := Sparse.set (fun _ => none) s.nen.dests d (some { from_ := s.clk.now, probed := s.clk.now }) } }

/-- A RECOVERING answer at the issuer. -/
def State.recoveringIn (s : State) (m : Msg) : State :=
  match s.nen.outst.find? fun o => o.tag == m.tag with
  | none => s
  | some o =>
    let d := o.msg.dest % 4096
    let s := s.destRecovering d
    if s.destSt d = 2 ∨ o.msg.op = Op.PROBE then s.closeReq m State.lostReq
    else
      let outst := s.nen.outst.map fun x => if x.tag = m.tag then { x with held := true } else x
      ({ s with nen := { s.nen with outst := outst } }).repause

/-- A READY answer at the issuer. -/
def State.readyIn (s : State) (m : Msg) : State :=
  let d := m.addr / 2 ^ 48 % 4096
  let s := s.closeReq m fun s _ => s
  match Sparse.get (fun _ => none) s.nen.dests d with
  | none => s
  | some r =>
    if s.destSt d ≠ 1 then s
    else
      let held := nsBetween r.from_ s.clk.now
      let s := { s with nen := { s.nen with dests := Sparse.set (fun _ => none) s.nen.dests d none } }
      let s := ((s.setRf (destR d) 1 0 0).inc64 0x540018 held).event Code.PEER_RESUMED d (leBytes 8 held)
      if s.injectHeld then s else s.resendHeld d

/-- Send a PROBE to a RECOVERING destination. -/
def State.probe (s : State) (d : Nat) : State :=
  match Sparse.get (fun _ => none) s.nen.dests d with
  | none => s
  | some r =>
    if s.destSt d = 1 ∧ s.canSend ∧ r.probed + s.reg 0x540008 * tus ≤ s.clk.now then
      let addr := (s.chip / 4096 * 4096 + d) * 2 ^ 48
      let s := { s with nen := { s.nen with dests := Sparse.set (fun _ => none) s.nen.dests d (some { r with probed := s.clk.now }) } }
      s.request { id := 0, issuer := .firmware, addr := addr, write := false } { addr := addr, src := s.chip, op := Op.PROBE, tag := 0 }
    else s

/-- MIRRORED regions whose buddy is a chip INDEX enter DEGRADED, until RG_BUDDY is rewritten (R245). -/
def State.degrade (s : State) (d : Nat) : State :=
  (List.range 64).foldl (fun s n =>
    let b := rgB n
    if s.rb (b + 0x10) 0 && s.rf (b + 0x10) 2 1 == 1 && decide (s.reg64 b < 0x2000000000) && s.rf (b + 0x18) 11 0 == d &&
        !s.mem.degraded.contains n then
      ({ s with mem := { s.mem with degraded := NatSet.insert s.mem.degraded n } }.setRb (b + 0x1C) 0 true).event Code.MIRROR_LOST d
    else s) s

/-- A destination becomes LOST (R453). -/
def State.destLost (s : State) (d : Nat) : State :=
  match Sparse.get (fun _ => none) s.nen.dests d with
  | none => s
  | some r =>
    if s.destSt d = 1 ∧ r.from_ + s.grace ≤ s.clk.now then
      let s := { s with nen := { s.nen with dests := Sparse.set (fun _ => none) s.nen.dests d none } }
      let s := ((s.setRf (destR d) 1 0 2).inc 0x540028).degrade d
      let mine (o : Outst) : Bool := o.held && o.msg.dest % 4096 == d
      let gone := s.nen.outst.filter mine
      (gone.foldl (fun s o => s.closeReq o.msg State.lostReq) s).repause
    else s

/-- A write of NF_DEST. -/
def State.destWrite (s : State) (d v : Nat) : State :=
  if s.destSt d = 2 ∧ v % 4 = 0 then s.setRf (destR d) 1 0 0 else s

/-- A write of INJECT_HOLD: held messages of destinations that are READY again go out when it ends. -/
def State.injectSet (s : State) (on : Bool) : State :=
  let s := s.setRb 0x540000 0 on
  if on then s
  else
    let ds := ((s.nen.outst.filter fun o => o.held).map fun o => o.msg.dest % 4096).eraseDups
    (ds.filter fun d => s.destSt d == 0).foldl State.resendHeld s

/-! ### The commands -/

/-- NF_ENABLE (R433, R450). -/
def execNfEnable (t : Tick) (port : Nat) (on : Bool) (s : State) : Result :=
  let s := s.advanceTo t
  .next (if s.npOn port then s.nfEnable port on else s)

/-- PORT_UP (R433, R437). -/
def execPortUp (t : Tick) (port peer peerPort : Nat) (s : State) : Result :=
  let s := s.advanceTo t
  .next (if s.npOn port then s.portUp port peer peerPort else s)

/-- PORT_TRAIN_TIMEOUT (R433). -/
def execPortTrainTimeout (t : Tick) (port : Nat) (s : State) : Result :=
  let s := s.advanceTo t
  .next (if s.npOn port ∧ s.npState port = 1 ∧ (s.np port).trainFrom + 280 * tms ≤ s.clk.now then s.portDown port else s)

/-- LANES_BELOW_MIN (R433). -/
def execLanesBelowMin (t : Tick) (port : Nat) (s : State) : Result :=
  let s := s.advanceTo t
  .next (if s.npOn port ∧ s.npState port = 2 ∧ !s.enoughLanes port then s.portRecovering port else s)

/-- PORT_GRACE_EXPIRY (R433). -/
def execPortGraceExpiry (t : Tick) (port : Nat) (s : State) : Result :=
  let s := s.advanceTo t
  .next (if s.npOn port ∧ s.npState port = 3 ∧ (s.np port).recFrom + s.grace ≤ s.clk.now then s.portDown port else s)

/-- DATA_FLIT_RECEIVE (R436, R437). -/
def execDataFlitReceive (t : Tick) (port : Nat) (flit : List Byte) (s : State) : Result := .next ((s.advanceTo t).dataFlit port flit)

/-- RECOVER (R433, R450). -/
def execRecoverFlit (t : Tick) (port : Nat) (flit : List Byte) (s : State) : Result := .next ((s.advanceTo t).recoverIn port flit)

/-- RESUMED (R437). -/
def execResumedFlit (t : Tick) (port : Nat) (flit : List Byte) (s : State) : Result := .next ((s.advanceTo t).resumedIn port flit)

/-- LANE_MAP (R434). -/
def execLaneMap (t : Tick) (port : Nat) (flit : List Byte) (s : State) : Result := .next ((s.advanceTo t).laneMapIn port flit)

/-- IDLE_FLIT_RECEIVE (R436). -/
def execIdleFlitReceive (t : Tick) (port : Nat) (flit : List Byte) (s : State) : Result :=
  .next ((s.advanceTo t).otherFlit port flit 0 fun s => if s.npState port = 2 then s.flitHeader port flit else s)

/-- TIME_FLIT_SEND (R449). -/
def execTimeFlitSend (t : Tick) (port : Nat) (s : State) : Result := .next ((s.advanceTo t).timeOut port)

/-- TIME_FLIT_RECEIVE (R449). -/
def execTimeFlitReceive (t : Tick) (port : Nat) (flit : List Byte) (s : State) : Result := .next ((s.advanceTo t).timeIn port flit)

/-- READ (R439, R443, R444, R450). -/
def execReadMsg (t : Tick) (src : Nat) (s : State) : Result :=
  .next ((s.advanceTo t).nenStep src Op.READ (State.peerRequest src))

/-- WRITE (R439). -/
def execWriteMsg (t : Tick) (src : Nat) (s : State) : Result :=
  .next ((s.advanceTo t).nenStep src Op.WRITE (State.peerRequest src))

/-- READ_DATA (R439). -/
def execReadData (t : Tick) (src : Nat) (s : State) : Result := .next ((s.advanceTo t).nenStep src Op.READ_DATA (State.complete 0))

/-- WRITE_ACK (R439). -/
def execWriteAck (t : Tick) (src : Nat) (s : State) : Result := .next ((s.advanceTo t).nenStep src Op.WRITE_ACK (State.complete 0))

/-- EPOCH_MISMATCH (R440). -/
def execEpochMismatch (t : Tick) (src : Nat) (s : State) : Result :=
  .next ((s.advanceTo t).nenStep src Op.EPOCH_MISMATCH (State.complete Code.EPOCH_MISMATCH))

/-- UNMAPPED (R440). -/
def execUnmappedAns (t : Tick) (src : Nat) (s : State) : Result :=
  .next ((s.advanceTo t).nenStep src Op.UNMAPPED (State.complete Code.UNMAPPED))

/-- NO_ROUTE (R440, R445). -/
def execNoRouteAns (t : Tick) (src : Nat) (s : State) : Result :=
  .next ((s.advanceTo t).nenStep src Op.NO_ROUTE (State.complete Code.NO_ROUTE))

/-- RECOVERING (R451). -/
def execRecoveringAns (t : Tick) (src : Nat) (s : State) : Result := .next ((s.advanceTo t).nenStep src Op.RECOVERING State.recoveringIn)

/-- The first READY of a spare that has taken over another chip's identifier (R521). -/
def State.tookOver (s : State) : State :=
  if s.rv.takeover then
    (({ s with rv := { s.rv with takeover := false } }).event Code.CHIP_TAKEOVER).event Code.RECOVERY_DONE
  else s

/-- PROBE (R450, R521). -/
def execProbeMsg (t : Tick) (src : Nat) (s : State) : Result :=
  .next ((s.advanceTo t).nenStep src Op.PROBE fun s m => (s.answerMsg m Op.READY).tookOver)

/-- PROBE_SEND (R451). -/
def execProbeSend (t : Tick) (dest : Nat) (s : State) : Result := .next ((s.advanceTo t).probe (dest % 4096))

/-- READY (R451). -/
def execReadyMsg (t : Tick) (src : Nat) (s : State) : Result := .next ((s.advanceTo t).nenStep src Op.READY State.readyIn)

/-- COLL (R289, R439). -/
def execCollMsg (t : Tick) (src : Nat) (s : State) : Result := .next ((s.advanceTo t).nenStep src Op.COLL State.peerColl)

/-- DEST_GRACE_EXPIRY (R453). -/
def execDestGraceExpiry (t : Tick) (dest : Nat) (s : State) : Result := .next ((s.advanceTo t).destLost (dest % 4096))

/-- NF_DEST_WRITE (R455). -/
def execNfDestWrite (t : Tick) (dest : Nat) (value : Word) (s : State) : Result :=
  let s := s.advanceTo t
  let r := s.written (destR (dest % 4096)) value.toNat
  .next (r.1.destWrite (dest % 4096) r.2)

/-- INJECT_HOLD (R447). -/
def execInjectHold (t : Tick) (on : Bool) (s : State) : Result := .next ((s.advanceTo t).injectSet on)

/-- LOCAL_RECOVERING (R450). -/
def execLocalRecovering (t : Tick) (on : Bool) (s : State) : Result := .next ((s.advanceTo t).setRb 0x540000 1 on)

end Sys2Proof.Machine
end

