-- ==== Sys2Proof/Machine/Lanes.lean ====
section
/-! DEFINITION. Serial lanes: states, training, sleep, Nenath codewords, sensor-link characters and deskew (R346 to
R377). -/

namespace Sys2Proof.Machine

/-- A sensor lane, and a front lane. -/
def isSensor (n : Nat) : Bool := decide (192 ≤ n) && decide (n < 288)
def isFront (n : Nat) : Bool := decide (160 ≤ n) && decide (n < 192)

/-- The channels of a sensor lane (R302). -/
def laneChans (n : Nat) : List Nat := (List.range 4).map fun j => 4 * (n - 192) + j

/-- LN_STATUS bits. -/
def State.setLn (s : State) (n i : Nat) (b : Bool) : State := s.setRb (lnB n + 4) i b

/-- Add to an error counter, which saturates (R371). -/
def State.incErr (s : State) (o : Nat) : State := s.setReg o (min (2 ^ 32 - 1) (s.reg o + 1))

/-! ### Slips (R364) -/

/-- A sensor lane slips: its channels stop presenting until EN is cleared and set. -/
def State.slip (s : State) (n : Nat) : State :=
  let l := s.lane n
  let s := s.setLane n { l with fifo := [], block := none, grp := [], grpBad := false, sob := none, tsym := none, tsymNext := none, markNext := 0 }
  let stop (s : State) (c : Nat) : State :=
    let s := s.setRb (snB c + 4) 0 false
    if s.rb (snB c) 0 then { s with tg := { s.tg with slipped := NatSet.insert s.tg.slipped c } } else s
  (((laneChans n).foldl stop s).inc (lnB n + 0x3C)).event Code.LANE_SLIP n

/-! ### State changes (R348, R349, R370, R434) -/

/-- The lanes of a Nenath port that carry its traffic may have changed (R434). -/
def State.lanesChanged (s : State) (n : Nat) : State :=
  if n < 160 then (s.laneMaskChange (n / 8)).portTry (n / 8) else s

/-- A lane moves to a state. -/
def State.laneGo (s : State) (n v : Nat) : State :=
  let was := s.laneSt n
  let s := s.setRf (lnB n + 4) 2 0 v
  let s := if was = 4 ∧ v ≠ 4 ∧ isSensor n then s.slip n else s
  s.lanesChanged n

/-- Training starts from nothing: the preset is requested. -/
def State.startTraining (s : State) (n : Nat) : State :=
  let s := (s.setLn n 7 false).setLn n 5 false
  s.setLane n { s.lane n with from_ := s.clk.now, trained := false, relock := false, req := 0x40, status := 0, done := false
                              goodRun := 0, badRun := 0, rdPos := false, viol := [], commas := 0 }

/-- A lane goes back to ACQUIRE with what it has trained. -/
def State.reacquireLane (s : State) (n : Nat) : State :=
  let l := s.lane n
  (s.setLane n { l with from_ := if l.trained then s.clk.now else l.from_, relock := l.trained, goodRun := 0, badRun := 0
                        rdPos := false, viol := [], commas := 0 }).laneGo n 1

/-- The port that has a front lane: an even port at 1.6TbE has the next port's lanes (R378, R379). -/
def State.epOf (s : State) (n : Nat) : Nat :=
  let p := (n - 160) / 4
  if s.absorbed p then p - 1 else p

/-- Lanes a port rate uses (R378). -/
def rateLanes (rate : Nat) : Nat := if rate ≤ 1 then 1 else if rate = 2 then 2 else if rate = 3 then 4 else 8

/-- A front lane is one that an enabled port's rate uses (R378, R379). -/
def State.frontUsed (s : State) (n : Nat) : Bool :=
  let by_ (p : Nat) : Bool := s.rb (emB p) 0 && decide (160 + 4 * p ≤ n) && decide (n < 160 + 4 * p + rateLanes (s.epRate p))
  by_ ((n - 160) / 4) || by_ ((n - 160) / 8 * 2)

/-- EN is written (R349, R375, R378). -/
def State.enLane (s : State) (n : Nat) (on : Bool) : State :=
  let rate := s.rf (lnB n + 8) 14 0
  if on then
    if s.rb (lnB n) 0 ∨ (isFront n ∧ !s.frontUsed n) ∨ (isSensor n ∧ (rate < 2500 ∨ 32000 < rate)) then s
    else
      let s := (s.setRb (lnB n) 0 true).startTraining n
      s.laneGo n (if s.rb (lnB n) 3 then 5 else 1)
  else
    let s := (s.setRb (lnB n) 0 false).laneGo n 0
    ((s.setLn n 3 false).setLn n 4 false).setLane n { grpOff := (s.lane n).grpOff }

/-- RETRAIN (R349, R370). -/
def State.retrainLane (s : State) (n : Nat) : State :=
  if s.laneSt n = 0 ∨ s.laneSt n = 5 ∨ s.rb (lnB n) 3 then s
  else
    let s := s.laneGo n 1
    let s := s.startTraining n
    s.setLane n { s.lane n with autoSleep := false }

/-- TX_SLEEP is written; front lanes ignore it, and a Nenath lane leaves its port until it is usable again (R369, R370,
R434). -/
def State.txSleep (s : State) (n : Nat) (b : Bool) : State :=
  if isFront n then s
  else
    let waking := !b && (s.rb (lnB n) 2 || (s.lane n).txWaking)
    let s := (s.setRb (lnB n) 2 b).setLane n { s.lane n with txWaking := waking }
    (if b then s.setLn n 3 false else s).lanesChanged n

/-- The transmit half is awake. -/
def State.txAwake (s : State) (n : Nat) : State :=
  ((s.setLn n 3 true).setLane n { s.lane n with txWaking := false }).lanesChanged n

/-- RX_SLEEP is written; front lanes ignore it (R349, R370). -/
def State.rxSleep (s : State) (n : Nat) (b : Bool) : State :=
  if isFront n then s
  else
    let s := s.setRb (lnB n) 3 b
    if b then (if s.laneSt n = 0 then s else s.laneGo n 5)
    else if s.laneSt n = 5 then
      let l := s.lane n
      if l.trained then s.reacquireLane n else (s.startTraining n).laneGo n 1
    else s

/-- The transmit half may be awake. -/
def State.txUsable (s : State) (n : Nat) : Bool := s.rb (lnB n) 0 && !s.rb (lnB n) 2 && !(s.lane n).autoSleep

/-- A sensor lane with FLM = 1 (R376). -/
def State.flm (s : State) (n : Nat) : Bool := s.rb (lnB n + 0x34) 7

/-- A lane enters UP. -/
def State.laneUp (s : State) (n : Nat) : State :=
  let s := s.setLane n { s.lane n with upAt := s.sn }
  let s := s.laneGo n 4
  if isSensor n && s.rb (lnB n) 4 then (s.setLn n 3 false).setLane n { s.lane n with autoSleep := true } else s

/-- A lane that does not train: a front lane of a port with MEDIA = 1 (R380). -/
def State.untrained (s : State) (n : Nat) : Bool := isFront n && s.rb (emB (s.epOf n) + 8) 3

/-- A lane in ACQUIRE locks (R348, R368, R380). -/
def State.lockLane (s : State) (n : Nat) : State :=
  if s.laneSt n ≠ 1 ∨ s.rb (lnB n + 4) 4 then s
  else
    let l := s.lane n
    let s := s.setLane n { l with goodRun := 0, badRun := 0, viol := [], commas := 0 }
    if !l.trained && !s.untrained n then s.laneGo n 2
    else if isSensor n then (if s.flm n then s.laneGo n 3 else (s.setReg (lnB n + 0x30) 0).laneUp n)
    else s.laneUp n

/-- Lock is lost in UP, the only state that a loss of lock leaves (R348, R349, R356). -/
def State.loseLock (s : State) (n : Nat) : State :=
  if s.laneSt n = 4 then (if n < 160 then s.incErr (lnB n + 0x28) else s).reacquireLane n else s

/-- The signal is lost (R370). -/
def State.losLane (s : State) (n : Nat) : State :=
  let st := s.laneSt n
  if st = 0 ∨ st = 5 ∨ st = 6 then s
  else
    let s := s.setLn n 4 true
    if st = 1 then s else s.reacquireLane n

/-- The signal returns. -/
def State.losEnd (s : State) (n : Nat) : State :=
  if s.rb (lnB n + 4) 4 then
    let l := s.lane n
    (s.setLn n 4 false).setLane n { l with from_ := if l.relock then s.clk.now else l.from_ }
  else s

/-- The training limit is reached: a first training fails; a relock trains again (R348, R353). -/
def State.trainLimit (s : State) (n : Nat) : State :=
  let l := s.lane n
  let st := s.laneSt n
  if !(st = 1 ∨ st = 2) ∨ s.rb (lnB n + 4) 4 ∨ s.clk.now < l.from_ + 280 * tms then s
  else if st = 1 ∧ l.relock then (s.startTraining n).laneGo n 2
  else ((s.setLn n 7 true).laneGo n 6).event Code.LANE_TRAIN_FAIL n

/-! ### Training (R350 to R354, R371) -/

/-- Training ends when both receivers are trained; on a sensor or front lane when this one is. -/
def State.trainEnd (s : State) (n : Nat) : State :=
  let l := s.lane n
  if s.laneSt n = 2 ∧ l.done ∧ (160 ≤ n ∨ s.rb (lnB n + 4) 5) then
    let s := (s.setReg (lnB n + 0x14) ((s.clk.now - l.from_) / tus)).setReg (lnB n + 0x10) (s.freeVal % 65536)
    (s.useFree.setLane n { l with trained := true, relock := false, rdPos := false, viol := [], commas := 0 }).laneGo n 1
  else s

/-- One step request of R350 on a tap: the new value and the status. -/
def tapStep (code v lo hi : Nat) : Nat × Nat :=
  if code = 1 then (if v < hi then (v + 1, 1) else (v, 3))
  else if code = 2 then (if lo < v then (v - 1, 1) else (v, 2))
  else (v, 0)

/-- The transmitter applies a request: the new LN_TX_TAPS and status (R351, R352). -/
def tapRequest (taps req : Nat) : Nat × Nat :=
  if bit req 6 then (0x400000, 0x40)
  else
    let pre := fld taps 5 0
    let post := fld taps 13 8
    let main := fld taps 22 16
    let a := tapStep (fld req 1 0) pre 0 (min 12 (64 - main - post))
    let b := tapStep (fld req 3 2) main 32 (min 64 (64 - a.1 - post))
    let c := tapStep (fld req 5 4) post 0 (min 24 (64 - a.1 - b.1))
    (a.1 + c.1 * 2 ^ 8 + b.1 * 2 ^ 16, a.2 + b.2 * 4 + c.2 * 16)

/-- The far end sends DONE (R350, R374). -/
def State.partnerDone (s : State) (n code : Nat) : State := if bit code 7 then s.setLn n 5 true else s

/-- The far receiver's request reaches this transmitter, on a Nenath or a front lane: on a front lane the taps of the clause's
link training are reported in the same way (R351, R352; log entry 109). -/
def State.takeRequest (s : State) (n req : Nat) : State :=
  if isSensor n then s
  else
    let l := s.lane n
    let s := s.partnerDone n req
    if req % 128 = 0 then s.setLane n { l with status := 0 }
    else if l.status % 128 ≠ 0 then s
    else
      let r := tapRequest (s.reg (lnB n + 0xC)) req
      (s.setReg (lnB n + 0xC) r.1).setLane n { l with status := r.2 }

/-- Every field a request set is answered. -/
def answered (req status : Nat) : Bool :=
  (!bit req 6 || bit status 6) &&
  (bit req 6 || [0, 2, 4].all fun i => fld req (i + 1) i == 0 || fld status (i + 1) i != 0)

/-- The far transmitter's status reaches this receiver.  Which step it asks for next the rules leave to the receiver's own
judgement (log entry 2). -/
def State.takeStatus (s : State) (n status : Nat) : State :=
  let l := s.lane n
  let s := s.partnerDone n status
  if l.req ≠ 0 then (if answered l.req status then s.setLane n { l with req := 0 } else s)
  else if status % 128 = 0 ∧ !l.done then
    let f := s.freeVal
    s.useFree.setLane n { l with req := f % 3 + f / 3 % 3 * 4 + f / 9 % 3 * 16 }
  else s

/-- A training frame or ordered set; one whose two copies differ is ignored. -/
def State.trainFrame (s : State) (n req req2 status status2 : Nat) : State :=
  if s.laneSt n ≠ 2 then s
  else if isSensor n then (if status = status2 then (s.takeStatus n (status % 256)).trainEnd n else s)
  else if req = req2 ∧ status = status2 then ((s.takeRequest n (req % 256)).takeStatus n (status % 256)).trainEnd n
  else s

/-- The request and the status that a lane in training sends (R350, R353, R374). -/
def State.reqSent (s : State) (n : Nat) : Nat := (s.lane n).req % 128 + b2n (s.lane n).done * 128
def State.statusSent (s : State) (n : Nat) : Nat := (s.lane n).status % 128 + b2n (s.lane n).done * 128

/-- The ordered set that a sensor lane in training repeats, as 10-bit groups from a running disparity on (R354). -/
def State.trainSet (s : State) (n : Nat) (pos : Bool) : List Nat :=
  code10s pos [.k 0xBC, .d (s.reqSent n), .d (s.reqSent n)]

/-- The PAM2 symbols of the training frame that a Nenath lane in training repeats: marker, request and status twice each, and
PRBS31 for the rest (R354; the marker and the seed are free, the order of the bytes and bits is that of log entry 109). -/
def State.trainSymbols (s : State) (n : Nat) : List Bool :=
  (List.range 32).map Config.trainMarker ++
  [s.reqSent n, s.reqSent n, s.statusSent n, s.statusSent n].flatMap (fun b => (List.range 8).map (bit b)) ++
  prbs31 (4096 - 64) (Config.prbsSeed n % 2 ^ 31)

/-- The eye is measured in UP and EQUALISE. -/
def State.measureEye (s : State) (n w h : Nat) : State :=
  let st := s.laneSt n
  if st = 2 ∨ st = 4 then
    let s := s.setReg (lnB n + 0x18) (w % 256 + h % 256 * 65536)
    if st = 2 ∧ s.rf (lnB n + 0x1C) 7 0 ≤ w % 256 ∧ s.rf (lnB n + 0x1C) 23 16 ≤ h % 256 then
      (s.setLane n { s.lane n with done := true }).trainEnd n
    else s
  else s

/-! ### Deskew (R361, R362) -/

/-- LN_SL_GRP of a lane's group. -/
def grpReg (n : Nat) : Nat := lnB (if n < 240 then 192 else 240) + 0x80

/-- The latency measurement ends (R361, R362). -/
def State.measured (s : State) (n : Nat) (lat : Tick) : State :=
  if s.laneSt n ≠ 3 then s
  else
    let s := s.setReg (lnB n + 0x30) lat
    let g := s.reg (grpReg n)
    let off := (s.lane (if n < 240 then 192 else 240)).grpOff
    let fail := bit g 19 && decide (off < lat + fld g 17 10 * grain)
    (if fail then s.setLn n 6 true else s).laneUp n

/-- FIX (R362, R368). -/
def State.fixGroup (s : State) (g : Nat) : State :=
  let first := 192 + 48 * g
  let lanes := (List.range 48).map (first + ·)
  let busy := lanes.any fun n => (laneChans n).any fun c => s.rb (snB c) 0
  if 2 ≤ g ∨ busy then s
  else
    let r := s.reg (lnB first + 0x80)
    let top := lanes.foldl (fun m n => if s.laneSt n = 4 then max m (s.reg (lnB n + 0x30)) else m) 0
    let off := roundUp (max (fld r 9 0 * grain) (top + fld r 17 10 * grain)) grain
    if 400 * tns < off then s.event Code.LANE_DESKEW_RANGE first
    else
      let put (s : State) (n : Nat) : State :=
        let v := if s.flm n then off else 0
        ((laneChans n).foldl (fun s c => s.setReg (snB c + 0x24) v) s).setLn n 6 false
      let s := (lanes.foldl put s).setRb (lnB first + 0x80) 19 true
      s.setLane first { s.lane first with grpOff := off }

/-! ### Codewords (R355, R356, R403) -/

/-- A codeword of a Nenath lane arrives: in UP its payload goes to the port, marked if it is uncorrectable. -/
def State.codeword (s : State) (n : Nat) (bytes : List Byte) : State :=
  let bytes := if s.rb (lnB n + 8) 15 then bytes.map flipPam else bytes
  let fate := codewordFate bytes
  let s := if bytes.length = 34 ∧ s.laneSt n = 4 then
    s.setLane n { s.lane n with word := some (payloadOf bytes, fate == 2) } else s
  let l := s.lane n
  if bytes.length ≠ 34 then s
  else if s.laneSt n = 1 then
    let good := if fate = 0 then l.goodRun + 1 else 0
    let s := s.setLane n { l with goodRun := good }
    if 64 ≤ good then s.lockLane n else s
  else if s.laneSt n = 4 then
    if fate = 0 then s.setLane n { l with badRun := 0 }
    else if fate = 1 then (s.setLane n { l with badRun := 0 }).incErr (lnB n + 0x20)
    else
      let s := (s.setLane n { l with badRun := l.badRun + 1 }).incErr (lnB n + 0x24)
      if 16 ≤ l.badRun + 1 then s.loseLock n else s
  else s

/-- An RS(544,514) codeword of an Ethernet port arrives, put together from its lanes: one that is corrected, and one that cannot
be, is counted (R403; its bytes in the order of log entry 109). -/
def State.fecWord (s : State) (n : Nat) (bytes : List Byte) : State :=
  let p := s.epOf n
  if bytes.length ≠ 680 ∨ s.laneSt n ≠ 4 ∨ !s.rb (emB p) 0 then s
  else
    match fecFate bytes with
    | 0 => s
    | 1 => s.incSat (emB p + 0x1B0)
    | _ => s.incSat (emB p + 0x1B8)

/-! ### Blocks and groups (R358 to R367) -/

/-- Sub-channels per group, sample groups per block and bytes per group. -/
def State.nch (s : State) (n : Nat) : Nat := min 4 (s.rf (lnB n + 0x34) 6 4)
def State.blockLen (s : State) (n : Nat) : Nat := 2 ^ min 10 (s.rf (lnB n + 0x34) 3 0)
def State.groupBits (s : State) (n : Nat) : Nat := (((laneChans n).take (s.nch n)).map fun c => s.rf (snB c + 8) 4 0).sum
def State.groupLen (s : State) (n : Nat) : Nat := (s.groupBits n + 7) / 8

/-- A channel has a sample 0 to come: EN = 1 and it has not started (R360). -/
def State.toStart (s : State) (c : Nat) : Bool := s.rb (snB c) 0 && !(s.chan c).started && !s.tg.slipped.contains c

/-- A group is sample 0 of a channel to be started: the first of a block whose SOB reached the pins after EN and after the
lane entered UP (R360). -/
def State.isFirst (s : State) (c : Nat) (g : Group) : Bool :=
  g.first && decide ((s.chan c).enAt ≤ g.sob) && decide ((s.lane (192 + c / 4)).upAt ≤ g.sob)

/-- SN_PERIOD of the lane's enabled channels (R360). -/
def State.lanePeriod (s : State) (n : Nat) : Option Nat :=
  ((laneChans n).find? fun c => s.rb (snB c) 0).map fun c => s.reg (snB c + 0xC)

/-- A framing error. -/
def State.frameErr (s : State) (n : Nat) : State := s.incErr (lnB n + 0x28)

/-- A framing error inside a block: the lane slips. -/
def State.blockErr (s : State) (n : Nat) : State := (s.frameErr n).slip n

/-- A K28.1: counted, and kept for the group that follows when MARK_EN asks for it (R366). -/
def State.markIn (s : State) (n : Nat) : State :=
  let s := s.inc (lnB n + 0x50)
  if s.rb (lnB n + 0x34) 8 then s.setLane n { s.lane n with markNext := (s.lane n).markNext + 1 } else s

/-- Index of the next sample the lane will deliver: of a running channel, or of one whose sample 0 waits in the deskew stage
(R367). -/
def State.nextIdx (s : State) (n : Nat) : Nat :=
  let q := (s.lane n).fifo
  match (laneChans n).find? fun c => s.rb (snB c + 4) 0 with
  | some c => (s.chan c).next + q.length
  | none =>
    match (laneChans n).find? fun c => s.toStart c with
    | some c => (q.dropWhile fun g => !s.isFirst c g).length
    | none => 0

/-- The period at which a lane's groups are presented: that of its enabled channels, or else of its first. -/
def State.groupPeriod (s : State) (n : Nat) : Nat := (s.lanePeriod n).getD (s.reg (snB (4 * (n - 192)) + 0xC))

/-- A group has not come wholly into the deskew stage at its presentation time (R364). -/
def State.overdueGroup (s : State) (n : Nat) : Bool :=
  let l := s.lane n
  match l.block, l.sob with
  | some j, some p =>
    s.flm n && s.laneSt n == 4 && (s.lanePeriod n).isSome && l.fifo.isEmpty && s.nch n != 0 && decide (j < s.blockLen n) &&
      decide (p + j * s.groupPeriod n + s.reg (snB (4 * (n - 192)) + 0x24) ≤ s.sn)
  | _, _ => false

/-- A SOB is expected at an instant at the pins: within SN_PERIOD ÷ 2 of the last one plus B × SN_PERIOD (R364). -/
def State.sobDue (s : State) (n pin : Nat) : Bool :=
  match (s.lane n).sob, s.lanePeriod n with
  | some p, some per =>
    let want := p + s.blockLen n * per
    s.flm n && decide (2 * (if want ≤ pin then pin - want else want - pin) ≤ per)
  | _, _ => false

/-- A SOB (R358, R359, R364, R367). -/
def State.openBlock (s : State) (n : Nat) : State :=
  let l := s.lane n
  let pin := s.sn - s.reg (lnB n + 0x30)
  let off : Bool := match l.sob, s.lanePeriod n with
    | some p, some per =>
      let want := p + s.blockLen n * per
      s.flm n && decide (per < 2 * (if want ≤ pin then pin - want else want - pin))
    | _, _ => false
  let s := if off then s.slip n else s
  let l := s.lane n
  let s := match l.tsymNext with
    | some v => (s.setReg64 (lnB n + 0x40) v).setReg64 (lnB n + 0x48) (s.nextIdx n)
    | none => s
  s.setLane n { l with block := some 0, grp := [], grpBad := false, sob := some pin, tsymNext := none }

/-- A group is complete: it enters the deskew stage, unless that slips the lane (R363, R364). -/
def State.groupDone (s : State) (n : Nat) : State :=
  let l := s.lane n
  let j := l.block.getD 0
  let sob := l.sob.getD 0
  let at_ := if s.flm n then sob + j * s.groupPeriod n else s.sn
  let g : Group := { at_ := at_, bytes := l.grp.reverse, bad := l.grpBad, mark := l.markNext, first := j == 0, sob := sob }
  let held := (l.fifo.map fun g => g.bytes.length).sum + g.bytes.length
  let late := s.flm n && (s.lanePeriod n).isSome && decide (at_ + s.reg (snB (4 * (n - 192)) + 0x24) < s.sn)
  let s := s.setLane n { l with block := some (j + 1), grp := [], grpBad := false, markNext := 0
                                fifo := if (s.lanePeriod n).isSome ∨ 0 < l.markNext then l.fifo ++ [g] else [] }
  if s.flm n && (late || (decide (2048 < held) && (s.lanePeriod n).isSome)) then s.slip n else s

/-- A data character, or one in error, inside a block. -/
def State.blockByte (s : State) (n b : Nat) (bad : Bool) : State :=
  let l := s.lane n
  if s.nch n = 0 then s
  else if s.blockLen n ≤ l.block.getD 0 then s.blockErr n
  else
    let s := s.setLane n { l with grp := BitVec.ofNat 8 b :: l.grp, grpBad := l.grpBad || bad }
    if s.groupLen n ≤ l.grp.length + 1 then s.groupDone n else s

/-- A K-symbol inside a block. -/
def State.blockK (s : State) (n k : Nat) : State :=
  let l := s.lane n
  let g := l.block.getD 0
  if k = 0xFD then
    if s.nch n = 0 ∨ (g = s.blockLen n ∧ l.grp = []) then s.setLane n { l with block := none } else s.blockErr n
  else if k = 0x3C then (if l.grp = [] ∧ 0 < g ∧ g < s.blockLen n then s.markIn n else s.blockErr n)
  else if k = 0xF7 then (if s.flm n then s.blockErr n else s)
  else s.blockErr n

/-- A K-symbol between blocks. -/
def State.gapK (s : State) (n k : Nat) : State :=
  if k = 0xBC ∨ k = 0xF7 then s
  else if k = 0xFB then s.openBlock n
  else if k = 0x7C then s.setLane n { s.lane n with tsym := some [] }
  else if k = 0x3C then s.markIn n
  else s.frameErr n

/-- A byte of a time symbol. -/
def State.tsymByte (s : State) (n : Nat) (got : List Byte) (b : Nat) : State :=
  let got := got ++ [BitVec.ofNat 8 b]
  if got.length = 8 then s.setLane n { s.lane n with tsym := none, tsymNext := some (ofLe got) }
  else s.setLane n { s.lane n with tsym := some got }

/-- A character of an UP lane; `err`: a code violation or disparity error was detected in it. -/
def State.upChar (s : State) (n : Nat) (c : Chr) (err : Bool) : State :=
  let l := s.lane n
  match l.block, l.tsym, c with
  | some _, _, .k k => s.blockK n k
  | some _, _, .d b => s.blockByte n b err
  | some _, _, .bad => s.blockByte n 0 true
  | none, some got, .d b => s.tsymByte n got b
  | none, some _, .bad => (s.setLane n { l with tsym := none }).frameErr n
  | none, some _, .k k => ((s.setLane n { l with tsym := none }).frameErr n).gapK n k
  | none, none, .k k => s.gapK n k
  | none, none, .d _ =>
    let s' := s.frameErr n
    if s.sobDue n (s.sn - s.reg (lnB n + 0x30)) then s'.slip n else s'
  | none, none, .bad => s

/-- A 10-bit group at the receive pins of a sensor lane, bit 0 first on the line (R357). -/
def State.sensorChar (s : State) (n code : Nat) : State :=
  let st := s.laneSt n
  if !isSensor n || !(st == 1 || st == 2 || st == 3 || st == 4) then s
  else
    let code := if s.rb (lnB n + 8) 15 then 1023 - code % 1024 else code % 1024
    let l := s.lane n
    let d := decode10 code l.rdPos
    let viol := d.1 == .bad
    let s := if viol then s.incErr (lnB n + 0x20) else if d.2 then s.incErr (lnB n + 0x24) else s
    let v := (viol :: l.viol).take 16
    let commas := if d.1 = .k 0xBC then l.commas + 1 else 0
    let s := s.setLane n { l with rdPos := rdNext code l.rdPos, viol := v, commas := commas }
    if st = 1 then (if 3 ≤ commas then s.lockLane n else s)
    else
      let s := if st = 4 then s.upChar n d.1 (viol || d.2) else s
      if 4 ≤ (v.filter id).length then s.loseLock n else s

/-! ### The commands -/

/-- LANE_ENABLE (R348, R349, R375). -/
def execLaneEnable (t : Tick) (lane : Nat) (on : Bool) (s : State) : Result :=
  let s := s.advanceTo t
  .next (if s.laneOn lane then s.enLane lane on else s)
/-- RETRAIN (R349). -/
def execRetrain (t : Tick) (lane : Nat) (s : State) : Result :=
  let s := s.advanceTo t
  .next (if s.laneOn lane then s.retrainLane lane else s)
/-- TX_SLEEP (R369, R370). -/
def execTxSleep (t : Tick) (lane : Nat) (sleep : Bool) (s : State) : Result :=
  let s := s.advanceTo t
  .next (if s.laneOn lane then s.txSleep lane sleep else s)
/-- RX_SLEEP (R349, R370). -/
def execRxSleep (t : Tick) (lane : Nat) (sleep : Bool) (s : State) : Result :=
  let s := s.advanceTo t
  .next (if s.laneOn lane then s.rxSleep lane sleep else s)
/-- TX_HALF_AWAKE (R369, R374). -/
def execTxHalfAwake (t : Tick) (lane : Nat) (s : State) : Result :=
  let s := s.advanceTo t
  .next (if s.laneOn lane ∧ s.txUsable lane then s.txAwake lane else s)
/-- LANE_LOCK (R348). -/
def execLaneLock (t : Tick) (lane : Nat) (s : State) : Result :=
  let s := s.advanceTo t
  .next (if s.laneOn lane then s.lockLane lane else s)
/-- LANE_LOCK_LOSS (R348, R349). -/
def execLaneLockLoss (t : Tick) (lane : Nat) (s : State) : Result :=
  let s := s.advanceTo t
  .next (if s.laneOn lane then s.loseLock lane else s)
/-- TRAINING_FRAME_RECEIVE (R351 to R354). -/
def execTrainingFrameReceive (t : Tick) (lane : Nat) (req req2 status status2 : Nat) (s : State) : Result :=
  let s := s.advanceTo t
  .next (if s.laneOn lane then s.trainFrame lane req req2 status status2 else s)
/-- EYE_MEASURE (R353, R371). -/
def execEyeMeasure (t : Tick) (lane : Nat) (width height : Nat) (s : State) : Result :=
  let s := s.advanceTo t
  .next (if s.laneOn lane then s.measureEye lane width height else s)
/-- LANE_TRAIN_TIMEOUT (R348, R353). -/
def execLaneTrainTimeout (t : Tick) (lane : Nat) (s : State) : Result :=
  let s := s.advanceTo t
  .next (if s.laneOn lane then s.trainLimit lane else s)
/-- MEASURE_DONE (R361, R362). -/
def execMeasureDone (t : Tick) (lane : Nat) (latency : Tick) (s : State) : Result :=
  let s := s.advanceTo t
  .next (if s.laneOn lane ∧ isSensor lane then s.measured lane latency else s)
/-- SIGNAL_LOSS (R370). -/
def execSignalLoss (t : Tick) (lane : Nat) (s : State) : Result :=
  let s := s.advanceTo t
  .next (if s.laneOn lane then s.losLane lane else s)
/-- SIGNAL_RETURN (R370). -/
def execSignalReturn (t : Tick) (lane : Nat) (s : State) : Result :=
  let s := s.advanceTo t
  .next (if s.laneOn lane then s.losEnd lane else s)
/-- CODEWORD_RECEIVE (R355, R356, R403). -/
def execCodewordReceive (t : Tick) (lane : Nat) (bytes : List Byte) (s : State) : Result :=
  let s := s.advanceTo t
  .next (if !s.laneOn lane then s else if lane < 160 then s.codeword lane bytes else if isFront lane then s.fecWord lane bytes else s)
/-- SENSOR_CHARACTER_RECEIVE (R357 to R367). -/
def execSensorCharacterReceive (t : Tick) (lane : Nat) (code : Nat) (s : State) : Result :=
  let s := s.advanceTo t
  .next (if s.laneOn lane then s.sensorChar lane code else s)
/-- GROUP_FIX (R362). -/
def execGroupFix (t : Tick) (group : Nat) (s : State) : Result :=
  let s := s.advanceTo t
  .next (if s.laneOn (192 + 48 * (group % 2)) then s.fixGroup group else s)
/-- NF_RETRAIN (R454). -/
def execNfRetrain (t : Tick) (port : Nat) (s : State) : Result :=
  let s := s.advanceTo t
  .next (if s.npOn port then (List.range 8).foldl (fun s i => s.retrainLane (8 * port + i)) s else s)

end Sys2Proof.Machine
end

