-- ==== Sys2Proof/Machine/Ether.lean ====
section
/-! DEFINITION. Ethernet ports and the slow-control port (R378 to R406), with frames into host rings (R387, R535). -/

namespace Sys2Proof.Machine

/-! ### Link and lanes (R378 to R381, R393, R405) -/

/-- The port is powered and not absorbed. -/
def State.epThere (s : State) (n : Nat) : Bool := decide (n < 8) && s.domOn 24 && !s.absorbed n

/-- EM_STATUS.LINK. -/
def State.linkOn (s : State) (n : Nat) : Bool := s.rb (emB n + 4) 0

/-- Lanes of a port. -/
def epLanes (n rate : Nat) : List Nat := (List.range (rateLanes rate)).map fun i => 160 + 4 * n + i

/-- A transmitter, and a receiver, leaves low-power idle: its time is counted (R402). -/
def State.lpiTxEnd (s : State) (n : Nat) : State :=
  let p := s.ep n
  let s := p.lpiTx.elim s (s.settleNs (emB n + 0x1A0) · true)
  (s.setEp n { p with lpiTx := none }).setRb (emB n + 4) 3 false
def State.lpiRxEnd (s : State) (n : Nat) : State :=
  let p := s.ep n
  let s := p.lpiRx.elim s (s.settleNs (emB n + 0x1A8) · true)
  (s.setEp n { p with lpiRx := none }).setRb (emB n + 4) 4 false

/-- A held frame is discarded because the link is down (R393). -/
def State.linkDrop (s : State) (n : Nat) (h : Held) : State :=
  let s := (s.incSat (emB n + 0x188)).discarded h 2
  match h.launch with
  | some t => s.lateDown n t
  | none => s

/-- The link goes down: held frames are discarded, pauses and low-power idle end, and verification is undone. -/
def State.linkLost (s : State) (n : Nat) : State :=
  if !s.linkOn n then s
  else
    let held := (s.stage n).held
    let s := (s.lpiTxEnd n).lpiRxEnd n
    let s := ((s.setRb (emB n + 4) 0 false).setRb (emB n + 4) 2 false).setRf (emB n + 0x10) 26 24 0
    let s := s.setEp n { s.ep n with pause := [], xoff := [], wakeAt := 0 }
    let s := s.setStage n { s.stage n with held := [], frag := none }
    held.foldl (fun s h => s.linkDrop n h) s

/-- The lanes of a port's rate train, and its other lanes are off. -/
def State.epTrain (s : State) (n rate : Nat) (again : Bool) : State :=
  let use := epLanes n rate
  let all := (List.range (if n % 2 = 0 ∧ s.rf (emB n + 8) 2 0 = 4 then 8 else 4)).map fun i => 160 + 4 * n + i
  let s := (all.filter fun l => !use.contains l).foldl (fun s l => s.enLane l false) s
  use.foldl (fun s l => if again && s.rb (lnB l) 0 then s.retrainLane l else s.enLane l true) s

/-- RATE_ACTIVE is set. -/
def State.setRate (s : State) (n rate : Nat) : State := s.setRf (emB n + 4) 7 5 rate

/-- EN is written. -/
def State.enPort (s : State) (n : Nat) (on : Bool) : State :=
  let rate := s.rf (emB n + 8) 2 0
  if !s.epThere n then s
  else if on then
    if s.rb (emB n) 0 ∨ 4 < rate ∨ (rate = 4 ∧ (n % 2 = 1 ∨ s.rb (emB (n + 1)) 0)) then s
    else (((s.setRb (emB n) 0 true).claimDom 24 true).setRate n rate).epTrain n rate false
  else
    let s := s.linkLost n
    let used := epLanes n (s.epRate n)
    let s := if s.rb (emB n) 0 then used.foldl (fun s l => s.enLane l false) s else s
    (s.setRb (emB n) 0 false).setRate n 0

/-- RESTART_AN: auto-negotiation, where the port has it, starts anew. -/
def State.restartAn (s : State) (n : Nat) : State :=
  if s.epThere n && s.rb (emB n) 0 && !s.rb (emB n + 8) 3 then (s.linkLost n).setRb (emB n + 4) 2 false else s

/-- A wake time the partner asks for is accepted from 2.0 to 65.535 µs; otherwise the advertised 2.0 µs stands (R398). -/
def agreedTw (v : Nat) : Nat := if 2000 ≤ v ∧ v ≤ 65535 then v else 2000

/-- The link comes up. -/
def State.linkUpNow (s : State) (n twTx twRx : Nat) : State :=
  if !s.epThere n || !s.rb (emB n) 0 || s.linkOn n then s
  else
    let cfg := s.reg (emB n + 8)
    let s := (s.setRb (emB n + 4) 0 true).setRb (emB n + 4) 2 (!bit cfg 3)
    let s := if bit cfg 4 && !bit cfg 5 then s.setReg (emB n + 0x2C) (agreedTw twTx + agreedTw twRx * 2 ^ 16) else s
    let s := if s.rb (emB n + 0x10) 0 && !s.rb (emB n + 0x10) 1 then s.setRf (emB n + 0x10) 26 24 1 else s
    s.setEp n { s.ep n with idleFrom := s.sn, rateFrom := s.clk.now }

/-! ### Receive verdicts (R382 to R386, R395, R397) -/

/-- Where a received frame ends (R383, R384). -/
inductive Verdict where
  | oversize
  | assembly
  | runt
  | fcs
  | good
  deriving DecidableEq, Repr

/-- The verdict, in the order of R384. -/
def verdictOf (maxLen : Nat) (assyBad : Bool) (l : List Byte) : Verdict :=
  if maxLen < l.length then .oversize
  else if assyBad then .assembly
  else if l.length < 64 then .runt
  else if !fcsGood l then .fcs
  else .good

/-- The EM counter of a verdict. -/
def verdictReg (n : Nat) : Verdict → Nat
  | .oversize => emB n + 0x118
  | .assembly => emB n + 0x128
  | .runt => emB n + 0x110
  | .fcs => emB n + 0x120
  | .good => emB n + 0x100

/-- Saffron time of an instant of reference time. -/
def State.safAt (s : State) (t : Tick) : Nat := if s.clk.now ≤ t then (s.advanceTo t).sn else s.snPast t

/-- The fragment that carries byte `i`: the offset and the instant of its first byte. -/
def fragmentOf (a : Arrival) (i : Nat) : Nat × Tick :=
  a.later.foldl (fun x y => if y.1 ≤ i then y else x) (0, a.first)

/-- Reference instant at which byte `i` of a frame reaches the pins, and its stamp (R42, R413, R428). -/
def State.byteInstant (s : State) (port : Nat) (a : Arrival) (i : Nat) : Tick :=
  (fragmentOf a i).2 + (i - (fragmentOf a i).1) * byteTime (s.epRate port) / 25
def State.stampAt (s : State) (t : Tick) : Nat := s.safAt t / 16384 * 16384
def State.byteStamp (s : State) (port : Nat) (a : Arrival) (i : Nat) : Nat := s.stampAt (s.byteInstant port a i)

/-- A received PFC frame pauses or resumes priorities (R392): priority and quanta. -/
def State.pfcTake (s : State) (n : Nat) (times : List (Nat × Nat)) : State :=
  let put (s : State) (e : Nat × Nat) : State :=
    if e.1 < 8 ∧ s.rb (emB n + 0x14) e.1 then
      let end_ := if e.2 = 0 then 0 else s.sn + e.2 * 64 * byteTime (s.epRate n) / 25
      s.setEp n { s.ep n with pause := Sparse.set (fun _ => 0) (s.ep n).pause e.1 end_ }
    else s
  times.foldl put s

/-- The pause times of a PFC frame: the class-enable vector names the priorities (IEEE 802.1Qbb). -/
def pfcTimes (l : List Byte) : List (Nat × Nat) :=
  ((List.range 8).filter fun p => bit (be16 l 16) p).map fun p => (p, be16 l (18 + 2 * p))

/-- A frame is a datagram for the remote access service on the port that HI_RA_CFG names (R544). -/
def State.forService (s : State) (sc : Bool) (n : Nat) (l : List Byte) : Bool :=
  s.rb 0x80030 0 && s.rb 0x80030 4 == sc && (sc || s.rf 0x80030 3 1 == n) &&
  match (headers l).l4 with
  | some (o, proto, _) => proto == 17 && be16 l (o + 2) == s.rf 0x80030 31 16
  | none => false

/-- EM_RX_RING entry of a priority: VALID and ring. -/
def State.rxRing (s : State) (n prio : Nat) : Option Nat :=
  let v := s.rf (emB n + 0x20 + 4 * (prio / 4)) (8 * (prio % 4) + 7) (8 * (prio % 4))
  if bit v 7 then some (v % 128) else none

/-- An accepted frame goes to the host path: its receive buffer, or nowhere. -/
def State.hostPath (s : State) (n stamp : Nat) (l : List Byte) (csum : Nat × Nat) : State :=
  let prio := framePrio l (s.rf (emB n + 8) 10 8)
  if (s.rxRing n prio).isNone then s.incSat (emB n + 0x138)
  else
    let p := s.ep n
    if 65536 < (p.rx.map fun f => f.bytes.length).sum + l.length then s.incSat (emB n + 0x140)
    else s.setEp n { p with rx := p.rx ++ [({ stamp := stamp, bytes := l, prio := prio, ip4 := csum.1, l4 := csum.2 } : RxFrame)] }

/-- The claimed frame of a port that began at an instant. -/
def State.claimedFrame (s : State) (n : Nat) (first : Tick) : Option (Nat × PFrame) :=
  s.pa.ctxs.findSome? fun c => (c.2.frames.find? fun f => f.port == n && f.ref == first && f.verdict.isNone).map fun f => (c.1, f)

/-- The verdict on a claimed frame is known; VERDICT_APPLY acts on it 18 ns after its byte's stamp (R425). -/
def State.noteVerdict (s : State) (c : Nat) (f : PFrame) (bad : Bool) (stamp : Nat) : State :=
  let k := s.pctx c
  s.setPctx c { k with frames := k.frames.map fun g => if g.run = f.run ∧ g.num = f.num then { g with verdict := some (bad, stamp) } else g }

/-- A frame's verdict is reached.  `assyAt`: the instant at which its reassembly has failed (R384). -/
def State.takeFrame (s : State) (n : Nat) (a : Arrival) (l : List Byte) (assyAt : Option Tick) : State :=
  if !s.epThere n || !s.rb (emB n) 0 || !s.linkOn n then s
  else
    let maxLen := s.rf (emB n + 0xC) 13 0
    let v := verdictOf maxLen assyAt.isSome l
    let s := (s.incSat (emB n + 0x150) (if a.later.isEmpty then 0 else a.later.length + 1)).incSat (verdictReg n v)
    let s := if v = .good then s.incSat (emB n + 0x108) l.length else s
    let at_ := match v with
      | .oversize => s.byteStamp n a maxLen
      | .assembly => s.stampAt (assyAt.getD 0)
      | _ => s.byteStamp n a (l.length - 1)
    let claimed := s.claimedFrame n a.first
    let s := match claimed with | some (c, f) => s.noteVerdict c f (v != .good) at_ | none => s
    if v ≠ .good then s
    else if be16 l 12 = 0x8808 then
      let s := s.incSat (emB n + 0x148)
      if be16 l 14 = 0x0101 then s.pfcTake n (pfcTimes l) else s
    else
      let csum := if s.rb (emB n + 8) 6 then checkCsum (l.take (l.length - 4)) else (0, 0)
      let s := if csum.1 = 2 ∨ csum.2 = 2 then s.incSat (emB n + 0x130) else s
      let host : Bool := match claimed with | some (_, f) => f.copyHost | none => !s.forService false n l
      if host then s.hostPath n (s.byteStamp n a 0) l csum else s

/-! ### Frames into host rings (R387, R532, R535) -/

/-- The buffers a frame fills: descriptor and bytes; short = the descriptors do not suffice. -/
def cutBuffers : List (List Byte) → List Byte → List (List Byte × List Byte) × Bool
  | _, [] => ([], false)
  | [], _ => ([], true)
  | d :: ds, l =>
    let k := max 1 (leAt d 8 4)
    let r := cutBuffers ds (l.drop k)
    ((d, l.take k) :: r.1, r.2)

/-- Write a frame into the buffers of a ring and return them together; false when it is truncated or dropped. -/
def State.frameToRing (s : State) (r owner stamp info : Nat) (l : List Byte) : State × Bool :=
  let c := s.ringClaim r owner
  if !c.2 then (c.1, false)
  else
    let b := cutBuffers (c.1.ring r).descs l
    if b.1.isEmpty then (c.1, false)
    else
      let s := b.1.foldl (fun s x => s.post (.ring r) (leAt x.1 0 8) x.2) c.1
      let last := b.1.length - 1
      let back (s : State) (x : (List Byte × List Byte) × Nat) : State :=
        let sof := if x.2 = 0 then 2048 else 0
        let eof := if x.2 = last then 4096 + (if b.2 then 8192 else 0) else 0
        s.ringReturn r (rxFields x.1.2.length stamp (info + sof + eof))
      (b.1.zipIdx.foldl back s, !b.2)

/-- The first frame of a port's receive buffer is written to its ring. -/
def State.writeRx (s : State) (n : Nat) : State :=
  match (s.ep n).rx with
  | [] => s
  | f :: rest =>
    let s := s.setEp n { s.ep n with rx := rest }
    match s.rxRing n f.prio with
    | none => s.incSat (emB n + 0x138)
    | some r =>
      let strip := s.rb (emB n + 8) 7
      let l := if strip then f.bytes.take (f.bytes.length - 4) else f.bytes
      let info := n + 16 * f.prio + 128 * f.ip4 + 512 * f.l4 + (if strip then 0 else 16384)
      let w := s.frameToRing r (n + 1) (pack96 f.stamp % 2 ^ 64) info l
      if w.2 then w.1 else w.1.incSat (emB n + 0x138)

/-! ### PFC on transmit (R388) -/

/-- A PFC frame, priorities with their times, goes to the MAC's own place in front of every untimed frame.  The manual gives the ports no MAC address, so the source address is a free
value (log entry 2). -/
def State.sendPfc (s : State) (n : Nat) (times : List (Nat × Nat)) : State :=
  if times.isEmpty then s
  else
    let en := (times.map fun e => 2 ^ e.1).sum
    let q (p : Nat) : Nat := match times.find? fun e => e.1 == p with | some e => e.2 | none => 0
    let l := [0x01, 0x80, 0xC2, 0, 0, 0x01] ++ leBytes 6 s.freeVal ++ beBytes2 0x8808 ++ beBytes2 0x0101 ++ beBytes2 en ++
      (List.range 8).flatMap fun p => beBytes2 (q p)
    let st := s.stage n
    let h : Held := { launch := none, complete := s.snUp, entered := s.snUp, entry := st.next, body := .frame l false false false
                      ctl := true }
    s.useFree.setStage n { st with held := st.held ++ [h.macEntry], next := st.next + 1 }

/-- LOW, HIGH, and the owned count of a priority that PFC watches. -/
def State.pfcCount (s : State) (n p : Nat) : Option Nat :=
  if s.rb (emB n + 0x14) (8 + p) then (s.rxRing n p).map fun r => (s.ring r).descs.length else none

/-- The owned counts are held against LOW and HIGH. -/
def State.pfcWatch (s : State) (n : Nat) : State :=
  let e := s.ep n
  let low := s.rf (emB n + 0x18) 15 0
  let high := s.rf (emB n + 0x18) 31 16
  let off (p : Nat) : Bool := e.xoff.any fun x => x.1 == p
  let stop := (List.range 8).filter fun p => match s.pfcCount n p with | some c => decide (c < low) && !off p | none => false
  let go := (List.range 8).filter fun p => match s.pfcCount n p with | some c => decide (high ≤ c) && off p | none => false
  let quanta := s.rf (emB n + 0x14) 31 16
  if !s.epThere n || !s.linkOn n || (stop.isEmpty && go.isEmpty) then s
  else
    let xoff := (e.xoff.filter fun x => !go.contains x.1) ++ stop.map fun p => (p, s.sn)
    (s.setEp n { e with xoff := xoff }).sendPfc n ((stop.map fun p => (p, quanta)) ++ go.map fun p => (p, 0))

/-- Half of the pause time has passed while a count is still below HIGH: the frame is repeated. -/
def State.pfcAgain (s : State) (n : Nat) : State :=
  let e := s.ep n
  let quanta := s.rf (emB n + 0x14) 31 16
  let half := quanta * 64 * byteTime (s.epRate n) / 50
  let high := s.rf (emB n + 0x18) 31 16
  let due (x : Nat × Nat) : Bool :=
    decide (x.2 + half ≤ s.sn) && match s.pfcCount n x.1 with | some c => decide (c < high) | none => false
  let ps := (e.xoff.filter due).map Prod.fst
  if !s.epThere n || !s.linkOn n || ps.isEmpty then s
  else
    let xoff := e.xoff.map fun x => if ps.contains x.1 then (x.1, s.sn) else x
    (s.setEp n { e with xoff := xoff }).sendPfc n (ps.map fun p => (p, quanta))

/-! ### Power saving (R398, R399) -/

/-- The instant from which the line of a port is idle. -/
def State.lineIdle (s : State) (n : Nat) : Nat :=
  max (s.ep n).idleFrom (match (s.stage n).frag with | some f => s.fragEnd n f / 25 | none => 0)

/-- The transmitter has been idle for LPI_DELAY with nothing held. -/
def State.lpiStart (s : State) (n : Nat) : State :=
  let cfg := s.reg (emB n + 8)
  let st := s.stage n
  if !s.epThere n || !s.linkOn n || !bit cfg 4 || bit cfg 5 || s.rb (emB n + 4) 3 || !st.held.isEmpty || !st.wait.isEmpty ||
      decide (s.sn < max (s.lineIdle n) (s.ep n).wakeAt + s.rf (emB n + 0x28) 15 0 * tus) then s
  else (s.setRb (emB n + 4) 3 true).setEp n { s.ep n with lpiTx := some s.clk.now, wakeAt := 0 }

/-- The partner enters or leaves low-power idle. -/
def State.partnerIdle (s : State) (n : Nat) (idle : Bool) : State :=
  if !s.epThere n || !s.linkOn n || s.rb (emB n + 4) 4 == idle then s
  else if idle then (s.setRb (emB n + 4) 4 true).setEp n { s.ep n with lpiRx := some s.clk.now }
  else s.lpiRxEnd n

/-- An AUTO_RATE interval ends. -/
def State.autoRate (s : State) (n txUtil rxUtil : Nat) : State :=
  let cfg := s.reg (emB n + 8)
  let a := s.reg (emB n + 0x30)
  let rate := s.epRate n
  let p := s.ep n
  if !s.epThere n || !s.linkOn n || !bit cfg 5 || bit cfg 3 || decide (s.clk.now < p.rateFrom + fld a 31 16 * tms) then s
  else
    let u := max txUtil rxUtil
    let next := if u < fld a 6 0 ∧ 0 < rate then rate - 1 else if fld a 14 8 < u ∧ rate < fld cfg 2 0 then rate + 1 else rate
    let s := s.setEp n { p with rateFrom := s.clk.now }
    if next = rate then s else (((s.linkLost n).setRate n next).epTrain n next true).incSat (emB n + 0x1C0)

/-! ### SC0 (R401, R406) -/

/-- A frame arrives at SC0.  The manual gives SC0 no FCS_STRIP, so whether the FCS is kept is free (log entry 2). -/
def State.scReceive (s : State) (l : List Byte) : State :=
  if !s.domOn 29 || !s.rb 0x180000 0 then s
  else
    match verdictOf (s.rf 0x180004 10 0) false l with
    | .oversize => s.incSat 0x180110
    | .runt => s.incSat 0x180108
    | .fcs => s.incSat 0x180118
    | .assembly => s
    | .good =>
      let s := s.incSat 0x180100
      if s.forService true 0 l then s
      else
        let kept := s.freeVal % 2 == 1
        let data := if kept then l else l.take (l.length - 4)
        let w := s.useFree.frameToRing (s.rf 0x180004 17 11) 9 0 (8 + 16 * framePrio l 0 + (if kept then 16384 else 0)) data
        if w.2 then w.1 else w.1.incSat 0x180120

/-- The frame at the head of SC0's queue ends with a STATUS. -/
def State.scEnd (s : State) (status : Nat) : State :=
  match s.eth.sc.tx with
  | [] => s
  | (r, i, _) :: rest => ({ s with eth := { s.eth with sc := { tx := rest, tries := 0 } } }).txDone r i status 0

/-- SC0 sends its frame. -/
def State.scSend (s : State) : State :=
  match s.eth.sc.tx with
  | [] => s
  | (_, _, l) :: _ =>
    if !s.domOn 29 || !s.rb 0x180000 0 then s
    else
      let s := { s with out := { edge := 256, at_ := s.sn, body := .frame l true false false } :: s.out }
      (s.incSat 0x180128).scEnd 0

/-- A collision after `sent` bytes.  No STATUS of R537 names a frame dropped for collisions: it is a free value
(log entry 2). -/
def State.scCollide (s : State) (sent : Nat) : State :=
  if s.eth.sc.tx.isEmpty || !s.domOn 29 || !s.rb 0x180000 0 then s
  else
    let s := s.incSat 0x180130
    let drop (s : State) : State := s.useFree.scEnd (s.freeVal % 256)
    if 64 ≤ sent then drop (s.incSat 0x180140)
    else if 15 ≤ s.eth.sc.tries then drop (s.incSat 0x180138)
    else { s with eth := { s.eth with sc := { s.eth.sc with tries := s.eth.sc.tries + 1 } } }

/-- SC_MDIO is written: with GO, the access runs and GO clears. -/
def State.mdio (s : State) (value phyData : Nat) : State :=
  let v := value % 2 ^ 27
  s.setReg 0x180008 (if bit value 27 && !bit value 26 then setFld v 15 0 phyData else v)

/-! ### The commands -/

/-- EM_ENABLE (R378, R379, R381). -/
def execEmEnable (t : Tick) (port : Nat) (on : Bool) (s : State) : Result := .next ((s.advanceTo t).enPort port on)

/-- RESTART_AN (R380, R403). -/
def execRestartAn (t : Tick) (port : Nat) (s : State) : Result := .next ((s.advanceTo t).restartAn port)

/-- LINK_UP (R398, R405). -/
def execLinkUp (t : Tick) (port : Nat) (twTx twRx : Nat) (s : State) : Result := .next ((s.advanceTo t).linkUpNow port twTx twRx)

/-- LINK_DOWN (R393). -/
def execLinkDown (t : Tick) (port : Nat) (s : State) : Result :=
  let s := s.advanceTo t
  .next (if s.epThere port then s.linkLost port else s)

/-- FRAME_RECEIVE (R382 to R386). -/
def execFrameReceive (t : Tick) (port : Nat) (first : Tick) (bytes : List Byte) (later : List (Nat × Tick)) (assyAt : Option Tick)
    (s : State) : Result :=
  .next ((s.advanceTo t).takeFrame port { first := first, later := later } bytes assyAt)

/-- PFC_FRAME_RECEIVE (R385, R392): an accepted frame of 64 bytes that the MAC consumes. -/
def execPfcFrameReceive (t : Tick) (port : Nat) (times : List (Nat × Nat)) (s : State) : Result :=
  let s := s.advanceTo t
  .next (if s.epThere port && s.linkOn port then
      (((s.incSat (emB port + 0x100)).incSat (emB port + 0x108) 64).incSat (emB port + 0x148)).pfcTake port times
    else s)

/-- PFC_PAUSE_EXPIRY (R392). -/
def execPfcPauseExpiry (t : Tick) (port : Nat) (prio : Nat) (s : State) : Result :=
  let s := s.advanceTo t
  let p := s.ep port
  .next (if Sparse.get (fun _ => 0) p.pause prio ≤ s.sn then s.setEp port { p with pause := Sparse.set (fun _ => 0) p.pause prio 0 }
    else s)

/-- HOST_PATH_FRAME_WRITE (R387, R532, R535). -/
def execHostPathFrameWrite (t : Tick) (port : Nat) (s : State) : Result := .next ((s.advanceTo t).writeRx port)

/-- PFC_FRAME_SEND (R388). -/
def execPfcFrameSend (t : Tick) (port : Nat) (s : State) : Result := .next ((s.advanceTo t).pfcWatch port)

/-- PFC_REPEAT (R388). -/
def execPfcRepeat (t : Tick) (port : Nat) (s : State) : Result := .next ((s.advanceTo t).pfcAgain port)

/-- PREEMPT_VERIFY (R391). -/
def execPreemptVerify (t : Tick) (port : Nat) (ok : Bool) (s : State) : Result :=
  let s := s.advanceTo t
  .next (if s.epThere port && s.rf (emB port + 0x10) 26 24 == 1 then s.setRf (emB port + 0x10) 26 24 (if ok then 2 else 3) else s)

/-- LPI_ENTER (R398). -/
def execLpiEnter (t : Tick) (port : Nat) (s : State) : Result := .next ((s.advanceTo t).lpiStart port)

/-- LPI_WAKE (R398). -/
def execLpiWake (t : Tick) (port : Nat) (s : State) : Result := .next ((s.advanceTo t).lpiWake port)

/-- AUTO_RATE_INTERVAL (R399). -/
def execAutoRateInterval (t : Tick) (port : Nat) (txUtil rxUtil : Nat) (s : State) : Result :=
  .next ((s.advanceTo t).autoRate port txUtil rxUtil)

/-- SC_FRAME_RECEIVE (R401). -/
def execScFrameReceive (t : Tick) (bytes : List Byte) (s : State) : Result := .next ((s.advanceTo t).scReceive bytes)

/-- SC_FRAME_TRANSMIT (R401). -/
def execScFrameTransmit (t : Tick) (s : State) : Result := .next (s.advanceTo t).scSend

/-- SC_COLLISION (R401). -/
def execScCollision (t : Tick) (sent : Nat) (s : State) : Result := .next ((s.advanceTo t).scCollide sent)

/-- MDIO_GO (R406). -/
def execMdioGo (t : Tick) (value : Word) (phyData : Nat) (s : State) : Result :=
  let s := s.advanceTo t
  .next (if s.domOn 29 then (let r := s.written 0x180008 value.toNat; r.1.mdio r.2 phyData) else s)

/-- PARTNER_LOW_POWER_IDLE (R405). -/
def execPartnerLowPowerIdle (t : Tick) (port : Nat) (idle : Bool) (s : State) : Result :=
  .next ((s.advanceTo t).partnerIdle port idle)

end Sys2Proof.Machine
end

