-- ==== Sys2Proof/Machine/EngMat.lean ====
section
/-! DEFINITION. The matrix arrays and the dequantisation engine: MAT and TBUILD (R205, R206, R220 to R225, R274 to R278,
R284, R617). -/

namespace Sys2Proof.Machine

/-! ### MAT's descriptor and mode (R274, R275) -/

structure MatD where
  x : TD := {}
  w : TD := {}
  y : TD := {}
  bias : Nat := 0
  outl : Nat := 0
  outw : Nat := 0
  tbl : Nat := 0
  ctrl : Nat := 0
  noutl : Nat := 0
  mult : Nat := 0
  multA : Nat := 0
  deriving DecidableEq, Repr

/-- The kind of a mode of R275. -/
inductive MatKind where
  | int
  | plain
  | grouped
  | cb4
  deriving DecidableEq, Repr

/-- The mode of a pair of operands, and its inputs per wave. -/
def matMode (x w : TD) : Option (MatKind × Nat) :=
  let fp8 (d : Nat) : Bool := d == 4 || d == 5
  if x.quant && w.quant then
    let a := x.q.efmt
    let b := w.q.efmt
    if a == 1 && b == 1 then some (.grouped, 512)
    else if fp8 a && fp8 b then some (.grouped, 512)
    else if (a == 6 || a == 7) && (b == 6 || b == 7) then some (.grouped, 512)
    else if (a == 8 || a == 9) && (b == 8 || b == 9) then some (.grouped, 512)
    else if a == 11 && b == 11 then some (.grouped, 512)
    else if (a == 10 || a == 0) && (b == 10 || b == 0) then some (.grouped, 1024)
    else none
  else if w.quant then
    if !x.quant && w.q.efmt == 12 && (x.dfmt == 6 || fp8 x.dfmt) then some (.cb4, 1024) else none
  else if x.quant then none
  else
    let a := x.dfmt
    let b := w.dfmt
    if decide (a ≤ 1) && b == 0 then some (.int, 512)
    else if (a == 2 || a == 3) && b == 2 then some (.int, 1024)
    else if fp8 a && fp8 b then some (.plain, 512)
    else if a == 6 && b == 6 then some (.plain, 512)
    else none

def Rd.matD (r : Rd) (a : Nat) : Rd × MatD :=
  let d := (r.align a 16).bytes a 80
  let l := d.2
  let x := d.1.td (leAt l 0 8) false
  let w := x.1.td (leAt l 8 8) false
  let y := w.1.td (leAt l 16 8) true
  (y.1.want (leAt l 0x44 4 == 0),
   { x := x.2, w := w.2, y := y.2, bias := leAt l 0x18 8, outl := leAt l 0x20 8, outw := leAt l 0x28 8, tbl := leAt l 0x30 8
     ctrl := leAt l 0x38 4, noutl := leAt l 0x3C 4, mult := leAt l 0x40 4, multA := leAt l 0x48 8 })

def MatD.accum (d : MatD) : Bool := bit d.ctrl 0
def MatD.acc16 (d : MatD) : Bool := bit d.ctrl 1
def MatD.sh (d : MatD) : Nat := fld d.ctrl 7 2
def MatD.perch (d : MatD) : Bool := bit d.ctrl 8

/-- Y is an INT32 (FP32) tensor. -/
def TD.isI32 (t : TD) : Bool := !t.quant && t.dfmt == 10
def TD.isF32 (t : TD) : Bool := !t.quant && t.dfmt == 8

/-- What MAT checks of its fields (R220, R274, R275). -/
def MatD.ok (d : MatD) (k : MatKind) : Bool :=
  d.x.cols == d.w.cols && d.y.rows == d.x.rows && d.y.cols == d.w.rows && decide (d.ctrl < 512) &&
  (!d.acc16 || k == .int) && (d.outl == 0 || (k != .int && decide (d.noutl ≤ d.x.cols / 64))) &&
  (!d.accum || (d.bias == 0 && (if k == .int then d.y.isI32 else d.y.isF32)))

/-- A list in strictly ascending order, each entry below `k` (R220). -/
def ascending (k : Nat) : List Nat → Bool
  | [] => true
  | [a] => decide (a < k)
  | a :: b :: r => decide (a < b) && ascending k (b :: r)

/-! ### Sums of products -/

/-- The exact sum of values, with the first invalid combination met (R196). -/
def sumNum : List (Num × Ind) → Num × Ind
  | [] => (.zero, .none)
  | a :: r =>
    let nan := (a :: r).any fun x => x.1.isNan && x.2 == Ind.none
    let inv := (a :: r).any fun x => x.2 == Ind.inv
    if nan then (.nan, .none) else if inv then (.nan, .inv)
    else r.foldl (fun (t : Num × Ind) x => let y := t.1.add x.1; (y.1, t.2.first y.2)) a

/-- Pairwise products. -/
def products (a b : List Num) : List (Num × Ind) := (a.zip b).map fun p => p.1.mul p.2

/-- The entries of a list that are not outliers. -/
def keep {α : Type} (out : List Bool) (l : List α) : List α := (l.zip out).filterMap fun p => if p.2 then none else some p.1

/-- The term of two groups on the same channels (R205, R206): `xc`, `wc` are their codes on those channels, `out` marks
outliers, and `rs` is the weight row sum the instruction takes. -/
def groupTerm (fx fw : EF) (x w : Grp) (xc wc : List Nat) (out : List Bool) (rs : Int) : Num × Ind :=
  let sc := x.scale.mul w.scale
  let ints : Bool := match fx, fw, x.off, w.off with
    | .int _ _, .int _ _, none, none => true
    | _, _, _, _ => false
  let sum : Num × Ind :=
    if ints then
      let q := (keep out (xc.zip wc)).map fun p => (fx.intOf p.1, fw.intOf p.2)
      let qq := (q.map fun p => p.1 * p.2).sum
      let cs := (q.map fun p => p.1).sum
      let r := if x.zp = 0 then 0 else rs
      (.ofInt (qq - x.zp * r - w.zp * cs + Int.ofNat q.length * w.zp * x.zp), .none)
    else
      let xs := match x.off with | some o => xc.map fun _ => o | none => xc.map (fx.value x.zp)
      let ws := match w.off with | some o => wc.map fun _ => o | none => wc.map (fw.value w.zp)
      sumNum (keep out (products xs ws))
  let t := sc.1.mul sum.1
  -- a NaN operand decides over every invalid combination of the term (R196)
  let nanIn := x.scale.isNan || w.scale.isNan || (sum.1.isNan && sum.2 == Ind.none)
  (t.1, if nanIn then .none else sc.2.first (sum.2.first t.2))

/-- Cut into steps of P inputs. -/
def stepsOf (p k : Nat) : List Nat := (List.range ((k + p - 1) / p)).map (· * p)

/-- FP32 accumulation over steps: each step's terms are added exactly and rounded once (R190, R276). -/
def accumulate (terms : List (List (Num × Ind))) (init : Nat) : Nat × Nat :=
  terms.foldl (fun (a : Nat × Nat) t => let r := accFp (some (fp32.decode a.1)) t; (r.1, Nat.lor a.2 (indOfFlags r.2))) (init, 0)

/-- Integer accumulation over steps: each step's exact total saturates once (R167, R190). -/
def accumulateInt (w : Nat) (sums : List Int) (init : Int) : Int × Nat :=
  sums.foldl (fun (a : Int × Nat) t => let v := satInt w (a.1 + t); (v, if v = a.1 + t then a.2 else Nat.lor a.2 8))
    (satInt w init, if satInt w init = init then 0 else 8)

/-! ### Operands of one MAT as read -/

structure MatIn where
  d : MatD
  kind : MatKind := .int
  p : Nat := 512
  /-- Outlier marks of the channels. -/
  out : List Bool := []
  list : List Nat := []
  /-- Rows of plain operands as codes. -/
  xc : List (List Nat) := []
  wc : List (List Nat) := []
  /-- Rows of grouped operands. -/
  xg : List (List Grp) := []
  wg : List (List Grp) := []
  /-- Product tables. -/
  tbl : List (List Nat) := []
  bias : List Nat := []
  mults : List Nat := []
  /-- Present values of Y. -/
  y0 : List (List Nat) := []
  /-- BF16 outlier weights by output. -/
  ow : List (List Nat) := []
  deriving DecidableEq, Repr

/-- 32-bit words at an address. -/
def Rd.words (r : Rd) (a n : Nat) : Rd × List Nat :=
  let x := r.bytes a (4 * n)
  (x.1, (List.range n).map fun i => leAt x.2 (4 * i) 4)

/-- 32-bit words at an address; none when the address is 0. -/
def Rd.wordsOpt (r : Rd) (a n : Nat) : Rd × List Nat := if a = 0 then (r, []) else r.words a n

/-- The block size, as CBSHIFT, of the codebooks behind the tables at an address: the TBUILD that built them here names it;
that of other tables is a free value of 9 to 31 (R224, R284; log entry 103). -/
def State.cbShiftOf (s : State) (tbl : Nat) : Nat :=
  match s.eng.cbShift.find? fun e => e.1 == tbl with
  | some e => e.2
  | none => 9 + s.freeVal % 23

/-- Read everything MAT needs. -/
def Rd.matIn (r : Rd) (a : Nat) : Rd × MatIn × List Nat × Hist :=
  let d := r.matD a
  let m := matMode d.2.x d.2.w
  let k := (m.getD (.int, 512)).1
  let r := d.1.want (m.isSome && d.2.ok k && (k != .cb4 || decide (d.2.w.rows ≤ 2 ^ r.s.cbShiftOf d.2.tbl)))
  let d := d.2
  let r := if k = .cb4 then r.align d.tbl 64 else r
  if !r.ok then (r, { d := d }, [], {})
  else
    let kk := d.x.cols
    let l := r.wordsOpt d.outl d.noutl
    let r := l.1.want (ascending kk l.2)
    let out := (List.range kk).map fun i => l.2.contains i
    let xi := List.range d.x.rows
    let wi := List.range d.w.rows
    let xc := if d.x.quant then (r, []) else Rd.each (fun r i => r.codes d.x i) r xi
    let xg := if d.x.quant then Rd.each (fun r i => r.groups d.x i) xc.1 xi else (xc.1, [])
    let wc := if d.w.quant then (xg.1, []) else Rd.each (fun r i => r.codes d.w i) xg.1 wi
    let wg := if d.w.quant then Rd.each (fun r i => r.groups d.w i) wc.1 wi else (wc.1, [])
    let tb := if k = .cb4 then
        Rd.each (fun r i => if out.getD i false then (r, []) else
          let x := r.bytes (d.tbl + 64 * i) 64
          (x.1, (List.range 16).map fun j => leAt x.2 (4 * j) 4)) wg.1 (List.range kk)
      else (wg.1, [])
    let b := tb.1.wordsOpt d.bias d.w.rows
    let mu := if d.perch then b.1.words d.multA d.w.rows else (b.1, [])
    let y0 := if d.accum then Rd.each (fun r i => r.codes d.y i) mu.1 xi else (mu.1, [])
    let ow := if l.2.isEmpty then (y0.1, []) else Rd.each (fun r o =>
        let x := r.bytes (d.outw + o * d.noutl * 2) (2 * d.noutl)
        (x.1, (List.range d.noutl).map fun j => leAt x.2 (2 * j) 2)) y0.1 wi
    let f := ow.1.forOutput d.y
    (f.1, { d := d, kind := k, p := (m.getD (.int, 512)).2, out := out, list := l.2, xc := xc.2, wc := wc.2, xg := xg.2, wg := wg.2
            tbl := tb.2, bias := b.2, mults := mu.2, y0 := y0.2, ow := ow.2 }, f.2.1, f.2.2)

/-! ### One output -/

/-- Row `n` of a list of rows. -/
def rowAt {α : Type} (l : List (List α)) (n : Nat) : List α := l.getD n []

/-- A range of a list. -/
def part {α : Type} (l : List α) (a n : Nat) : List α := (l.drop a).take n

/-- Terms of step at channel `a` of a grouped operation: the groups common to both operands.  A weight row sum belongs to an
output and a group; no field of R274 gives its tensor's address, so each is a free value (R206; log entry 28). -/
def MatIn.groupTerms (m : MatIn) (fv : Nat → Nat) (n o a : Nat) : List (Num × Ind) :=
  let gx := m.d.x.q.g
  let gw := m.d.w.q.g
  let g := min gx gw
  let k := m.d.x.cols
  let len := min m.p (k - a)
  (List.range ((len + g - 1) / g)).map fun i =>
    let c := a + i * g
    let x := (rowAt m.xg n).getD (c / gx) ⟨none, .one, 0, []⟩
    let w := (rowAt m.wg o).getD (c / gw) ⟨none, .one, 0, []⟩
    groupTerm m.d.x.ef m.d.w.ef x w (part x.codes (c % gx) g) (part w.codes (c % gw) g) (part m.out c g)
      (signed 16 (fv (o * k + c)))

/-- Terms of a CB4 step (R225). -/
def MatIn.cbTerms (m : MatIn) (n o a : Nat) : List (Num × Ind) :=
  let g := m.d.w.q.g
  let k := m.d.x.cols
  let len := min m.p (k - a)
  (List.range ((len + g - 1) / g)).map fun i =>
    let c := a + i * g
    let w := (rowAt m.wg o).getD (c / g) ⟨none, .one, 0, []⟩
    let out := part m.out c g
    match w.off with
    | some off =>
      let xs := (part (rowAt m.xc n) c g).map (m.d.x.ef.value 0)
      let s := sumNum (keep out (xs.map fun x => (x, Ind.none)))
      let t := off.mul s.1
      (t.1, if off.isNan then .none else s.2.first t.2)
    | none =>
      let es := (w.codes.zip (part m.tbl c g)).map fun p => (fp32.decode (p.2.getD p.1 0), Ind.none)
      let s := sumNum (keep out es)
      let t := w.scale.mul s.1
      (t.1, if w.scale.isNan then .none else s.2.first t.2)

/-- Products of a plain floating-point step. -/
def MatIn.plainTerms (m : MatIn) (n o a : Nat) : List (Num × Ind) :=
  keep (part m.out a m.p) (products ((part (rowAt m.xc n) a m.p).map (m.d.x.ef.value 0)) ((part (rowAt m.wc o) a m.p).map (m.d.w.ef.value 0)))

/-- BF16 outlier activation `j` of row `n`: the element itself where X is BF16; else its place is not stated (log entry 2). -/
def MatIn.outAct (m : MatIn) (fv : Nat → Nat) (n j i : Nat) : Num :=
  if !m.d.x.quant && m.d.x.dfmt == 6 then bf16.decode ((rowAt m.xc n).getD i 0) else bf16.decode (fv (m.d.w.rows * m.d.x.cols + n * m.list.length + j) % 65536)

/-- The outlier sum, rounded once to FP32, added to the accumulator (R221). -/
def MatIn.outlier (m : MatIn) (fv : Nat → Nat) (n o : Nat) (acc : Nat × Nat) : Nat × Nat :=
  if m.list.isEmpty then acc
  else
    let xs := (m.list.zip (List.range m.list.length)).map fun p => m.outAct fv n p.2 p.1
    let s := accFp none (products xs ((rowAt m.ow o).map bf16.decode))
    let t := f32Add acc.1 s.1
    (t.1, Nat.lor (Nat.lor acc.2 (indOfFlags s.2)) (indBit t.2))

/-- Output (n, o): its exact value for Y's conversion, and the indications.  A 32-bit accumulator that becomes a narrower
integer is rescaled (R222, R277); DESIGN CHOICE (log entry 104): a 16-bit one goes into an INT32 Y as it stands. -/
def MatIn.output (m : MatIn) (fv : Nat → Nat) (n o : Nat) : Num × Nat :=
  let k := m.d.x.cols
  let init := if m.d.accum then (rowAt m.y0 n).getD o 0 else m.bias.getD o 0
  match m.kind with
  | .int =>
    let prod (a : Nat) : Int :=
      (((part (rowAt m.xc n) a m.p).zip (part (rowAt m.wc o) a m.p)).map fun p => m.d.x.ef.intOf p.1 * m.d.w.ef.intOf p.2).sum
    let w := if m.d.acc16 then 16 else 32
    let acc := accumulateInt w ((stepsOf m.p k).map prod) (signed 32 init)
    let mul := signed 32 (if m.d.perch then m.mults.getD o 0 else m.d.mult)
    let narrow := !m.d.y.quant && (decide (m.d.y.dfmt ≤ 3) || (m.d.y.dfmt == 9 && !m.d.acc16))
    (.ofInt (if narrow then actShift (acc.1 * mul) m.d.sh else acc.1), acc.2)
  | kind =>
    let terms (a : Nat) : List (Num × Ind) :=
      if kind = .grouped then m.groupTerms fv n o a else if kind = .cb4 then m.cbTerms n o a else m.plainTerms n o a
    let acc := m.outlier fv n o (accumulate ((stepsOf m.p k).map terms) init)
    (fp32.decode acc.1, acc.2)

/-- MAT: the operand-wait counters depend on arrival times, so they grow by free amounts (log entry 2). -/
def matSem : EngSem := fun s n w =>
  let r := ({ s := s, n := n } : Rd).matIn (operE w)
  let m := r.2.1
  r.1.out s fun s poison =>
    let fv (i : Nat) : Nat := (Config.freeValue (s.free + 1 + i)).toNat
    let rows := (List.range m.d.x.rows).map fun i => (List.range m.d.w.rows).map fun o => m.output fv i o
    let b := engB (engineOf n)
    let s := s.useFree (1 + m.d.w.rows * m.d.x.cols + m.d.x.rows * m.list.length)
    let s := ((s.inc64 (b + 0x80) s.freeVal).useFree.inc64 (b + 0x88) s.useFree.freeVal).useFree
    let s := s.putTensor n m.d.y (satfpE w) poison r.2.2.1 r.2.2.2 rows
    .done (s.indicate n ((rows.map fun l => l.foldl (fun a v => Nat.lor a v.2) 0).foldl Nat.lor 0))

/-! ### TBUILD (R223, R224, R284) -/

/-- What TBUILD reads: the activations, the codebook entries, and where the tables go. -/
structure TbIn where
  fmt : EF := .int 8 true
  tbl : Nat := 0
  /-- Activation codes with their channels, outliers left out. -/
  acts : List (Nat × Nat) := []
  /-- The 16 entries of the codebook, as FP16 codes. -/
  entries : List Nat := []
  cbShift : Nat := 9
  deriving DecidableEq, Repr

def Rd.tbIn (r : Rd) (a : Nat) : Rd × TbIn :=
  let d := (r.align a 16).bytes a 48
  let l := d.2
  let t := d.1.td (leAt l 0 8) false
  let fmtOk := !t.2.quant && (t.2.dfmt == 6 || t.2.dfmt == 4 || t.2.dfmt == 5)
  let tb := leAt l 0x18 8
  let outl := leAt l 0x20 8
  let noutl := leAt l 0x28 4
  let r := (t.1.want (fmtOk && t.2.rows == 1 && decide (9 ≤ leAt l 0x10 4) && decide (leAt l 0x10 4 < 32) &&
    (outl == 0 || decide (noutl ≤ t.2.cols / 64)))).align tb 64
  if !r.ok then (r, {})
  else
    let o := r.wordsOpt outl noutl
    let cb := (o.1.want (ascending t.2.cols o.2)).bytes (leAt l 8 8 + 32 * leAt l 0x14 4) 32
    let x := cb.1.codes t.2 0
    (x.1, { fmt := t.2.ef, tbl := tb, acts := (x.2.zip (List.range x.2.length)).filter fun p => !o.2.contains p.2
            entries := (List.range 16).map fun k => leAt cb.2 (2 * k) 2, cbShift := leAt l 0x10 4 })

/-- The product table of an activation: FP32 codes and indications. -/
def TbIn.table (d : TbIn) (code : Nat) : List (Nat × Ind) :=
  d.entries.map fun e => fp32.put ((d.fmt.value 0 code).mul (fp16.decode e))

def tbuildSem : EngSem := fun s n w =>
  let x := ({ s := s, n := n } : Rd).tbIn (operE w)
  x.1.out s fun s poison =>
    let put (s : State) (p : Nat × Nat) : State :=
      let es := x.2.table p.1
      (s.engWrite n (x.2.tbl + 64 * p.2) (packCodes 32 (es.map Prod.fst)) poison).indicate n (es.foldl (fun m e => Nat.lor m (indBit e.2)) 0)
    let known := (s.eng.cbShift.filter fun e => e.1 != x.2.tbl) ++ [(x.2.tbl, x.2.cbShift)]
    .done (x.2.acts.foldl put { s with eng := { s.eng with cbShift := known } })

/-- MAT. -/
def execMat (t : Tick) (ctx : Nat) (s : State) : Result := .next ((s.advanceTo t).cxRun ctx (fun o => engOp ctx o 0x10) false matSem)
/-- TBUILD. -/
def execTbuild (t : Tick) (ctx : Nat) (s : State) : Result := .next ((s.advanceTo t).cxRun ctx (fun o => engOp ctx o 0x30) false tbuildSem)

end Sys2Proof.Machine
end

