-- ==== Sys2Proof/Machine/EngVec.lean ====
section
/-! DEFINITION. The vector and nonlinear engine: VEW, VRED, SOFTMAX, NORM, VQUANT (R279 to R282), and the sampling engine
(R285 to R287). -/

namespace Sys2Proof.Machine

/-! ### Exponential, logarithm, reciprocal, reciprocal square root (R281)

EXP and LOG are evaluated in fixed point with `expP` fraction bits, whose error lies far below the distance of any FP32
argument's result from a rounding boundary (log entry 12). -/

/-- Fraction bits of the fixed-point evaluation. -/
abbrev expP : Nat := 400
abbrev fxOne : Nat := 2 ^ expP

/-- 2 atanh(z) for a fixed-point z: the sum of 2 z^(2i+1) / (2i+1). -/
def atanh2 (z2 : Int) : Nat → Nat → Int → Int
  | 0, _, _ => 0
  | f + 1, i, p => 2 * p / Int.ofNat (2 * i + 1) + atanh2 z2 f (i + 1) (p * z2 / Int.ofNat fxOne)

/-- ln of a fixed-point value near 1, as 2 atanh((m − 1) / (m + 1)). -/
def lnNear (m : Nat) : Int :=
  let z := (Int.ofNat m - Int.ofNat fxOne) * Int.ofNat fxOne / (Int.ofNat m + Int.ofNat fxOne)
  atanh2 (z * z / Int.ofNat fxOne) 140 0 z

/-- ln 2 in fixed point. -/
def ln2 : Int := lnNear (fxOne * 4 / 3) + lnNear (fxOne * 3 / 2)

/-- The Taylor sum of e^r for a fixed-point r. -/
def expSum (r : Int) : Nat → Nat → Int → Int
  | 0, _, _ => 0
  | f + 1, i, p => p + expSum r f (i + 1) (p * r / Int.ofNat fxOne / Int.ofNat (i + 1))

/-- e^x of a finite value, as a dyadic approximation. -/
def expNum (x : Num) : Num :=
  let fx := x.top * Int.ofNat fxOne / Int.ofNat x.bot
  let k := fx / ln2
  let v := expSum (fx - k * ln2) 120 0 (Int.ofNat fxOne)
  .dyad false v.toNat (k - Int.ofNat expP)

/-- ln of a positive value. -/
def logNum (n d : Nat) : Num :=
  let e := floorLog2 n d
  let m := if e < 0 then n * 2 ^ e.natAbs * fxOne / d else n * fxOne / (d * 2 ^ e.natAbs)
  let big := decide (fxOne * 4 / 3 < m)
  let l := (if big then lnNear (m / 2) + ln2 else lnNear m) + e * ln2
  if n = d then .zero else .dyad (decide (l < 0)) l.natAbs (-Int.ofNat expP)

/-- ⌊√v⌋ by digits: `b` is the bit tried next. -/
def isqrt (v : Nat) : Nat → Nat → Nat
  | 0, r => r
  | b + 1, r => let t := r + 2 ^ b; isqrt v b (if t * t ≤ v then t else r)

/-- EXP on an FP32 code. -/
def fexp (a : Nat) : Nat × Ind :=
  match fp32.decode a with
  | .nan => (0x7FC00000, .none)
  | .inf s => (if s then 0 else 0x7F800000, .none)
  | x =>
    if x.isZero then (0x3F800000, .none)
    else if (x.lt (.ofInt (-110))) then (0, .none)
    else if (Num.ofInt 90).lt x then (0x7F800000, .inf)
    else fp32.encode false (expNum x)

/-- LOG on an FP32 code. -/
def flog (a : Nat) : Nat × Ind :=
  match fp32.decode a with
  | .nan => (0x7FC00000, .none)
  | .inf s => if s then (0x7FC00000, .inv) else (0x7F800000, .none)
  | .fin s n d => if n = 0 then (0xFF800000, .none) else if s then (0x7FC00000, .inv) else fp32.encode false (logNum n d)

/-- RECIP on an FP32 code. -/
def frecip (a : Nat) : Nat × Ind :=
  match fp32.decode a with
  | .nan => (0x7FC00000, .none)
  | .inf s => (fp32.signed s 0, .none)
  | .fin s n d => if n = 0 then (fp32.signed s 0x7F800000, .none) else fp32.encode false (.frac s d n)

/-- RSQRT on an FP32 code. -/
def frsqrt (a : Nat) : Nat × Ind :=
  match fp32.decode a with
  | .nan => (0x7FC00000, .none)
  | .inf s => if s then (0x7FC00000, .inv) else (0, .none)
  | .fin s n d =>
    if n = 0 then (fp32.signed s 0x7F800000, .none)
    else if s then (0x7FC00000, .inv)
    else
      let v := d * 2 ^ 600 / n
      let y := isqrt v 380 0
      let exact : Bool := y * y == v && v * n == d * 2 ^ 600
      fp32.encode false (.frac false (2 * y + b2n (!exact)) (2 ^ 301))

/-! ### Descriptors and operands (R279, R280) -/

structure VxD where
  aTd : Nat := 0
  bTd : Nat := 0
  cTd : Nat := 0
  yTd : Nat := 0
  p0 : Nat := 0
  g : Nat := 0
  beta : Nat := 0
  deriving DecidableEq, Repr

def Rd.vxD (r : Rd) (a : Nat) : Rd × VxD :=
  let x := (r.align a 16).bytes a 64
  let l := x.2
  (x.1.want (leAt l 0x38 8 == 0), { aTd := leAt l 0 8, bTd := leAt l 8 8, cTd := leAt l 16 8, yTd := leAt l 24 8
                                    p0 := leAt l 0x20 4, g := leAt l 0x28 8, beta := leAt l 0x30 8 })

/-- An input of VX: CB4 codes have no codebook here. -/
def Rd.vxIn (r : Rd) (a : Nat) : Rd × TD := let x := r.td a false; (x.1.want (!x.2.quant || x.2.q.efmt != 12), x.2)

/-- A row of an operand as FP32 codes, with the indications of reading it. -/
def Rd.lanes (r : Rd) (t : TD) (i : Nat) : Rd × List (Nat × Nat) :=
  let x := r.values t i
  (x.1, x.2.map fun v => let e := fp32.encode false v.1; (e.1, Nat.lor (indBit v.2) (indBit e.2)))

/-- All rows. -/
def Rd.allLanes (r : Rd) (t : TD) : Rd × List (List (Nat × Nat)) := Rd.each (fun r i => r.lanes t i) r (List.range t.rows)

/-- Codes, and indications, of lanes. -/
def codesOf (l : List (Nat × Nat)) : List Nat := l.map Prod.fst
def indsOf (l : List (Nat × Nat)) : Nat := l.foldl (fun m x => Nat.lor m x.2) 0

/-- A lane result as a pair of code and indications. -/
def lane (r : Nat × Ind) : Nat × Nat := (r.1, indBit r.2)

/-- What an instruction of VX comes to: its output tensor, what a grouped output holds beforehand, and the rows of results as
FP32 codes with their indications. -/
structure VxOut where
  y : TD := {}
  old : List Nat := []
  hist : Hist := {}
  rows : List (List (Nat × Nat)) := []
  deriving DecidableEq, Repr

/-- Write FP32 results, converted to Y's format. -/
def vxDone (r : Rd × VxOut) (s : State) (n w : Nat) : EngOut :=
  r.1.out s fun s poison =>
    let d := r.2
    .done ((s.putTensor n d.y (satfpE w) poison d.old d.hist (d.rows.map fun r => r.map fun x => (fp32.decode x.1, x.2))).indicate n
      ((d.rows.map indsOf).foldl Nat.lor 0))

/-! ### VEW -/

/-- One element: operation, a, b, c, P0. -/
def vewOp (op a b c p0 : Nat) : Nat × Nat :=
  let x := fp32.decode a
  let y := fp32.decode b
  match op with
  | 0 => lane (fp32.put (x.add y))
  | 1 => lane (fp32.put (x.add y.neg))
  | 2 => lane (fp32.put (x.mul y))
  | 3 =>
    let p := x.mul y
    let z := fp32.decode c
    if p.2 = .inv then (if z.isNan then (0x7FC00000, 0) else (0x7FC00000, 1))
    else lane (fp32.put (p.1.add z))
  | 4 => (fmaxF a b, 0)
  | 5 => (fminF a b, 0)
  | 6 => lane (fexp a)
  | 7 => lane (flog a)
  | 8 => lane (frecip a)
  | 9 => lane (frsqrt a)
  | 10 => (a, 0)
  | _ => lane (fp32.put (x.mul (fp32.decode p0)))

/-- VEW uses B, and C. -/
def vewB (op : Nat) : Bool := decide (op ≤ 5)
def vewC (op : Nat) : Bool := op == 3

/-- A zip of three rows of lanes. -/
def vewRow (op p0 : Nat) (a b c : List (Nat × Nat)) : List (Nat × Nat) :=
  (List.range a.length).map fun i =>
    let x := a.getD i (0, 0)
    let y := b.getD i (0, 0)
    let z := c.getD i (0, 0)
    let r := vewOp op x.1 y.1 z.1 p0
    (r.1, Nat.lor (Nat.lor r.2 x.2) (Nat.lor (if vewB op then y.2 else 0) (if vewC op then z.2 else 0)))

def Rd.vewOut (r : Rd) (w : Nat) : Rd × VxOut :=
  let op := opfE w % 16
  let d := r.vxD (operE w)
  let r := d.1.want (decide (op < 12))
  let a := r.vxIn d.2.aTd
  let b := if vewB op then a.1.vxIn d.2.bTd else (a.1, a.2)
  let c := if vewC op then b.1.vxIn d.2.cTd else (b.1, a.2)
  let y := c.1.td d.2.yTd true
  let bcast := bit (opfE w) 7 && b.2.rows == 1
  let same (t : TD) : Bool := t.rows == a.2.rows && t.cols == a.2.cols
  let r := y.1.want ((same b.2 || (bcast && b.2.cols == a.2.cols)) && same c.2 && same y.2)
  if !r.ok then (r, {})
  else
    let la := r.allLanes a.2
    let lb := if vewB op then la.1.allLanes b.2 else (la.1, [])
    let lc := if vewC op then lb.1.allLanes c.2 else (lb.1, [])
    let f := lc.1.forOutput y.2
    (f.1, { y := y.2, old := f.2.1, hist := f.2.2
            rows := (List.range a.2.rows).map fun i =>
              vewRow op d.2.p0 (rowAt la.2 i) (rowAt lb.2 (if same b.2 then i else 0)) (rowAt lc.2 i) })

def vewSem : EngSem := fun s n w => vxDone (({ s := s, n := n } : Rd).vewOut w) s n w

/-! ### VRED -/

/-- The exact sum of FP32 codes divided by `n`, rounded once. -/
def sumRnd (l : List Nat) (n : Nat) : Nat × Nat :=
  let s := sumNum (l.map fun a => (fp32.decode a, Ind.none))
  let q := s.1.div (.ofInt (Int.ofNat n))
  lane (fp32.put (q.1, s.2.first q.2))

def vredRow (op : Nat) (l : List Nat) : Nat × Nat :=
  match op with
  | 0 => sumRnd l 1
  | 1 => match l with | [] => (0, 0) | a :: r => (r.foldl fmaxF a, 0)
  | _ => (amaxF l, 0)

def Rd.vredOut (r : Rd) (w : Nat) : Rd × VxOut :=
  let op := opfE w % 16
  let d := r.vxD (operE w)
  let a := (d.1.want (decide (op < 3))).vxIn d.2.aTd
  let y := a.1.td d.2.yTd true
  let r := y.1.want (y.2.rows == a.2.rows && y.2.cols == 1)
  if !r.ok then (r, {})
  else
    let la := r.allLanes a.2
    let f := la.1.forOutput y.2
    (f.1, { y := y.2, old := f.2.1, hist := f.2.2
            rows := la.2.map fun l => let v := vredRow op (codesOf l); [(v.1, Nat.lor v.2 (indsOf l))] })

def vredSem : EngSem := fun s n w => vxDone (({ s := s, n := n } : Rd).vredOut w) s n w

/-! ### SOFTMAX and NORM (R282) -/

/-- Rounded operations on codes, with indications. -/
def rMul (a b : Nat) : Nat × Nat := lane (f32Mul a b)
def rAdd (a b : Nat) : Nat × Nat := lane (f32Add a b)
def rSub (a b : Nat) : Nat × Nat := lane (fp32.put ((fp32.decode a).add (fp32.decode b).neg))

/-- One row of SOFTMAX. -/
def softmaxRow (p0 : Nat) (x : List Nat) : List (Nat × Nat) :=
  let z := x.map fun a => rMul a p0
  let m := match codesOf z with | [] => 0 | a :: r => r.foldl fmaxF a
  let d := z.map fun a => rSub a.1 m
  let e := d.map fun a => lane (fexp a.1)
  let s := sumRnd (codesOf e) 1
  let r := lane (frecip s.1)
  let extra := [indsOf z, indsOf d, indsOf e, s.2, r.2].foldl Nat.lor 0
  e.map fun a => let y := rMul a.1 r.1; (y.1, Nat.lor y.2 extra)

/-- One row of NORM: gains and biases as FP32 codes; no bias = none. -/
def normRow (layer : Bool) (p0 : Nat) (g : List Nat) (beta : Option (List Nat)) (x : List Nat) : List (Nat × Nat) :=
  let n := x.length
  let mu := sumRnd x n
  let d := if layer then x.map fun a => rSub a mu.1 else x.map fun a => (a, 0)
  let sq := sumNum ((codesOf d).map fun a => (fp32.decode a).mul (fp32.decode a))
  let q := sq.1.div (.ofInt (Int.ofNat n))
  let v0 := lane (fp32.put (q.1, sq.2.first q.2))
  let v := rAdd v0.1 p0
  let r := lane (frsqrt v.1)
  let extra := [if layer then mu.2 else 0, indsOf d, v0.2, v.2, r.2].foldl Nat.lor 0
  (List.range n).map fun i =>
    let a := rMul ((codesOf d).getD i 0) r.1
    let b := rMul a.1 (g.getD i 0)
    let c := match beta with | some l => rAdd b.1 (l.getD i 0) | none => (b.1, 0)
    (c.1, [a.2, b.2, c.2, extra].foldl Nat.lor 0)

/-- A per-row instruction: A and Y of one shape. -/
def Rd.rowOut (r : Rd) (w : Nat) (opOk : Bool) (vecs : Rd → VxD → TD → Rd × List Nat × List Nat)
    (f : VxD → List Nat → List Nat → List Nat → List (Nat × Nat)) : Rd × VxOut :=
  let d := r.vxD (operE w)
  let a := (d.1.want opOk).vxIn d.2.aTd
  let y := a.1.td d.2.yTd true
  let r := y.1.want (y.2.rows == a.2.rows && y.2.cols == a.2.cols)
  if !r.ok then (r, {})
  else
    let la := r.allLanes a.2
    let v := vecs la.1 d.2 a.2
    let o := v.1.forOutput y.2
    (o.1, { y := y.2, old := o.2.1, hist := o.2.2
            rows := la.2.map fun l => (f d.2 v.2.1 v.2.2 (codesOf l)).map fun x => (x.1, Nat.lor x.2 (indsOf l)) })

def Rd.softmaxOut (r : Rd) (w : Nat) : Rd × VxOut :=
  r.rowOut w true (fun r _ _ => (r, [], [])) fun d _ _ x => softmaxRow d.p0 x

def Rd.normOut (r : Rd) (w : Nat) : Rd × VxOut :=
  let op := opfE w % 16
  r.rowOut w (decide (op < 2))
    (fun r d a =>
      let g := r.words d.g a.cols
      let b := if op = 1 then g.1.wordsOpt d.beta a.cols else (g.1, [])
      (b.1, g.2, b.2))
    fun d g b x => normRow (op == 1) d.p0 g (if op = 1 ∧ d.beta ≠ 0 then some b else none) x

/-- VQUANT: A encoded into grouped Y. -/
def Rd.vquantOut (r : Rd) (w : Nat) : Rd × VxOut :=
  let d := r.vxD (operE w)
  let a := d.1.vxIn d.2.aTd
  let y := a.1.td d.2.yTd true
  let r := y.1.want (y.2.quant && y.2.rows == a.2.rows && y.2.cols == a.2.cols)
  if !r.ok then (r, {})
  else
    let la := r.allLanes a.2
    let f := la.1.forOutput y.2
    (f.1, { y := y.2, old := f.2.1, hist := f.2.2, rows := la.2 })

def softmaxSem : EngSem := fun s n w => vxDone (({ s := s, n := n } : Rd).softmaxOut w) s n w
def normSem : EngSem := fun s n w => vxDone (({ s := s, n := n } : Rd).normOut w) s n w
def vquantSem : EngSem := fun s n w => vxDone (({ s := s, n := n } : Rd).vquantOut w) s n w

/-! ### SAMPLE (R285 to R287) -/

/-- One round of the generator. -/
def rngRound (x k : Nat) : Nat :=
  let x := (x + k) % 2 ^ 64
  let x := Nat.xor x (x >>> 29)
  let x := x * 0xA3B195C7E2D41F6B % 2 ^ 64
  Nat.xor x (x >>> 32)

/-- The generator (R286). -/
def rngRounds : Nat → Nat → Nat → Nat
  | 0, x, _ => x
  | f + 1, x, k => rngRounds f (rngRound x k) ((k + 0x6C8E9CF570324A1D) % 2 ^ 64)

def rngValue (k s c : Nat) : Nat := rngRounds 6 ((c + s * 2 ^ 32) % 2 ^ 64) k

/-- `a` ranks before `b`: descending value, then lower index; NaN last.  Entries are (code, index). -/
def ranksBefore (a b : Nat × Nat) : Bool :=
  let na := f32Nan a.1
  let nb := f32Nan b.1
  if na || nb then (if na && nb then decide (a.2 < b.2) else nb)
  else
    let x := fp32.decode a.1
    let y := fp32.decode b.1
    y.lt x || (!x.lt y && decide (a.2 < b.2))

/-- Insert into a ranking that keeps its first `k` entries. -/
def rankInsert (x : Nat × Nat) : Nat → List (Nat × Nat) → List (Nat × Nat)
  | 0, _ => []
  | _ + 1, [] => [x]
  | k + 1, y :: r => if ranksBefore x y then x :: (y :: r).take k else y :: rankInsert x k r

/-- Running exact sums. -/
def runSums : Num → List Num → List Num
  | _, [] => []
  | t, a :: r => let u := t.addFin a; u :: runSums u r

/-- The draw: token, probability and indications, for scaled logits `z`, `k` ranks, `p` and `u`; none where R287 states no
result, which is so when a kept e is NaN and the row is not all NaN. -/
def drawToken (z : List Nat) (k : Nat) (p u : Num) : Option (Nat × Nat × Nat) :=
  let rank := (z.zip (List.range z.length)).foldl (fun l x => rankInsert x k l) []
  let m := (rank.headD (0x7FC00000, 0)).1
  if f32Nan m then some (0, 0x7FC00000, 0)
  else
    let d := rank.map fun a => rSub a.1 m
    let e := d.map fun a => lane (fexp a.1)
    let vals := (codesOf e).map fp32.decode
    if vals.any fun v => !v.finite then none
    else
      let c := runSums .zero vals
      let s := c.getLastD .zero
      let bound := (p.mul s).1
      let j := (firstIdx (fun v => !v.lt bound) 0 c).getD 0
      let t := (u.mul (c.getD j .zero)).1
      let i := (firstIdx (fun v => t.lt v) 0 c).getD 0
      let q := lane (fp32.put ((vals.getD i .zero).div (c.getD j .zero)))
      some ((rank.getD i (0, 0)).2, q.1, [indsOf d, indsOf e, q.2].foldl Nat.lor 0)

/-- What SAMPLE reads: its descriptor and the logits as FP32 codes. -/
structure SpIn where
  d : List Byte := []
  logits : List (Nat × Nat) := []
  deriving DecidableEq, Repr

def Rd.spIn (r : Rd) (a : Nat) : Rd × SpIn :=
  let d := (r.align a 16).bytes a 48
  let l := d.2
  let t := d.1.td (leAt l 0 8) false
  let v := t.2.cols
  let k := leAt l 0x1C 4
  let p := fp32.decode (leAt l 0x20 4)
  let pOk := Num.zero.lt p && !Num.one.lt p
  let r := t.1.want (!t.2.quant && (t.2.dfmt == 8 || t.2.dfmt == 6) && t.2.rows == 1 && decide (1 ≤ v) && decide (v ≤ 2 ^ 20) &&
    decide (1 ≤ k) && decide (k ≤ min 1024 v) && pOk && leAt l 0x28 8 == 0)
  if !r.ok then (r, {}) else let x := r.lanes t.2 0; (x.1, { d := l, logits := x.2 })

/-- The scaled logits. -/
def SpIn.scaled (x : SpIn) : List (Nat × Nat) := (codesOf x.logits).map fun y => rMul y (leAt x.d 0x24 4)

/-- The draw at a value of the counter. -/
def SpIn.draw (x : SpIn) (c : Nat) : Option (Nat × Nat × Nat) :=
  drawToken (codesOf x.scaled) (leAt x.d 0x1C 4) (fp32.decode (leAt x.d 0x20 4))
    (Num.dyad false (rngValue (leAt x.d 0x10 8) (leAt x.d 0x18 4) c / 2 ^ 40) (-24))

def sampleSem : EngSem := fun s n w =>
  let x := ({ s := s, n := n } : Rd).spIn (operE w)
  x.1.out s fun s poison =>
    let b := cxB n
    let c := s.reg (b + 0x80)
    let nan := (codesOf x.2.logits).any f32Nan
    let dr := x.2.draw c
    let f1 := s.freeVal % 2 ^ 32
    let f2 := s.useFree.freeVal % 2 ^ 32
    let s := if dr.isSome then s else s.useFree 2
    let y := dr.getD (f1, f2, 1)
    let s := (s.setReg (b + 0x80) (c + 1)).indicate n (Nat.lor (Nat.lor (b2n nan) (indsOf x.2.scaled)) y.2.2)
    .done (s.engWrite n (leAt x.2.d 8 8) (leBytes 4 y.1 ++ leBytes 4 y.2.1 ++ leBytes 8 c) poison)

/-- VEW. -/
def execVew (t : Tick) (ctx : Nat) (s : State) : Result := .next ((s.advanceTo t).cxRun ctx (fun o => engOp ctx o 0x20) false vewSem)
/-- VRED. -/
def execVred (t : Tick) (ctx : Nat) (s : State) : Result := .next ((s.advanceTo t).cxRun ctx (fun o => engOp ctx o 0x21) false vredSem)
/-- SOFTMAX. -/
def execSoftmax (t : Tick) (ctx : Nat) (s : State) : Result := .next ((s.advanceTo t).cxRun ctx (fun o => engOp ctx o 0x22) false softmaxSem)
/-- NORM. -/
def execNormV (t : Tick) (ctx : Nat) (s : State) : Result := .next ((s.advanceTo t).cxRun ctx (fun o => engOp ctx o 0x23) false normSem)
/-- VQUANT. -/
def execVquant (t : Tick) (ctx : Nat) (s : State) : Result := .next ((s.advanceTo t).cxRun ctx (fun o => engOp ctx o 0x24) false vquantSem)
/-- SAMPLE. -/
def execSampleTok (t : Tick) (ctx : Nat) (s : State) : Result := .next ((s.advanceTo t).cxRun ctx (fun o => engOp ctx o 0x38) false sampleSem)

end Sys2Proof.Machine
end

