-- ==== Sys2Proof/Machine/EngMisc.lean ====
section
/-! DEFINITION. The check and crypto engine (R293 to R295) and the data movers (R296, R297). -/

namespace Sys2Proof.Machine

/-! ### CRC (R293) -/

def crcStep (w poly c : Nat) (b : Bool) : Nat :=
  let top := bit c (w - 1) != b
  let c := c * 2 % 2 ^ w
  if top then Nat.xor c poly else c

/-- The CRC of R293. -/
def crcOf (w poly init xorout : Nat) (refin refout : Bool) (l : List Byte) : Nat :=
  let byte (c : Nat) (b : Byte) : Nat :=
    let v := if refin then reverseBits 8 b.toNat else b.toNat
    (List.range 8).foldl (fun c i => crcStep w poly c (bit v (7 - i))) c
  let c := l.foldl byte init
  let c := if refout then reverseBits w c else c
  Nat.xor c xorout % 2 ^ w


/-- A check instruction: from descriptor and data to the bytes at RESULT. -/
def ckSem (len : Nat) (ok : List Byte → Bool) (f : Nat → List Byte → List Byte → List Byte) : EngSem := fun s n w =>
  let d := (({ s := s, n := n } : Rd).align (operE w) 16).bytes (operE w) len
  let r := d.1.want (ok d.2)
  if !r.ok then r.out s fun s _ => .done s
  else
    let x := r.bytes (leAt d.2 0 8) (leAt d.2 8 4)
    x.1.out s fun s poison => .done (s.engWrite n (leAt d.2 0xC 8) (f w d.2 x.2) poison)

def crcSem : EngSem :=
  ckSem 48 (fun d => let w := leAt d 0x2C 4 % 128; decide (1 ≤ w) && decide (w ≤ 64)) fun _ d x =>
    let c := leAt d 0x2C 4
    leBytes 8 (crcOf (c % 128) (leAt d 0x14 8) (leAt d 0x1C 8) (leAt d 0x24 8) (bit c 7) (bit c 8) x)

def ipsumSem : EngSem := ckSem 20 (fun _ => true) fun w _ x =>
  let c := ipSum x
  beBytes2 (if bit (opfE w) 0 then 65535 - c else c)

def shakeSem : EngSem := ckSem 24 (fun _ => true) fun _ d x => shake256 x (leAt d 0x14 4)

/-- SLHVER: OPF[0] = 0 selects 256s, 1 selects 256f; which bytes are the key, the message, the signature and the context
string the manual does not say (log entry 3). -/
def slhverSem : EngSem := ckSem 48 (fun _ => true) fun w d x =>
  let a := Config.slhInput (d ++ x)
  leBytes 4 (b2n (slhVerify (if bit (opfE w) 0 then slhF else slhS) a.1 a.2.1 a.2.2.1 a.2.2.2))

/-- SLHSIGN: the identity key's signature of the message; zeros on a zeroised part (R567). -/
def slhsignSem : EngSem := fun s n w =>
  ckSem 20 (fun _ => true) (fun _ _ x => if s.fuse.zeroised then List.replicate 49856 0 else idSign x Config.slhContext) s n w

/-! ### Data movers (R296, R297) -/

structure MvD where
  src : Nat := 0
  dst : Nat := 0
  a : Nat := 0
  b : Nat := 0
  ss : Int := 0
  ds : Int := 0
  list : Nat := 0
  pat : List Byte := []
  deriving DecidableEq, Repr

def Rd.mvD (r : Rd) (a : Nat) : Rd × MvD :=
  let x := (r.align a 16).bytes a 64
  let l := x.2
  (x.1, { src := leAt l 0 8, dst := leAt l 8 8, a := leAt l 16 4, b := leAt l 20 4, ss := signed 64 (leAt l 24 8)
          ds := signed 64 (leAt l 32 8), list := leAt l 40 8, pat := part16 l })
where
  /-- PATTERN. -/
  part16 (l : List Byte) : List Byte := (l.drop 48).take 16

/-- An address plus a signed amount, modulo 2^64. -/
def addAddr (a : Nat) (d : Int) : Nat := ((Int.ofNat a + d) % (2 ^ 64 : Int)).toNat

/-- The launch time of a TIMED instruction (R56, R272). -/
def State.timedAt (s : State) (n w : Nat) : Nat := roundUp (unpack96 (s.reg96 (cxB n + 0x30)) + timeE w * grain) grain

/-- The edge of a timed copy: its Nenath port, or PCIe; none where TIMED is not allowed, or no route leads there. -/
def State.timedEdge (s : State) (dst : Nat) : Option Nat :=
  if s.isLocal dst then (if 2 ^ 47 ≤ dst % 2 ^ 48 then some 28 else none)
  else (s.ownPort (dst / 2 ^ 48)).map (8 + ·)

/-- The copy goes to another chip or to host memory (R297). -/
def State.timedDst (s : State) (dst : Nat) : Bool := !s.isLocal dst || decide (2 ^ 47 ≤ dst % 2 ^ 48)

/-- A timed copy enters the core side of its holding stage; in a replay, the first results are discarded (R509). -/
def State.timedCopy (s : State) (n w dst : Nat) (l : List Byte) (poison : Bool) : EngOut :=
  let c := s.cx n
  if c.discard ≠ 0 then .done (s.setCx n { c with discard := c.discard - 1 })
  else
    match s.timedEdge dst with
    | none => .fault s Code.NO_ROUTE (some dst)
    | some e =>
      let h : Held := { launch := some (s.timedAt n w), complete := s.snUp, drop := s.rb (cxB n + 0xC) 8, body := .store dst l
                        origin := .ctx n c.slot (s.cxEpoch n), poison := poison, bind := s.cxBind n }
      .done (s.offer e h)

def copySem : EngSem := fun s n w =>
  let x := ({ s := s, n := n } : Rd).mvD (operE w)
  let d := x.2
  let overlap := d.src / 2 ^ 48 == d.dst / 2 ^ 48 && decide (d.src < d.dst) && decide (d.dst < d.src + d.a)
  let timed := timedE w
  let r := x.1.want (d.a != 0 && !overlap && (!timed || (decide (d.a ≤ 4096) && s.timedDst d.dst)))
  if !r.ok then r.out s fun s _ => .done s
  else
    let y := r.bytes d.src d.a
    y.1.out s fun s poison => if timed then s.timedCopy n w d.dst y.2 poison else .done (s.engWrite n d.dst y.2 poison)

/-- Write pieces in ascending order; they reach overlapping bytes in that order, so that the highest stands. -/
def State.putPieces (s : State) (n : Nat) (poison : Bool) (l : List (Nat × List Byte)) : State :=
  l.foldl (fun s p => s.engWrite n p.1 p.2 poison) s

def copy2dSem : EngSem := fun s n w =>
  let x := ({ s := s, n := n } : Rd).mvD (operE w)
  let d := x.2
  let r := x.1.want (d.a != 0)
  if !r.ok then r.out s fun s _ => .done s
  else
    let y := Rd.each (fun r j =>
      let b := r.bytes (addAddr d.src (Int.ofNat j * d.ss)) d.a
      (b.1, (addAddr d.dst (Int.ofNat j * d.ds), b.2))) r (List.range d.b)
    y.1.out s fun s poison => .done (s.putPieces n poison y.2)

/-- A of GATHER and SCATTER. -/
def listLen (a : Nat) : Bool := a % 16 == 0 && decide (16 ≤ a) && decide (a ≤ 4096)

def gatherSem : EngSem := fun s n w =>
  let x := ({ s := s, n := n } : Rd).mvD (operE w)
  let d := x.2
  let r := x.1.want (listLen d.a)
  if !r.ok then r.out s fun s _ => .done s
  else
    let l := r.bytes d.list (8 * d.b)
    if !l.1.ok then l.1.out s fun s _ => .done s
    else
      let y := Rd.each (fun r j => let b := r.bytes (leAt l.2 (8 * j) 8) d.a; (b.1, ((d.dst + j * d.a) % 2 ^ 64, b.2))) l.1 (List.range d.b)
      y.1.out s fun s poison => .done (s.putPieces n poison y.2)

def scatterSem : EngSem := fun s n w =>
  let x := ({ s := s, n := n } : Rd).mvD (operE w)
  let d := x.2
  let r := x.1.want (listLen d.a)
  if !r.ok then r.out s fun s _ => .done s
  else
    let l := r.bytes d.list (8 * d.b)
    if !l.1.ok then l.1.out s fun s _ => .done s
    else
      let y := Rd.each (fun r j => let b := r.bytes (d.src + j * d.a) d.a; (b.1, (leAt l.2 (8 * j) 8, b.2))) l.1 (List.range d.b)
      y.1.out s fun s poison => .done (s.putPieces n poison y.2)

def fillSem : EngSem := fun s n w =>
  let x := ({ s := s, n := n } : Rd).mvD (operE w)
  let d := x.2
  let r := (x.1.align d.dst 16).want (d.a % 16 == 0)
  r.out s fun s poison => .done (s.engWrite n d.dst ((List.range (d.a / 16)).flatMap fun _ => d.pat) poison)

/-- CRC. -/
def execCrc (t : Tick) (ctx : Nat) (s : State) : Result := .next ((s.advanceTo t).cxRun ctx (fun o => engOp ctx o 0x50) false crcSem)
/-- IPSUM. -/
def execIpsum (t : Tick) (ctx : Nat) (s : State) : Result := .next ((s.advanceTo t).cxRun ctx (fun o => engOp ctx o 0x51) false ipsumSem)
/-- SHAKE. -/
def execShake (t : Tick) (ctx : Nat) (s : State) : Result := .next ((s.advanceTo t).cxRun ctx (fun o => engOp ctx o 0x52) false shakeSem)
/-- SLHVER. -/
def execSlhver (t : Tick) (ctx : Nat) (s : State) : Result := .next ((s.advanceTo t).cxRun ctx (fun o => engOp ctx o 0x53) false slhverSem)
/-- SLHSIGN. -/
def execSlhsign (t : Tick) (ctx : Nat) (s : State) : Result := .next ((s.advanceTo t).cxRun ctx (fun o => engOp ctx o 0x54) false slhsignSem)
/-- COPY. -/
def execCopyMem (t : Tick) (ctx : Nat) (s : State) : Result := .next ((s.advanceTo t).cxRun ctx (fun o => engOp ctx o 0x80) true copySem)
/-- COPY2D. -/
def execCopy2d (t : Tick) (ctx : Nat) (s : State) : Result := .next ((s.advanceTo t).cxRun ctx (fun o => engOp ctx o 0x81) false copy2dSem)
/-- GATHER. -/
def execGather (t : Tick) (ctx : Nat) (s : State) : Result := .next ((s.advanceTo t).cxRun ctx (fun o => engOp ctx o 0x82) false gatherSem)
/-- SCATTER. -/
def execScatter (t : Tick) (ctx : Nat) (s : State) : Result := .next ((s.advanceTo t).cxRun ctx (fun o => engOp ctx o 0x83) false scatterSem)
/-- FILL. -/
def execFillMem (t : Tick) (ctx : Nat) (s : State) : Result := .next ((s.advanceTo t).cxRun ctx (fun o => engOp ctx o 0x84) false fillSem)

end Sys2Proof.Machine
end

