-- ==== Sys2Proof/Machine/TrigChan.lean ====
section
/-! DEFINITION. Channels of the trigger engine: presentation, stamps, comparators, conditions, features, tokens into the
west edge, and the events they send (R302 to R315, R322, R366). -/

namespace Sys2Proof.Machine

/-! ### Samples and stamps (R302, R303) -/

/-- The stream a channel belongs to. -/
def State.chStrm (s : State) (c : Nat) : Nat := s.rf (snB c + 8) 7 6
/-- WIDTH and SIGNED. -/
def State.chWidth (s : State) (c : Nat) : Nat := s.rf (snB c + 8) 4 0
def State.chSigned (s : State) (c : Nat) : Bool := s.rb (snB c + 8) 5
/-- SN_PERIOD, and SN_LAT. -/
def State.chPeriod (s : State) (c : Nat) : Nat := s.reg (snB c + 0xC)
def State.chLat (s : State) (c : Nat) : Nat := s.reg (snB c + 0x24)
/-- SN_T0 in ticks. -/
def State.chT0 (s : State) (c : Nat) : Nat := unpack96 (s.reg96 (snB c + 0x18))

/-- The stamp of the sample being presented. -/
def State.stampNow (s : State) (c : Nat) : Nat := s.chT0 c + (s.chan c).next * s.chPeriod c

/-- The stamp of a sample index: a sample presented before the first-lock step keeps its own (R304). -/
def State.stampOf (s : State) (c i : Nat) : Nat :=
  match (s.chan c).t0Old with
  | some (t, n) => (if i < n then t else s.chT0 c) + i * s.chPeriod c
  | none => s.chT0 c + i * s.chPeriod c

/-- The integer that the bits of a sample encode. -/
def sampleVal (w : Nat) (sgn : Bool) (v : Nat) : Int := if sgn then signed w v else Int.ofNat (v % 2 ^ w)

/-- SN_PED saturated to a channel's width and signedness (R365). -/
def State.pedSample (s : State) (c : Nat) : Int :=
  let w := s.chWidth c
  let p := signed 32 (s.reg (snB c + 0x34))
  if s.chSigned c then clamp (-(2 ^ (w - 1))) (2 ^ (w - 1) - 1) p else clamp 0 (2 ^ w - 1) p

/-- Bit position of sub-channel `j` in a lane's group (R359). -/
def State.subPos (s : State) (lane j : Nat) : Nat := (((laneChans lane).take j).map s.chWidth).sum

/-- The sample of sub-channel `j` of a group. -/
def State.groupSample (s : State) (lane j : Nat) (g : Group) : Int :=
  let c := 4 * (lane - 192) + j
  if g.bad then s.pedSample c else sampleVal (s.chWidth c) (s.chSigned c) (ofLe g.bytes >>> s.subPos lane j)

/-! ### Comparators (R306) -/

/-- A comparator after a sample: its state, and whether the sample is a rising or a falling crossing. -/
def compare (st : Option Bool) (x h v : Int) : Bool × Bool × Bool :=
  match st with
  | none => (decide (x ≤ v), false, false)
  | some false => (decide (x ≤ v), decide (x ≤ v), false)
  | some true => (!decide (v < x - h), false, decide (v < x - h))

/-- Both comparators take a sample. -/
def State.compareBoth (s : State) (c : Nat) (i : Nat) (v : Int) (k : Chan) : Chan :=
  let h : Int := Int.ofNat (s.rf (snB c + 0x30) 15 0)
  let a := compare k.lo (signed 32 (s.reg (snB c + 0x28))) h v
  let b := compare k.hi (signed 32 (s.reg (snB c + 0x2C))) h v
  { k with
    lo := some a.1, hi := some b.1
    loRise := if a.2.1 then some i else k.loRise, loFall := if a.2.2 then some i else k.loFall
    hiRise := if b.2.1 then some i else k.hiRise, hiFall := if b.2.2 then some i else k.hiFall
    loStay := if k.lo = some a.1 then k.loStay + 1 else 1
    hiStay := if k.hi = some b.1 then k.hiStay + 1 else 1 }

/-! ### Conditions (R307, R308) -/

/-- A crossing happened at sample `i`. -/
def atIdx (x : Option Nat) (i : Nat) : Bool := x == some i

/-- A crossing happened at or after a sample. -/
def sinceIdx (x : Option Nat) (from_ : Nat) : Bool := match x with | some j => decide (from_ ≤ j) | none => false

/-- The half-open limit test. -/
def inLimits (lo hi w : Nat) : Bool := decide (lo ≤ w) && decide (w < hi)

/-- Pulse width: `k` has taken sample `i`. -/
def condPulse (k : Chan) (i lo hi : Nat) (pol th : Bool) : Bool :=
  let rise := if th then k.hiRise else k.loRise
  let fall := if th then k.hiFall else k.loFall
  match (if pol then fall else rise), (if pol then rise else fall) with
  | some a, some b => b == i && inLimits lo hi (i - a)
  | _, _ => false

/-- Runt.  It measures nothing, and fires unless its limits are closed (R307, R308). -/
def condRunt (k : Chan) (i lo hi : Nat) (pol : Bool) : Bool :=
  decide (lo < hi) &&
  if pol then
    match k.hiFall with
    | some a => atIdx k.hiRise i && !sinceIdx k.loFall a
    | none => false
  else
    match k.loRise with
    | some a => atIdx k.loFall i && !sinceIdx k.hiRise a
    | none => false

/-- Timeout. -/
def condTimeout (k : Chan) (lo : Nat) (pol th : Bool) : Bool :=
  (if th then k.hi else k.lo) == some (!pol) && lo != 0 && (if th then k.hiStay else k.loStay) == lo

/-- Slew rate. -/
def condSlew (k : Chan) (i lo hi : Nat) (pol : Bool) : Bool :=
  if pol then
    match k.hiFall with
    | some a => atIdx k.loFall i && !sinceIdx k.hiRise a && inLimits lo hi (i - a)
    | none => false
  else
    match k.loRise with
    | some a => atIdx k.hiRise i && !sinceIdx k.loFall a && inLimits lo hi (i - a)
    | none => false

/-- Condition `j` of a channel fires on sample `i`. -/
def State.condFires (s : State) (c i : Nat) (k : Chan) (j : Nat) : Bool :=
  let r := s.reg (snB c + 0x40 + 0x10 * j)
  let lo := s.reg (snB c + 0x44 + 0x10 * j)
  let hi := s.reg (snB c + 0x48 + 0x10 * j)
  bit r 0 &&
  (if j = 0 then condPulse k i lo hi (bit r 1) (bit r 2)
   else if j = 1 then condRunt k i lo hi (bit r 1)
   else if j = 2 then condTimeout k lo (bit r 1) (bit r 2)
   else condSlew k i lo hi (bit r 1))

/-! ### Events on their way to the combiners (R309, R315, R316) -/

/-- Source slot `i` of combiner `n`: its source, when it is valid and can become active. -/
def State.combSrc (s : State) (n i : Nat) : Option Nat :=
  let w := s.rf (combB n + 0x100 + 4 * (i / 2)) (16 * (i % 2) + 15) (16 * (i % 2))
  let src := w % 2048
  if bit w 15 ∧ ¬ (1608 ≤ src ∧ src ≤ 1671 ∧ n ≤ src - 1608) then some src else none

/-- The combiners with a slot register written, whose slots alone can be valid. -/
def State.combsSet (s : State) : List Nat :=
  ((s.regs.filter fun e => decide (0x3E0000 ≤ e.1) && decide (e.1 < 0x400000) && decide (0x100 ≤ (e.1 - 0x3E0000) % 0x800)).map
    fun e => (e.1 - 0x3E0000) / 0x800).eraseDups

/-- A valid slot of a combiner names a source. -/
def State.combNames (s : State) (n src : Nat) : Bool := (List.range 64).any fun i => s.combSrc n i == some src

/-- An event sets out to one combiner. -/
def State.sendEv (s : State) (n src stamp : Nat) : State :=
  s.setComb n { s.comb n with coming := (s.comb n).coming ++ [({ src := src, stamp := stamp } : Ev)] }

/-- An event sets out to every combiner that names its source, and breakpoints of TYPE 4 see it (R582; log entry 76). -/
def State.emitEv (s : State) (src stamp : Nat) : State :=
  ((s.combsSet.filter fun n => s.combNames n src).foldl (fun s n => s.sendEv n src stamp) s).bpCheck 4 0 src 0 stamp

/-! ### Tokens into the west edge (R310 to R312) -/

/-- STRIDE as it acts. -/
def State.stride (s : State) (c : Nat) : Nat := min 32 (s.rf (snB c + 0x38) 5 0)

/-- The period that sample `i` ends. -/
def periodAt (stride i : Nat) : Option Nat :=
  if stride = 0 ∨ i < 15 ∨ (i - 15) % stride ≠ 0 then none else some ((i - 15) / stride)

/-- A feature element: (v − SN_PED) ÷ 2^FSHIFT, to nearest even, saturated to INT8. -/
def featElem (ped : Int) (shift : Nat) (v : Int) : Nat :=
  ofSigned 8 (satInt 8 ((Num.frac (decide (v - ped < 0)) (v - ped).natAbs (2 ^ shift)).rne))

/-- Numbers packed `w` bits each, the first at bit 0. -/
def packBits (w : Nat) (l : List Nat) : Nat := l.foldr (fun v a => v % 2 ^ w + 2 ^ w * a) 0

/-- The feature token of the period that the newest sample ends. -/
def State.featToken (s : State) (c : Nat) (k : Chan) : QWord :=
  let ped := signed 32 (s.reg (snB c + 0x34))
  BitVec.ofNat 128 (packBits 8 (((k.recent.take 16).map fun p => featElem ped (s.rf (snB c + 0x38) 11 8) p.1).reverse))

/-- The condition token of that period.  A sample before the first has no bit set. -/
def State.condToken (s : State) (c : Nat) (k : Chan) : QWord :=
  BitVec.ofNat 128 (packBits 4 (((List.range (s.stride c)).map fun j => (k.recent.getD j (0, 0)).2).reverse))

/-- The rows and slots whose TG_EDGE_OUT entries are valid and name a channel: row, slot, entry. -/
def State.edgeOuts (s : State) (c : Nat) : List (Nat × Nat × Nat) :=
  s.regs.filterMap fun e =>
    let o := e.1 - 0x3C8000
    let v := e.2.toNat
    if 0x3C8000 ≤ e.1 ∧ e.1 < 0x3CA000 ∧ o % 0x80 < 0x40 ∧ bit v 0 ∧ fld v 10 2 = c then some (o / 0x80, o % 0x80 / 4, v) else none

/-- The tokens a channel forms for a period. -/
def State.formTokens (s : State) (c : Nat) (k : Chan) : State :=
  let add (s : State) (e : Nat × Nat × Nat) : State :=
    let p := if bit e.2.2 1 then s.condToken c k else s.featToken c k
    { s with tg := { s.tg with formed := s.tg.formed ++ [({ row := e.1, slot := e.2.1, payload := p } : Formed)] } }
  (s.edgeOuts c).foldl add s

/-- A formed token enters the west-edge port; under EDGE_STOP at most 16 are held (R314). -/
def State.sendFormed (s : State) (row slot : Nat) : State :=
  match s.tg.formed.find? fun f => f.row == row && f.slot == slot with
  | none => s
  | some f =>
    let s := { s with tg := { s.tg with formed := s.tg.formed.erase f } }
    if s.edgeStop (s.physOf row 0) && decide (16 ≤ (Sparse.get (fun _ => []) (s.west row).out slot).length) then s.inc 0x3C0108
    else s.edgeSend row slot 0 true f.payload

/-! ### Presentation (R303, R305, R365, R366) -/

/-- A recording window is added to a channel. -/
def Chan.addWin (k : Chan) (a b : Nat) : Chan := if a < b then { k with wins := k.wins ++ [(a, b)] } else k

/-- PRE and POST. -/
def State.chPre (s : State) (c : Nat) : Nat := s.rf (snB c + 0x80) 11 0
def State.chPost (s : State) (c : Nat) : Nat := s.rf (snB c + 0x80) 27 16

/-- A sample outside the zero-suppression band opens a window around itself (R324). -/
def State.zsWindow (s : State) (c i : Nat) (v : Int) (k : Chan) : Chan :=
  let ped := signed 32 (s.reg (snB c + 0x34))
  let z : Int := Int.ofNat (s.rf (snB c + 0x88) 15 0)
  if s.rf (snB c + 8) 10 8 = 1 ∧ ¬ (ped - z ≤ v ∧ v < ped + z) then k.addWin (i - s.chPre c) (i + s.chPost c) else k

/-- DRIFT of an anchor (R305). -/
def State.anchor (s : State) (c i pres stamp : Nat) : State × Option Int :=
  if i % 2 ^ 20 ≠ 0 then (s, none)
  else
    let d : Int := Int.ofNat pres - Int.ofNat (stamp + s.chLat c)
    let s := s.setReg64 (snB c + 0xB0) (ofSigned 64 d)
    (if s.reg (snB c + 0xB8) < d.natAbs then s.event Code.SAMPLE_DRIFT c (leBytes 8 (ofSigned 64 d)) else s, some d)

/-- One sample of a running channel is presented at `pres`. -/
def State.takeSample (s : State) (c : Nat) (v : Int) (pres : Nat) : State :=
  let k0 := s.chan c
  let i := k0.next
  let stamp := s.stampNow c
  let s := s.setReg64 (snB c + 0x10) i
  let a := s.anchor c i pres stamp
  let s := a.1
  let k := s.compareBoth c i v k0
  let fired := (List.range 4).filter (s.condFires c i k)
  let k := { k with next := i + 1, recent := ((v, (fired.map fun j => 2 ^ j).sum) :: k.recent).take 48
                    line := k.line ++ [({ idx := i, v := v, stamp := stamp, at_ := stamp, drift := a.2, resid := s.residAt stamp } : Smp)] }
  let s := s.setChan c (s.zsWindow c i v k)
  let s := fired.foldl (fun s j => (s.inc (snB c + 0x4C + 0x10 * j)).emitEv (4 * c + j) stamp) s
  match periodAt (s.stride c) i with
  | some _ => s.formTokens c k
  | none => s

/-- Clove holds the trigger engine: a sample is presented to nobody, and only its index counts (R498). -/
def State.missSample (s : State) (c : Nat) : State :=
  let k := s.chan c
  let l := lostData k.loss k.next (s.stampNow c) 1 0
  let s := s.setReg64 (snB c + 0x10) k.next
  (s.setChan c { k with next := k.next + 1, loss := some l }).inc (snB c + 0xA0)

/-- A channel starts its count with the first group of the first block whose SOB came after EN (R360). -/
def State.startChan (s : State) (c : Nat) (g : Group) (pres : Nat) : State :=
  if s.toStart c && s.isFirst c g then
    let s := (s.setReg96 (snB c + 0x18) (pack96 (pres - s.chLat c))).setRb (snB c + 4) 0 true
    s.setChan c { s.chan c with started := true, next := 0 }
  else s

/-- One sub-channel of a group is presented. -/
def State.presentSub (s : State) (lane j : Nat) (g : Group) (pres : Nat) : State :=
  let c := 4 * (lane - 192) + j
  let s := s.startChan c g pres
  if !s.rb (snB c + 4) 0 then s
  else if s.rv.queue.contains 10 then s.missSample c
  else s.takeSample c (s.groupSample lane j g) pres

/-- The instant at which a group is presented (R363). -/
def State.presentAt (s : State) (lane : Nat) (g : Group) : Nat :=
  if s.flm lane then g.at_ + s.reg (snB (4 * (lane - 192)) + 0x24) else g.at_

/-- The stamp a mark takes: that of the group that follows it (R366). -/
def State.groupStamp (s : State) (lane pres : Nat) : Nat :=
  match (laneChans lane).find? fun c => s.rb (snB c + 4) 0 with
  | some c => s.stampOf c ((s.chan c).next - 1)
  | none => pres - s.reg (snB (4 * (lane - 192)) + 0x24)

/-- The first group of a lane's deskew stage is presented; with none there though one is due, the lane slips (R364). -/
def State.presentGroup (s : State) (lane : Nat) : State :=
  match (s.lane lane).fifo with
  | [] => if isSensor lane && s.laneOn lane && s.overdueGroup lane then s.slip lane else s
  | g :: rest =>
    let pres := s.presentAt lane g
    if !isSensor lane || !s.laneOn lane || s.laneSt lane != 4 || decide (s.sn < pres) then s
    else
      let s := s.setLane lane { s.lane lane with fifo := rest }
      if s.rb (lnB lane + 4) 6 || !s.rb (grpReg lane) 19 || !s.domOn 27 then s
      else
        let s := if g.bad then (s.inc (lnB lane + 0x38)).eventLimited Code.LANE_SUBST lane tms else s
        let s := (List.range (s.nch lane)).foldl (fun s j => s.presentSub lane j g pres) s
        let src := 1536 + s.rf (lnB lane + 0x34) 11 9
        (List.range g.mark).foldl (fun s _ => s.emitEv src (s.groupStamp lane pres)) s

/-! ### SN_CTRL (R302, R303, R327, R360) -/

/-- EN of a channel is written. -/
def State.enChan (s : State) (c : Nat) (on : Bool) : State :=
  let w := s.chWidth c
  let sibling := (laneChans (192 + c / 4)).any fun d => d != c && s.rb (snB d) 0 && s.chPeriod d != s.chPeriod c
  let s1 := { s with tg := { s.tg with slipped := s.tg.slipped.filter fun d => d != c } }
  if !s.chanOn c then s
  else if on then
    if s.rb (snB c) 0 || decide (w < 8) || decide (16 < w) || sibling then s
    else
      let k := s.chan c
      (((s1.setRb (snB c) 0 true).setRb (snB c + 4) 2 false).claimDom (25 + c / 192) true).setChan c { line := k.line, enAt := s.sn, loss := k.loss, run := k.run }
  else
    let k := s.chan c
    ((s1.setRb (snB c) 0 false).setRb (snB c + 4) 0 false).setChan c { k with started := false }

/-- REARM. -/
def State.rearmChan (s : State) (c : Nat) : State := s.setRb (snB c + 4) 1 false

/-! ### LVDS trigger inputs (R322, R605) -/

/-- A level change on an input: an event when the edge is active, lies more than 0.25 ns after the last one, and the TAP does not
hold the balls (R573). -/
def State.lvdsEdge (s : State) (n : Nat) (level : Bool) : State :=
  let old := bit s.pin.lvdsIn n
  let s1 := { s with pin := { s.pin with lvdsIn := setFld s.pin.lvdsIn n n (b2n level) } }
  let cfg := s.rf 0x3C0100 (2 * n + 1) (2 * n)
  let stamp := s.sn / 8192 * 8192
  let last := Sparse.get (fun _ => none) s.tg.lvdsLast n
  let near : Bool := match last with | some p => decide (s.sn ≤ p + tns / 4) | none => false
  let s2 := { s1 with tg := { s1.tg with lvdsLast := Sparse.set (fun _ => none) s1.tg.lvdsLast n (some s.sn) } }
  if 8 ≤ n ∨ old = level then s
  else if !bit cfg (if level then 0 else 1) || near || s.holdsPins || !s.domOn 27 then s2
  else s2.emitEv (1536 + n) stamp

/-! ### The commands -/

/-- SAMPLE_PRESENT (R303, R305 to R311, R363). -/
def execSamplePresent (t : Tick) (lane : Nat) (s : State) : Result := .next ((s.advanceTo t).presentGroup lane)

/-- FEATURE_TOKEN_SEND (R310 to R312, R314). -/
def execFeatureTokenSend (t : Tick) (row slot : Nat) (s : State) : Result := .next ((s.advanceTo t).sendFormed row slot)

/-- LVDS_INPUT_EDGE (R322, R605). -/
def execLvdsInputEdge (t : Tick) (input : Nat) (level : Bool) (s : State) : Result :=
  .next ((s.advanceTo t).lvdsEdge input level)

/-- SN_ENABLE (R302, R303, R360). -/
def execSnEnable (t : Tick) (chan : Nat) (on : Bool) (s : State) : Result := .next ((s.advanceTo t).enChan chan on)

/-- SN_REARM (R327). -/
def execSnRearm (t : Tick) (chan : Nat) (s : State) : Result :=
  let s := s.advanceTo t
  .next (if s.chanOn chan then s.rearmChan chan else s)

end Sys2Proof.Machine
end

