-- ==== Sys2Proof/Machine/TrigComb.lean ====
section
/-! DEFINITION. Combiners, dead time, MARK records, trigger outputs, and tokens from the Lattice (R312, R313, R315 to R323,
R335, R336). -/

namespace Sys2Proof.Machine

/-! ### Registers of a combiner (R345) -/

def State.armed (s : State) (n : Nat) : Bool := s.rb (combB n) 0
def State.combStrm (s : State) (n : Nat) : Nat := s.rf (combB n) 2 1
/-- ALIGN and WIN in ticks. -/
def State.combAlign (s : State) (n : Nat) : Nat := s.reg (combB n + 0xC) * grain
def State.combWin (s : State) (n : Nat) : Nat := s.reg (combB n + 4) * grain
/-- MIN_TERMS as it acts. -/
def State.minTerms (s : State) (n : Nat) : Nat := max 1 (min 4 (s.rf (combB n) 5 3))

/-- The record former's time, which is the least dead time too (R319, R321). -/
abbrev former : Nat := 24 * tns

/-! ### The channel's sample at a trigger (R318) -/

/-- The last index whose stamp lies at or before `t`: of the samples counted from the present SN_T0, or else of those
presented before the first-lock step (R304). -/
def State.indexAt (s : State) (c t : Nat) : Option Nat :=
  let p := s.chPeriod c
  let old := (s.chan c).t0Old.getD (0, 0)
  if s.chT0 c + old.2 * p ≤ t then some ((t - s.chT0 c) / p)
  else if old.2 = 0 ∨ t < old.1 then none
  else some (min (old.2 - 1) ((t - old.1) / p))

/-- Index of the last sample of a channel whose stamp is at or before `t`. -/
def State.sampleAt (s : State) (c t : Nat) : Option Nat :=
  let k := s.chan c
  if 384 ≤ c ∨ ¬ s.rb (snB c) 0 ∨ ¬ k.started then none
  else
    match s.indexAt c t with
    | none => none
    | some i => if s.rb (snB c + 4) 0 then some i else if k.next = 0 then none else some (min i (k.next - 1))

/-- The channels whose EN is set. -/
def State.enabledChans (s : State) : List Nat :=
  s.regs.filterMap fun e =>
    if 0x340000 ≤ e.1 ∧ e.1 < 0x3A0000 ∧ (e.1 - 0x340000) % 0x400 = 0 ∧ bit e.2.toNat 0 then some ((e.1 - 0x340000) / 0x400) else none

/-! ### Dead time (R319, R320) -/

/-- E of the dead interval that a trigger at `T` began, once Saffron time has reached E + ALIGN. -/
def State.deadEnd (s : State) (n T : Nat) : Option Nat :=
  let a := s.combAlign n
  let st := s.strm (s.combStrm n)
  let e0 := roundUp (T + max (s.reg (combB n + 8) * grain) former) grain
  let e1 := st.pastBp.foldl (fun e p => if p.1 ≤ e + a ∧ e + a < p.2 then roundUp (p.2 - a) grain else e) e0
  let still : Bool := match st.bp with | some x => decide (x ≤ e1 + a) | none => false
  if still || decide (s.sn < e1 + a) then none else some e1

/-- The interval ends: DEAD and SUPPRESSED are kept for the next MARK record. -/
def State.endDead (s : State) (n T e : Nat) : State :=
  let k := s.comb n
  let dead := min (2 ^ 32 - 1) ((e - T) / grain)
  (s.setComb n { k with deadFrom := none, supp := 0, report := (dead, min (2 ^ 32 - 1) k.supp) }).inc64 (combB n + 0x20) dead

/-! ### Coincidence (R316, R318) -/

/-- An event makes its slots active at `u`. -/
def Ev.activeAt (win u : Nat) (e : Ev) : Bool := e.stamp == u || (decide (e.stamp ≤ u) && decide (u < e.stamp + win))

/-- Slots whose source has an event that satisfies a test. -/
def State.slotsOf (s : State) (n : Nat) (p : Ev → Bool) : List Nat :=
  let evs := (s.comb n).evs.filter p
  (List.range 64).filter fun i => match s.combSrc n i with | some src => evs.any (fun e => e.src == src) | none => false

/-- The terms that are true at `u`, as bits. -/
def State.termsAt (s : State) (n u : Nat) : Nat :=
  let act := s.slotsOf n (Ev.activeAt (s.combWin n) u)
  ((List.range 4).map fun k => if act.any (fun i => i / 16 == k) then 2 ^ k else 0).sum

/-- The combiner coincides. -/
def State.coincides (s : State) (n terms : Nat) : Bool :=
  decide (s.minTerms n ≤ ((List.range 4).filter fun k => bit terms k && bit (s.rf (combB n) 9 6) k).length)

/-- The order of sources among the causes of a trigger. -/
def srcRank (src : Nat) : Nat :=
  if src < 1536 then src % 4 * 384 + src / 4 else src

/-- The primary cause: the lowest rank, then the lowest slot. -/
def State.primary (s : State) (n : Nat) (causes : List Nat) : Nat × Nat :=
  causes.foldl (fun b i =>
    let src := (s.combSrc n i).getD 0
    if srcRank src < srcRank b.2 then (i, src) else b) (causes.headD 0, (s.combSrc n (causes.headD 0)).getD 0)

/-! ### What an accepted trigger does (R318, R321, R323, R324, R326) -/

/-- A mark followed a Lattice output's period of a stamp, and came by the stamp plus a combiner's ALIGN (R313). -/
def State.satAt (s : State) (n stamp : Nat) : Bool :=
  s.tg.outs.any fun o => o.2.sat.any fun m => m.1 == stamp && decide (m.2 ≤ stamp + s.combAlign n)

/-- The MARK record of a trigger. -/
def State.markBytes (s : State) (n T terms : Nat) (causes : List Nat) : List Byte :=
  let k := s.comb n
  let p := s.primary n causes
  let ts := (s.sampleAt (s.rf (combB n) 19 10) T).getD (2 ^ 64 - 1)
  mkRecord 1 (b2n (s.satAt n T)) (srcComb n) T (leBytes 8 ts ++ leBytes 4 k.report.1 ++ leBytes 4 k.report.2 ++
    leBytes 8 (causes.map fun i => 2 ^ i).sum ++ leBytes 1 p.1 ++ leBytes 1 terms ++ leBytes 2 p.2 ++ [0, 0, 0, 0] ++ leBytes 8 k.trigs)

/-- The return edge that waits for an output, with its place in the stage. -/
def State.pendingReturn (s : State) (o : Nat) : Option Held :=
  ((s.stage (30 + o)).held ++ (s.stage (30 + o)).wait).getLast?.bind fun h =>
    match h.body with | .edge false => some h | _ => none

/-- A pulse of an output that follows the combiner (R323). -/
def State.pulse (s : State) (n o T : Nat) : State :=
  let b := gpoB o
  let up := T + s.reg (b + 4) * grain
  let down := up + s.reg (b + 8) * grain
  let id := (s.comb n).pulses
  let s := s.setComb n { s.comb n with pulses := id + 1 }
  let edge (launch : Nat) (on : Bool) : Held :=
    { launch := some (roundUp launch grain), complete := s.snUp, drop := s.rb b 7, origin := .pulse n id, body := .edge on }
  let s := match s.pendingReturn o with
    | some h =>
      if roundUp up grain ≤ h.launch.getD 0 then
        let st := s.stage (30 + o)
        let keep (x : Held) : Bool := x != h
        s.setStage (30 + o) { st with held := st.held.filter keep, wait := st.wait.filter keep }
      else s
    | none => s
  (s.offer (30 + o) (edge up true)).offer (30 + o) (edge down false)

/-- Samples of a channel from `t` on, of `count`, that have passed the check point. -/
def State.passed (s : State) (c t count : Nat) : Nat :=
  let k := s.chan c
  let nxt := match k.line with | x :: _ => x.idx | [] => k.next
  min count (nxt - t)

/-- The envelope of a channel is read: 32 KiB, under its stream's binding (R326). -/
def State.maskFetch (s : State) (c : Nat) : State :=
  let n := 64 + s.chStrm c
  let r : MemReq := { id := 0, issuer := .mask c, addr := s.reg64 (snB c + 0x90), write := false, bind := s.cxBind n, epoch := s.cxEpoch n }
  let x := State.issueReads r 129 s 0 32768
  x.1.setChan c { x.1.chan c with env := x.2.map fun e => (e.1, e.2 / 8, none) }

/-- A trigger of a channel's mask combiner (R326). -/
def State.maskStart (s : State) (n c t : Nat) : State :=
  let k := s.chan c
  if k.mask.isSome then s.inc (snB c + 0xA8)
  else
    let miss := s.passed c t 4096
    let s := s.inc (snB c + 0xA4) miss
    if 4096 ≤ miss then s else ((s.setChan c { k with mask := some (t, n) }).setRb (snB c + 4) 2 true).maskFetch c

/-- A trigger opens a window and starts a mask test on a channel that has a sample at or before it. -/
def State.chanTrigger (s : State) (n T c : Nat) : State :=
  match s.sampleAt c T with
  | none => s
  | some t =>
    let s := if s.rf (snB c + 8) 10 8 = 3 ∧ s.rf (snB c + 8) 20 15 = n then
        s.setChan c ((s.chan c).addWin (t - s.chPre c) (t + s.chPost c)) else s
    if s.rb (snB c + 0x98) 0 ∧ s.rf (snB c + 0x98) 6 1 = n then s.maskStart n c t else s

/-- A trigger is accepted at `T`. -/
def State.acceptTrig (s : State) (n T terms : Nat) : State :=
  let k := s.comb n
  let causes := s.slotsOf n fun (e : Ev) => e.stamp == T
  let s := s.setComb n { k with trigs := k.trigs + 1 }
  let m := s.markBytes n T terms causes
  let at_ := T + s.combAlign n + former
  let s := s.setComb n { s.comb n with deadFrom := some T, supp := 0, marks := (s.comb n).marks ++ [(at_, T, m)] }
  let s := (s.inc (combB n + 0x10)).setReg96 (combB n + 0x40) (pack96 T)
  let s := s.enabledChans.foldl (fun s c => s.chanTrigger n T c) s
  let outs := (List.range 8).filter fun o => s.rb (gpoB o) 0 && s.rf (gpoB o) 6 1 == n
  (outs.foldl (fun s o => s.pulse n o T) s).emitEv (1608 + n) T

/-! ### Decisions (R316 to R320) -/

/-- Drop the events that can no longer make a slot active after `u`. -/
def Comb.prune (k : Comb) (win u : Nat) : Comb :=
  { k with decided := some u, evs := k.evs.filter fun (e : Ev) => decide (u < e.stamp) || decide (u < e.stamp + win) || e.stamp == u }

/-- The earliest stamp not yet decided. -/
def Comb.nextStamp (k : Comb) : Option Nat :=
  k.evs.foldl (fun (m : Option Nat) (e : Ev) =>
    let after : Bool := match k.decided with | some d => decide (d < e.stamp) | none => true
    if after then (match m with | some x => some (min x e.stamp) | none => some e.stamp) else m) none

/-- Decide instant `u`, whose time has come. -/
def State.decideAt (s : State) (n u : Nat) : State :=
  let s := match (s.comb n).deadFrom with
    | some T => match s.deadEnd n T with | some e => if e ≤ u then s.endDead n T e else s | none => s
    | none => s
  let k := s.comb n
  let s := match k.deadFrom with
    | some _ =>
      let m := (k.evs.filter fun (e : Ev) => e.stamp == u).length
      (s.setComb n { k with supp := k.supp + m }).inc (combB n + 0x14) m
    | none =>
      let terms := s.termsAt n u
      if s.coincides n terms then s.acceptTrig n u terms else s
  s.setComb n ((s.comb n).prune (s.combWin n) u)

/-- The earliest undecided instant is decided, once u + ALIGN has come. -/
def State.decide_ (s : State) (n : Nat) : State :=
  if !s.armed n || s.rv.queue.contains 10 then s
  else
    match (s.comb n).nextStamp with
    | none => s
    | some u => if s.sn < u + s.combAlign n then s else s.decideAt n u

/-- Every instant below `e` whose time has come is decided. -/
def State.decideTo (n e : Nat) : Nat → State → State
  | 0, s => s
  | f + 1, s =>
    match (s.comb n).nextStamp with
    | none => s
    | some u => if u < e ∧ u + s.combAlign n ≤ s.sn then State.decideTo n e f (s.decideAt n u) else s

/-- A dead interval ends at E, after every event inside it has been counted. -/
def State.deadOver (s : State) (n : Nat) : State :=
  match (s.comb n).deadFrom with
  | none => s
  | some T =>
    match s.deadEnd n T with
    | none => s
    | some e => (State.decideTo n e (s.comb n).evs.length s).endDead n T e

/-- An event reaches a combiner (R317). -/
def State.receiveEv (s : State) (n : Nat) : State :=
  let k := s.comb n
  match k.coming with
  | [] => s
  | e :: rest =>
    let s := s.setComb n { k with coming := rest }
    if !s.armed n || !s.combNames n e.src then s
    else if e.stamp + s.combAlign n < s.sn then
      (s.inc (combB n + 0x18)).eventLimited Code.COMB_LATE_INPUT n (100 * tus)
    else s.setComb n { s.comb n with evs := (s.comb n).evs ++ [e] }

/-- Arm a combiner: it starts live, and decides the instants whose time is still to come. -/
def State.arm (s : State) (n : Nat) : State :=
  let k := s.comb n
  let a := s.combAlign n
  let d := if s.sn < a + 1 then none else some (s.sn - a - 1)
  (s.setRb (combB n) 0 true).setComb n { coming := k.coming, marks := k.marks, pulses := k.pulses, decided := d }

/-- Disarm a combiner: it decides nothing. -/
def State.disarm (s : State) (n : Nat) : State :=
  let k := s.comb n
  (s.setRb (combB n) 0 false).setComb n { coming := k.coming, marks := k.marks, pulses := k.pulses }

/-- A MARK record is delivered to its stream buffer. -/
def State.deliverMark (s : State) (n : Nat) : State :=
  match (s.comb n).marks with
  | [] => s
  | (at_, basis, m) :: rest =>
    if s.sn < at_ then s
    else (s.setComb n { s.comb n with marks := rest }).accept (s.combStrm n) basis m

/-! ### Tokens from the Lattice (R312, R313, R335) -/

/-- Periods a channel's feature former has completed when `n` samples have been presented. -/
def periodsIn (stride n : Nat) : Nat := if stride = 0 ∨ n < 16 then 0 else (n - 16) / stride + 1

/-- Periods of a channel that were complete when the row's cell last changed epoch. -/
def State.periodBase (s : State) (c row : Nat) : Nat :=
  periodsIn (s.stride c) (Sparse.get (fun _ => 0) (s.chan c).base row)

/-- Stamp of the newest sample of a channel's period. -/
def State.periodStamp (s : State) (c p : Nat) : Nat := s.stampOf c (15 + p * s.stride c)

/-- A fault of a west-edge port. -/
def State.westFault (s : State) (row code : Nat) : State :=
  let n := s.physOf row 0
  s.fault { code := code, origin := 2, bind := s.clBind n, epoch := s.clEpoch n, detail := 64 + row }

/-- The record of an output token (R335).  The manual gives its WIDTH no value (log entry 2). -/
def State.outRecord (s : State) (key e k stamp : Nat) (t : Token) : State :=
  let null := t.kind == 2
  let src := srcOut (fld e 6 1)
  let data := if null then List.replicate 16 0 else leBytes 16 t.payload.toNat
  let rcd := mkRecord 0 (b2n null) src stamp (leBytes 8 k ++ leBytes 2 1 ++ leBytes 1 (s.freeVal % 32 + 7 * 32) ++ leBytes 5 0 ++ data)
  let o := s.netOut key
  let r := s.useFree.admitData (s.chStrm (fld e 17 8)) src stamp k stamp 1 false o.loss rcd
  r.1.setNetOut key { o with loss := r.2.1 }

/-- A data, null or poison token of an output circuit. -/
def State.outToken (s : State) (row slot e : Nat) (t : Token) : State :=
  let key := row * 16 + slot
  let c := fld e 17 8
  let o := s.netOut key
  let p := s.periodBase c row + o.count
  if 384 ≤ c ∨ periodsIn (s.stride c) (s.chan c).next ≤ p then
    (s.inc 0x3C0104).event Code.TG_EDGE_EXTRA
  else
    let stamp := s.periodStamp c p
    let s := s.setNetOut key { o with count := o.count + 1 }
    let s := if bit e 7 && t.kind != 4 then s.outRecord key e o.count stamp t else s
    if t.kind = 0 ∧ bit t.payload.toNat 0 then s.emitEv (1544 + fld e 6 1) stamp else s

/-- A mark after the token of a period (R313). -/
def State.netMark (s : State) (row key c : Nat) : State :=
  let o := s.netOut key
  if o.count = 0 then s
  else s.setNetOut key { o with sat := o.sat ++ [(s.periodStamp c (s.periodBase c row + o.count - 1), s.sn)] }

/-- The first token from a row's circuits is taken in; one of another epoch than the row's cell is discarded (R89, R312). -/
def State.takeOutput (s : State) (row : Nat) : State :=
  let w := s.west row
  match w.inq with
  | [] => s
  | (slot, t) :: rest =>
    let s := s.setWest row { w with inq := rest }
    let key := row * 16 + slot
    let e := s.reg (tgIn row slot)
    let n := s.physOf row 0
    let cell := s.cell n
    let s := if (s.netOut key).gen = cell.gen then s
      else s.setNetOut key { gen := cell.gen, sat := (s.netOut key).sat, loss := (s.netOut key).loss }
    if t.epoch ≠ s.clEpoch n then s.stale n 1
    else if t.kind = 0 ∨ t.kind = 2 then s.outToken row slot e t
    else if t.kind = 4 then (s.westFault row Code.POISON_EGRESS).outToken row slot e t
    else if t.kind = 3 then s.netMark row key (fld e 17 8)
    else s.westFault row Code.TOKEN_KIND

/-! ### The commands -/

/-- TG_EDGE_TOKEN_RECEIVE (R312, R313, R335). -/
def execTgEdgeTokenReceive (t : Tick) (row : Nat) (s : State) : Result := .next ((s.advanceTo t).takeOutput row)

/-- COMBINER_EVENT_RECEIVE (R309, R317). -/
def execCombinerEventReceive (t : Tick) (comb : Nat) (s : State) : Result := .next ((s.advanceTo t).receiveEv comb)

/-- COMBINER_DECIDE (R316 to R320). -/
def execCombinerDecide (t : Tick) (comb : Nat) (s : State) : Result := .next ((s.advanceTo t).decide_ comb)

/-- DEAD_TIME_END (R319, R320). -/
def execDeadTimeEnd (t : Tick) (comb : Nat) (s : State) : Result := .next ((s.advanceTo t).deadOver comb)

/-- MARK_RECORD_DELIVER (R321). -/
def execMarkRecordDeliver (t : Tick) (comb : Nat) (s : State) : Result := .next ((s.advanceTo t).deliverMark comb)

end Sys2Proof.Machine
end

