-- ==== Sys2Proof/Machine/TrigRec.lean ====
section
/-! DEFINITION. The check point, mask tests, DATA, TIME and MASKVIOL records, stream control and the trigger engine's
instructions (R324 to R329, R334 to R341). -/

namespace Sys2Proof.Machine

/-! ### DATA records (R324, R335) -/

/-- Samples that fit in 255 × 64 bytes. -/
def maxSamples (width : Nat) : Nat := (255 * 64 - 32) * 8 / max 1 width

/-- Samples of a record in the channel's mode. -/
def State.recLen (s : State) (c mode : Nat) : Nat :=
  let m := maxSamples (s.chWidth c)
  if mode = 0 ∨ mode = 2 then min m (max 1 (s.rf (snB c + 0x84) 13 0)) else m

/-- A DATA record of a channel. -/
def State.dataRecord (s : State) (c : Nat) (r : Run) : List Byte :=
  let mode := s.rf (snB c + 8) 10 8
  let w := s.chWidth c
  let bits := packBits w (r.vals.reverse.map (ofSigned w))
  mkRecord 0 0 (srcChan c) r.stamp (leBytes 8 r.first ++ leBytes 2 r.vals.length ++ leBytes 1 (w + 32 * mode) ++
    leBytes 1 (if mode = 2 then s.rf (snB c + 8) 14 11 else 0) ++ leBytes 4 0 ++ leBytes ((w * r.vals.length + 7) / 8) bits)

/-- The record being formed is complete: it is offered to the stream (R330, R331). -/
def State.closeRun (s : State) (c : Nat) : State :=
  let k := s.chan c
  match k.run with
  | none => s
  | some r =>
    let m := r.vals.length
    let x := (s.setChan c { k with run := none }).admitData (s.chStrm c) (srcChan c) r.basis r.first r.stamp m false k.loss (s.dataRecord c r)
    let lost := if s.rf (snB c + 8) 10 8 = 2 then m * 2 ^ s.rf (snB c + 8) 14 11 else m
    let s := x.1.setChan c { x.1.chan c with loss := x.2.1 }
    if x.2.2 then s else s.inc (snB c + 0xA0) lost

/-- One more value joins the record being formed; `i`, `stamp`: its first sample; `last`, `basis`: its last. -/
def State.joinRun (s : State) (c : Nat) (i stamp last basis : Nat) (v : Int) : State :=
  let k := s.chan c
  let s := match k.run with | some r => if r.last + 1 = i then s else s.closeRun c | none => s
  let k := s.chan c
  let r := match k.run with
    | some r => { r with last := last, basis := basis, vals := v :: r.vals }
    | none => { first := i, stamp := stamp, last := last, basis := basis, vals := [v] }
  s.setChan c { k with run := some r }

/-- The record is complete at its length. -/
def State.closeFull (s : State) (c mode : Nat) : State :=
  match (s.chan c).run with
  | some r => if s.recLen c mode ≤ r.vals.length then s.closeRun c else s
  | none => s

/-- A sample lies in a known window. -/
def Chan.inWin (k : Chan) (i : Nat) : Bool := k.wins.any fun w => decide (w.1 ≤ i) && decide (i < w.2)

/-- RAW. -/
def State.recRaw (s : State) (c : Nat) (x : Smp) : State := (s.joinRun c x.idx x.stamp x.idx x.at_ x.v).closeFull c 0

/-- ZS and TRIGGERED: a run ends where its next sample lies in no known window. -/
def State.recWin (s : State) (c mode : Nat) (x : Smp) : State :=
  let k := s.chan c
  let k := { k with wins := k.wins.filter fun w => decide (x.idx < w.2) }
  let s := s.setChan c k
  if k.inWin x.idx then
    let s := s.joinRun c x.idx x.stamp x.idx x.at_ x.v
    if k.inWin (x.idx + 1) then s.closeFull c mode else s.closeRun c
  else s

/-- DECIM: groups of 2^DSHIFT samples, from indices that are multiples of it. -/
def State.recDecim (s : State) (c : Nat) (x : Smp) : State :=
  let k := s.chan c
  let g := 2 ^ s.rf (snB c + 8) 14 11
  let cur := if x.idx % g = 0 then some (x.idx, x.stamp, x.v, 1)
    else match k.decim with
      | some (i, st, sum, m) => if i + m = x.idx then some (i, st, sum + x.v, m + 1) else none
      | none => none
  match cur with
  | some (i, st, sum, m) =>
    if m = g then
      ((s.setChan c { k with decim := none }).joinRun c i st x.idx x.at_ (Num.frac (decide (sum < 0)) sum.natAbs g).rne).closeFull c 2
    else s.setChan c { k with decim := some (i, st, sum, m) }
  | none => s.setChan c { k with decim := none }

/-- A sample is recorded in the channel's mode. -/
def State.recordSample (s : State) (c : Nat) (x : Smp) : State :=
  let mode := s.rf (snB c + 8) 10 8
  if mode = 0 then s.recRaw c x
  else if mode = 1 ∨ mode = 3 then s.recWin c mode x
  else if mode = 2 then s.recDecim c x
  else s

/-- The channel TIME record of an anchor (R339); a channel that records nothing records no anchor. -/
def State.recordAnchor (s : State) (c : Nat) (x : Smp) : State :=
  match x.drift with
  | none => s
  | some d =>
    if 4 ≤ s.rf (snB c + 8) 10 8 then s
    else
      let k := s.chan c
      let rcd := s.timeRecord (srcChan c) 0 x.stamp x.idx (ofSigned 64 d) x.resid
      let r := s.admitData (s.chStrm c) (srcChan c) x.at_ x.idx x.stamp 0 true k.loss rcd
      r.1.setChan c { r.1.chan c with loss := r.2.1 }

/-! ### Mask tests (R326, R327, R338) -/

/-- The entry of the envelope for sample t + k, once it has been fetched: lower and upper. -/
def Chan.maskEntry (k : Chan) (i : Nat) : Option (Int × Int) :=
  k.env.findSome? fun e => match e.2.2 with
    | some l =>
      if e.2.1 ≤ i ∧ i < e.2.1 + l.length / 8 then
        some (signed 32 (leAt l (8 * (i - e.2.1)) 4), signed 32 (leAt l (8 * (i - e.2.1) + 4) 4))
      else none
    | none => none

/-- The channel's mask test ends. -/
def State.maskEnd (s : State) (c : Nat) : State := (s.setChan c { s.chan c with mask := none, env := [] }).setRb (snB c + 4) 2 false

/-- A sample lies outside the envelope: the channel's stream stops at it. -/
def State.violate (s : State) (c t m : Nat) (x : Smp) (lo hi : Int) : State :=
  let s := ((s.closeRun c).maskEnd c).setRb (snB c + 4) 1 true
  let s := s.setChan c { s.chan c with decim := none }
  s.accept (s.chStrm c) x.at_ (mkRecord 3 0 (srcChan c) x.stamp (leBytes 8 x.idx ++ leBytes 2 (x.idx - t) ++
    leBytes 1 (if x.v < lo then 0 else 1) ++ leBytes 1 m ++ leBytes 4 (ofSigned 32 x.v) ++ leBytes 4 (ofSigned 32 lo) ++
    leBytes 4 (ofSigned 32 hi) ++ leBytes 8 t))

/-- A sample is checked against the running mask; while the channel is STOPPED none stops it again (log entry 52). -/
def State.maskCheck (s : State) (c : Nat) (x : Smp) : State :=
  match (s.chan c).mask with
  | none => s
  | some (t, m) =>
    if x.idx < t then s
    else if 4096 ≤ x.idx - t then s.maskEnd c
    else
      let s := match (s.chan c).maskEntry (x.idx - t) with
        | none => s.inc (snB c + 0xA4)
        | some (lo, hi) => if (lo ≤ x.v ∧ x.v < hi) ∨ s.rb (snB c + 4) 1 then s else s.violate c t m x lo hi
      if x.idx - t = 4095 then s.maskEnd c else s

/-! ### The check point (R324, R327) -/

/-- The channel's oldest sample reaches the check point, at its stamp plus DATA_DELAY. -/
def State.reachCheck (s : State) (c : Nat) : State :=
  let k := s.chan c
  match k.line with
  | [] => s
  | x :: rest =>
    let n := s.chStrm c
    if s.sn < x.at_ + (s.strm n).delay * grain then s
    else
      let s := s.setChan c { k with line := rest }
      if !s.strmOpen n then s.setChan c { s.chan c with run := none, decim := none }
      else
        let s := s.maskCheck c x
        if s.rb (snB c + 4) 1 then s else (s.recordAnchor c x).recordSample c x

/-! ### Streams (R328, R329, R339) -/

/-- A memory-ring stream reads the reader's consumed count. -/
def State.headPoll (s : State) (n : Nat) : State :=
  let st := s.strm n
  if 4 ≤ n ∨ ¬ st.running ∨ st.kind = 0 ∨ s.clk.now < st.from_ + (st.polls + 1) * tus then s
  else
    (s.setStrm n { st with polls := st.polls + 1 }).issue
      { id := 0, issuer := .stream n, addr := st.head, write := false, len := 8, bind := s.cxBind (64 + n), epoch := s.cxEpoch (64 + n) }

/-- SEC[15:0] wraps to 0. -/
def State.timeWrap (s : State) (n : Nat) : State :=
  let st := s.strm n
  let sec := s.wrapNow
  if 4 ≤ n ∨ !s.strmOpen n ∨ sec ≤ st.wrapSec then s
  else (s.setStrm n { st with wrapSec := sec }).streamTime n 4 (sec * tsec) 0

/-! ### Instructions (R340, R341) -/

/-- The combiners of a stream. -/
def State.combsOf (s : State) (n : Nat) : List Nat := (List.range 64).filter fun c => s.combStrm c == n

/-- The stream descriptor has legal fields. -/
def descOk (l : List Byte) : Bool :=
  let size := leAt l 0x10 4
  leAt l 0 4 / 256 == 0 && leAt l 4 4 == 0 && leAt l 0x2C 20 == 0 &&
  (leAt l 0 4 % 2 == 0 || (leAt l 8 8 % 65536 == 0 && size % 65536 == 0 && size != 0 && leAt l 0x18 8 % 16 == 0 && leAt l 0x20 8 % 8 == 0))

/-- TSTART. -/
def tstartSem : EngSem := fun s n w =>
  let k := n - 64
  let a := operE w
  let r : Rd := { s := s, n := n }
  let x := (r.align a 16).bytes a 64
  let l := x.2
  let kind := leAt l 0 1 % 2
  let r := x.1.want (descOk l && !(s.strm k).running)
  let h := if kind = 1 && r.ok then r.num (leAt l 0x20 8) 8 else (r, 0)
  if h.1.ok && !((s.stage (40 + k)).held ++ (s.stage (40 + k)).wait).isEmpty then .read s []
  else
    h.1.out s fun s _ =>
      let t : Strm := { running := true, kind := kind, ring := leAt l 0 1 / 2, base := leAt l 8 8, size := leAt l 0x10 4
                        offset := leAt l 0x14 4, tail := leAt l 0x18 8, head := leAt l 0x20 8, delay := leAt l 0x28 4
                        consumed := h.2, from_ := s.clk.now, wrapSec := s.wrapNow, first := true }
      let s := ((s.setStrm k t).setReg (strmB k + 8) 0).setRb (strmB k) 2 false
      .done (s.streamTime k 2 s.sn 0)

/-- A record of a stream, or its tail word, is not yet visible. -/
def State.strmBusy (s : State) (k : Nat) : Bool :=
  let st := s.strm k
  let mine (r : MemReq) : Bool := r.write && (r.issuer == .stream k || (st.kind == 0 && r.issuer == .ring st.ring))
  !((s.stage (40 + k)).held ++ (s.stage (40 + k)).wait).isEmpty || (s.mem.inflight.any mine) ||
    (s.mem.commits.any fun c => c.stream == k) || s.nen.outst.any fun o => mine o.req

/-- TSTOP: it disarms the stream's combiners; on a stream that is not running it completes at once. -/
def tstopSem : EngSem := fun s n _ =>
  let k := n - 64
  let st := s.strm k
  let s := if st.stopping then s else (s.combsOf k).foldl State.disarm s
  if !st.running then .done s
  else
    let s := s.setStrm k { s.strm k with stopping := true }
    if s.strmBusy k then .read s []
    else .done (s.setStrm k { s.strm k with running := false, stopping := false })

/-- The combiners of a mask, if all of them belong to the stream. -/
def State.maskCombs (s : State) (k m : Nat) : Option (List Nat) :=
  let l := (List.range 64).filter fun c => bit m c
  if l.all fun c => s.combStrm c == k then some l else none

/-- TARM and TDISARM. -/
def tarmSem (on : Bool) : EngSem := fun s n w =>
  match s.maskCombs (n - 64) (operE w) with
  | none => .fault s Code.INVALID_FIELD none
  | some l => .done (l.foldl (if on then State.arm else State.disarm) s)

/-- TREARM. -/
def trearmSem : EngSem := fun s n w =>
  let c := fld w 8 0
  if 384 ≤ c ∨ s.chStrm c ≠ n - 64 then .fault s Code.INVALID_FIELD none else .done (s.rearmChan c)

/-- TSOFT: its event is stamped at the launch time, or at the first grain after execution. -/
def tsoftSem : EngSem := fun s n w =>
  let c := fld w 5 0
  let stamp := if timedE w then s.timedAt n w else (s.sn / grain + 1) * grain
  if s.combStrm c ≠ n - 64 then .fault s Code.INVALID_FIELD none
  else .done ((s.sendEv c 1672 stamp).bpCheck 4 0 1672 0 stamp)

/-! ### The commands -/

/-- SAMPLE_REACH_CHECK_POINT (R324 to R327). -/
def execSampleReachCheckPoint (t : Tick) (chan : Nat) (s : State) : Result := .next ((s.advanceTo t).reachCheck chan)

/-- STREAM_HEAD_POLL (R329). -/
def execStreamHeadPoll (t : Tick) (stream : Nat) (s : State) : Result := .next ((s.advanceTo t).headPoll stream)

/-- STREAM_TIME_WRAP (R339). -/
def execStreamTimeWrap (t : Tick) (stream : Nat) (s : State) : Result := .next ((s.advanceTo t).timeWrap stream)

/-- An opcode of the trigger engine. -/
def tgOp (ctx o op : Nat) : Bool := engineOf ctx == 10 && o == op

/-- TSTART (R340, R341). -/
def execTstart (t : Tick) (ctx : Nat) (s : State) : Result :=
  .next ((s.advanceTo t).cxRun ctx (fun o => tgOp ctx o 0x70) false tstartSem)
/-- TSTOP (R340). -/
def execTstop (t : Tick) (ctx : Nat) (s : State) : Result :=
  .next ((s.advanceTo t).cxRun ctx (fun o => tgOp ctx o 0x71) false tstopSem)
/-- TARM (R340). -/
def execTarm (t : Tick) (ctx : Nat) (s : State) : Result :=
  .next ((s.advanceTo t).cxRun ctx (fun o => tgOp ctx o 0x72) false (tarmSem true))
/-- TDISARM (R340). -/
def execTdisarm (t : Tick) (ctx : Nat) (s : State) : Result :=
  .next ((s.advanceTo t).cxRun ctx (fun o => tgOp ctx o 0x73) false (tarmSem false))
/-- TREARM (R340). -/
def execTrearm (t : Tick) (ctx : Nat) (s : State) : Result :=
  .next ((s.advanceTo t).cxRun ctx (fun o => tgOp ctx o 0x74) false trearmSem)
/-- TSOFT (R340). -/
def execTsoft (t : Tick) (ctx : Nat) (s : State) : Result :=
  .next ((s.advanceTo t).cxRun ctx (fun o => tgOp ctx o 0x75) true tsoftSem)

end Sys2Proof.Machine
end

