-- ==== Sys2Proof/Machine/Parser.lean ====
section
/-! DEFINITION. Anise, the parser and reply composer: the header walk, field tokens, decisions, replies, verdicts and
the parser's instructions (R407 to R430). -/

namespace Sys2Proof.Machine

/-! ### Registers of the parser (R430) -/

/-- PA block and counter set `c`. -/
def paB : Nat := 0x690000
def paCnt (c i : Nat) : Nat := paB + 0x200 + 0x80 * c + 8 * i
/-- Decision entry `e` of context `c`. -/
def paDec (c e : Nat) : Nat := paB + 0x400 + 0x40 * c + 0x10 * e
/-- Field `f` of context `c`. -/
def paField (c f : Nat) : Nat := paB + 0x800 + 0x80 * c + 4 * f
/-- Directory entry and patch `k` of template `t`. -/
def paTpl (t : Nat) : Nat := paB + 0x2000 + 0x10 * t
def paPatch (t k : Nat) : Nat := paB + 0x3000 + 0x40 * t + 4 * k
/-- Word `w` of node `j`. -/
def paNode (j w : Nat) : Nat := paB + 0x4000 + 0x40 * j + 4 * w

/-! ### The header walk (R408, R409) -/

/-- What a walk has found. -/
structure Walk where
  /-- Nodes passed, first visits: node, header base, latest offset read on the way. -/
  nodes : List (Nat × Nat × Nat) := []
  /-- Offset of the byte that decided the claim. -/
  claim : Option Nat := none
  /-- Latest key or length offset read. -/
  read : Nat := 0
  /-- Latest key offset read. -/
  key : Option Nat := none
  /-- Offset of the byte at which the end of the walk became certain. -/
  last : Nat := 0
  deriving DecidableEq, Repr

/-- Arriving at a node. -/
def Walk.enter (w : Walk) (j base : Nat) (claim : Bool) : Walk :=
  { w with nodes := if w.nodes.any fun x => x.1 == j then w.nodes else w.nodes ++ [(j, base, w.read)]
           claim := if claim && w.claim.isNone then some (w.key.getD w.read) else w.claim
           last := w.read }

/-- Key and length bytes have been read. -/
def Walk.reads (w : Walk) (key len : Option Nat) : Walk :=
  let up (m : Nat) (o : Option Nat) : Nat := match o with | some i => max m i | none => m
  let r := up (up w.read key) len
  { w with read := r, last := r, key := match key with | some i => some (up i w.key) | none => w.key }

/-- The node after a node with a key. -/
def State.nextNode (s : State) (j key : Nat) : Nat :=
  let masked := Nat.land key (s.reg (paNode j 2))
  match (List.range 4).find? fun i => s.rb (paNode j (5 + 2 * i)) 8 && s.reg (paNode j (4 + 2 * i)) == masked with
  | some i => s.rf (paNode j (5 + 2 * i)) 7 0
  | none => s.rf (paNode j 3) 7 0

/-- The length of the header of a node. -/
def State.nodeLen (s : State) (l : List Byte) (j base : Nat) : Nat :=
  let w1 := s.reg (paNode j 1)
  if s.rb (paNode j 0) 24 then
    (Nat.land (byteAt l (base + fld w1 7 0)) (fld w1 15 8)) >>> fld w1 18 16 <<< fld w1 20 19 + fld w1 31 24
  else s.rf (paNode j 0) 23 16

/-- The walk of a frame from a node on, for at most `fuel` nodes.  A reserved KEY_LEN reads a free value as its key (log
entry 2). -/
def State.walk (s : State) (l : List Byte) : Nat → Nat → Nat → Walk → Walk
  | 0, _, _, w => w
  | fuel + 1, j, base, w =>
    let w0 := s.reg (paNode j 0)
    let w := w.enter j base (bit w0 11)
    let n := fld w0 10 8
    let key := if n = 0 ∨ 4 < n then none else some (base + fld w0 7 0 + n - 1)
    let len := if bit w0 24 then some (base + s.rf (paNode j 1) 7 0) else none
    let far (o : Option Nat) (b : Nat) : Bool := match o with | some i => decide (b ≤ i) | none => false
    if bit w0 12 || far key 512 || far len 512 then w
    else if far key l.length || far len l.length then { w with last := l.length - 1 }
    else
      let k := if 4 < n then (Config.freeValue (s.free + fuel)).toNat % 2 ^ 32
        else ofBe ((l.drop (base + fld w0 7 0)).take n)
      let w := w.reads key len
      let j' := s.nextNode j k
      if j' = 255 then w else s.walk l fuel j' (base + s.nodeLen l j base) w

/-- The whole walk of a frame. -/
def State.walkFrame (s : State) (l : List Byte) (root : Nat) : Walk := s.walk l 16 root 0 {}

/-- The running context that walks a port. -/
def State.walker (s : State) (port : Nat) : Option Nat :=
  let a := s.rf (paB + 0x100) (4 * port + 2) (4 * port)
  let k := s.pctx (a % 4)
  if port < 8 ∧ bit a 2 ∧ k.running ∧ !k.stopping ∧ bit k.ports port then some (a % 4) else none

/-! ### Fields and claims (R410 to R413) -/

/-- Where a field ends in the frame: the offset that decides its stamp, and its bytes; none = null. -/
def fieldAt (l : List Byte) (w : Walk) (claim v : Nat) : Nat × Option (List Byte) :=
  let n := fld v 22 19 + 1
  match w.nodes.find? fun x => x.1 == fld v 9 2 with
  | none => (max claim w.last, none)
  | some (_, base, rd) =>
    let a := base + fld v 18 10
    if 512 < a + n then (max claim (min 511 (l.length - 1)), none)
    else if l.length < a + n then (max claim (l.length - 1), none)
    else (max (a + n - 1) (max rd claim), some ((l.drop a).take n))

/-- The east-edge circuits of a context that carry a valid field: row, slot, field. -/
def State.paCircuits (s : State) (c : Nat) : List (Nat × Nat × Nat) :=
  ((List.range 64).flatMap fun r => (List.range 16).map fun i => (r, i)).filterMap fun x =>
    let v := s.reg (paOut x.1 x.2)
    if bit v 0 ∧ fld v 2 1 = c ∧ s.rb (paField c (fld v 7 3)) 0 then some (x.1, x.2, fld v 7 3) else none

/-- A circuit has a free place: 16 tokens held or on their way (R414). -/
def State.paRoom (s : State) (row slot : Nat) : Bool :=
  let held := (Sparse.get (fun _ => []) (s.east row).out slot).length
  decide (held + (s.pa.toks.filter fun t => t.row == row && t.slot == slot).length < 16)

/-- Frame, port and claim number of a frame (R412). -/
def metaBytes (stamp port num : Nat) : List Byte := leBytes 12 (pack96 stamp) ++ leBytes 4 (port + num % 2 ^ 24 * 256)

/-- Ticks from a field's stamp, and from a verdict byte's, to the edge port and the composer (R413, R425). -/
def paDelay : Nat := 18 * tns

/-- A frame is claimed by a context: its tokens wait for their instants. -/
def State.claim (s : State) (c port : Nat) (a : Arrival) (l : List Byte) (w : Walk) (at_ : Nat) : State :=
  let k := s.pctx c
  let circ := s.paCircuits c
  if circ.any fun x => !s.paRoom x.1 x.2.1 then s.inc64 (paCnt c 1)
  else
    let stamp := s.byteStamp port a 0
    let mb := metaBytes stamp port k.claims
    let one (f : Nat) : Option (Nat × Nat × Option (List Byte)) :=
      let v := s.reg (paField c f)
      if !bit v 0 then none
      else if bit v 1 then some (f, s.byteStamp port a at_, some mb)
      else
        let x := fieldAt l w at_ v
        some (f, s.byteStamp port a x.1, x.2)
    let fields := (List.range 32).filterMap one
    let fr : PFrame := { num := k.claims, run := k.run, copyHost := k.copyHost, port := port, stamp := stamp, ref := a.first
                         fields := fields, meta_ := mb }
    let tok (x : Nat × Nat × Option (List Byte)) : List FieldTok :=
      (circ.filter fun y => y.2.2 == x.1).map fun y =>
        ({ row := y.1, slot := y.2.1, due := x.2.1 + paDelay, kind := if x.2.2.isSome then 0 else 2
           payload := BitVec.ofNat 128 (ofLe (x.2.2.getD [])) } : FieldTok)
    let s := (s.inc64 (paCnt c 0)).setPctx c { k with claims := k.claims + 1, frames := k.frames ++ [fr] }
    { s with pa := { s.pa with toks := s.pa.toks ++ fields.flatMap tok } }

/-- A frame's headers are walked.  MAC control frames stay in the MAC (R386), and bytes beyond EM_MAX_LEN reach nobody. -/
def State.headerWalk (s : State) (port : Nat) (a : Arrival) (bytes : List Byte) : State :=
  let l := bytes.take (s.rf (emB port + 0xC) 13 0)
  match s.walker port with
  | none => s
  | some c =>
    if s.rv.queue.contains 9 || !s.domOn 24 || !s.epThere port || !s.linkOn port || l.isEmpty || be16 l 12 == 0x8808 || (s.claimedFrame port a.first).isSome then s
    else
      let w := s.walkFrame l (s.pctx c).root
      let s := s.useFree 16
      match w.claim with
      | some i => s.claim c port a l w i
      | none => s

/-- The first field token due on a circuit. -/
def firstDue (row slot : Nat) : List FieldTok → Option FieldTok
  | [] => none
  | t :: r =>
    match firstDue row slot r with
    | none => if t.row = row ∧ t.slot = slot then some t else none
    | some u => if t.row = row ∧ t.slot = slot ∧ t.due ≤ u.due then some t else some u

/-- A field token enters its east-edge port (R413, R414). -/
def State.sendField (s : State) (row slot : Nat) : State :=
  match firstDue row slot s.pa.toks with
  | none => s
  | some t =>
    if s.sn < t.due then s
    else ({ s with pa := { s.pa with toks := s.pa.toks.erase t } }).edgeSend row slot t.kind false t.payload

/-! ### Templates (R418, R419) -/

/-- A template is usable. -/
def State.tplValid (s : State) (t : Nat) : Bool :=
  let len := s.rf (paTpl t) 13 0
  s.rb (paTpl t) 23 && !s.tplPast t && decide (14 ≤ len) && decide (len ≤ 16000)

/-- The bytes of a template. -/
def State.tplBytes (s : State) (t : Nat) : List Byte :=
  (List.range (s.rf (paTpl t) 13 0)).map fun i => Sparse.get (fun _ => 0) s.pa.tmem (s.rf (paTpl t + 4) 13 0 * 64 + i)

/-- Template bytes are replaced. -/
def State.tplStore (s : State) (t : Nat) (l : List Byte) : State :=
  let a := s.rf (paTpl t + 4) 13 0 * 64
  { s with pa := { s.pa with tmem := l.zipIdx.foldl (fun m x => Sparse.set (fun _ => 0) m (a + x.2) x.1) s.pa.tmem } }

/-- The source bytes of a patch; none = the template bytes stay.  A reserved SRC gives free bytes (log entry 2). -/
def patchSource (fr : Option (PFrame × Nat)) (launch : Option Nat) (p : Nat) (free : List Byte) : Option (List Byte) :=
  match fld p 15 13, fr with
  | 3, _ => launch.map fun t => leBytes 8 (pack96 t)
  | 0, some (f, _) => (f.fields.find? fun x => x.1 == fld p 20 16).bind fun x => x.2.2
  | 1, some (_, d) => some (leBytes 12 d)
  | 2, some (f, _) => some f.meta_
  | n, some _ => if 4 ≤ n then some free else none
  | _, none => none

/-- One patch; bytes beyond the template's end are not written. -/
def State.patch (s : State) (fr : Option (PFrame × Nat)) (launch : Option Nat) (l : List Byte) (p : Nat) : State × List Byte :=
  let n := fld p 12 9 + 1
  let f := if 4 ≤ fld p 15 13 then s.freeBytes 31 else (s, [])
  match patchSource fr launch p f.2 with
  | none => (f.1, l)
  | some src =>
    let x := (List.range n).map fun i => src.getD (fld p 24 21 + i) 0
    (f.1, patchAt l (fld p 8 0) (x.take (l.length - fld p 8 0)))

/-- A template filled: NPATCH above 16 acts as 16. -/
def State.compose (s : State) (t : Nat) (fr : Option (PFrame × Nat)) (launch : Option Nat) : State × List Byte :=
  (List.range (min 16 (s.rf (paTpl t) 28 24))).foldl
    (fun (x : State × List Byte) k => x.1.patch fr launch x.2 (s.reg (paPatch t k))) (s, s.tplBytes t)

/-- The frame a template gives. -/
def State.tplFrame (s : State) (t : Nat) (l : List Byte) : Body :=
  let w := s.reg (paTpl t)
  .frame l (bit w 14) (bit w 15) (bit w 16)

/-! ### Decisions (R415 to R417) -/

/-- A reply belongs to a claimed frame of a context. -/
def Reply.of (r : Reply) (c : Nat) (f : PFrame) : Bool := r.ctx == c && r.run == f.run && r.frame == f.num

/-- Frames that nothing more can come of are forgotten, and so are replies that are over. -/
def State.paPrune (s : State) (c : Nat) : State :=
  let k := s.pctx c
  let entries := (List.range 4).filter fun e => s.rb (paDec c e) 0
  let done (f : PFrame) : Bool :=
    (match f.verdict with | some (bad, _) => !bad || f.applied | none => false) &&
    (f.run != k.run || entries.all fun e => f.decided.contains e) && !s.pa.replies.any fun r => r.of c f && r.state == .filling
  let frames := k.frames.filter fun f => !done f
  let isOver (r : Reply) : Bool := match r.state with
    | .ended => true
    | .gone _ _ => r.ctx == c && (r.cancel || r.judged || !frames.any (r.of c))
    | _ => false
  let s := s.setPctx c { k with frames := frames }
  { s with pa := { s.pa with replies := s.pa.replies.filter fun r => !isOver r } }

/-- A reply is queued at the fill unit of its port (R420). -/
def State.queueReply (s : State) (r : Reply) : State :=
  let id := s.pa.nextReply
  let q := Sparse.get (fun _ => []) s.pa.fill r.port
  { s with pa := { s.pa with replies := s.pa.replies ++ [{ r with id := id }], nextReply := id + 1
                             fill := Sparse.set (fun _ => []) s.pa.fill r.port (q ++ [id]) } }

/-- A data token with SEND = 1 is the decision of an entry for a frame. -/
def State.decideReply (s : State) (c e : Nat) (f : PFrame) (p : Nat) : State :=
  let cfg := s.reg (paDec c e)
  let tpl := fld p 6 1
  let port := fld p 9 7
  if !bit cfg 0 then s
  else
    match f.fields.find? fun x => x.1 == fld cfg 5 1 with
    | some (_, stamp, some _) =>
      if !s.tplValid tpl || !s.epThere port || !s.linkOn port then s.inc64 (paCnt c 7)
      else if f.applied then s.inc64 (paCnt c 3)
      else
        s.queueReply { id := 0, ctx := c, entry := e, frame := f.num, run := f.run, tpl := tpl, port := port, cancel := false
                       wants := bit p 10, data := fld p 127 32, drop := bit cfg 6
                       launch := roundUp (stamp + s.reg (paDec c e + 4) * grain) grain }
    | _ => s.inc64 (paCnt c 7)

/-- A fault of an east-edge port. -/
def State.eastFault (s : State) (row code : Nat) : State :=
  let n := s.physOf row 95
  s.fault { code := code, origin := 2, bind := s.clBind n, epoch := s.clEpoch n, detail := 128 + row }

/-- A data or null token that stands for the next decision of an entry. -/
def State.countDecision (s : State) (c e : Nat) (t : Token) : State :=
  let k := s.pctx c
  let n := Sparse.get (fun _ => 0) k.counts e
  if k.claims ≤ n then (s.inc (paB + 0x104)).event Code.PA_EDGE_EXTRA
  else
    let mine (f : PFrame) : Bool := f.run == k.run && f.num == n
    let mark (f : PFrame) : PFrame := if mine f then { f with decided := NatSet.insert f.decided e } else f
    let s := s.setPctx c { k with counts := Sparse.set (fun _ => 0) k.counts e (n + 1), frames := k.frames.map mark }
    let s := match k.frames.find? mine with
      | some f => if t.kind = 0 ∧ bit t.payload.toNat 0 ∧ !f.decided.contains e then s.decideReply c e f t.payload.toNat else s
      | none => s
    s.paPrune c

/-- The first token from a row's circuits is taken in. -/
def State.takeDecision (s : State) (row : Nat) : State :=
  let x := s.east row
  match if s.rv.queue.contains 9 then [] else x.inq with
  | [] => s
  | (slot, t) :: rest =>
    let s := s.setEast row { x with inq := rest }
    let v := s.reg (paIn row slot)
    let c := fld v 2 1
    if !bit v 0 then s
    else if t.epoch ≠ s.cxEpoch (60 + c) then s.inc (paB + 0x108)
    else if t.kind = 3 then s.inc64 (paCnt c 8)
    else if t.kind = 0 ∨ t.kind = 2 then s.countDecision c (fld v 4 3) t
    else if t.kind = 4 then s.eastFault row Code.POISON_EGRESS
    else s.eastFault row Code.TOKEN_KIND

/-! ### Replies (R420, R421) -/

/-- A fill unit completes its first reply and hands it to the holding stage. -/
def State.fillDone (s : State) (port : Nat) : State :=
  match Sparse.get (fun _ => []) s.pa.fill port with
  | [] => s
  | id :: rest =>
    let s := { s with pa := { s.pa with fill := Sparse.set (fun _ => []) s.pa.fill port rest } }
    match s.pa.replies.find? fun r => r.id == id && r.state == .filling with
    | none => s
    | some r =>
      match (s.pctx r.ctx).frames.find? (r.of r.ctx) with
      | none => s.setReply id fun r => { r with state := .ended }
      | some f =>
        let x := s.compose r.tpl (some (f, r.data)) (some r.launch)
        let w := s.reg (paTpl r.tpl)
        let len := (macFrame x.2 (bit w 14) false false).length
        let s := (x.1.inc64 (paCnt r.ctx (if r.cancel then 6 else 2))).setReply id fun r => { r with state := .held, len := len }
        let s := s.offer port { launch := some r.launch, complete := s.snUp, drop := r.drop, origin := .reply id
                                body := s.tplFrame r.tpl x.2, bind := s.cxBind (60 + r.ctx) }
        s.paPrune r.ctx

/-! ### Verdicts (R425 to R427) -/

/-- A result of a reply leaves its stage without departing. -/
def State.unhold (s : State) (port id : Nat) : State :=
  let st := s.stage port
  let keep (h : Held) : Bool := h.origin != .reply id
  s.setStage port { st with held := st.held.filter keep, wait := st.wait.filter keep }

/-- The last four bytes of a frame complemented. -/
def stompBytes (l : List Byte) : List Byte := l.take (l.length - 4) ++ (l.drop (l.length - 4)).map fun b => ~~~b

/-- A reply that is on the line gets its FCS complemented. -/
def stompOut (id : Nat) (d : Departure) : Departure :=
  if d.origin = .reply id then
    match d.body with
    | .frame l f a b => { d with body := .frame (stompBytes l) f a b, stomped := true }
    | _ => d
  else d

/-- A bad verdict at `v` reaches one reply. -/
def State.judge (s : State) (c : Nat) (f : PFrame) (v : Nat) (r : Reply) : State :=
  match r.state with
  | .ended => s
  | .filling =>
    let q := (Sparse.get (fun _ => []) s.pa.fill r.port).filter fun i => i != r.id
    let s := { s with pa := { s.pa with fill := Sparse.set (fun _ => []) s.pa.fill r.port q } }
    (s.setReply r.id fun r => { r with state := .ended, judged := true }).inc64 (paCnt c 3)
  | .held => ((s.unhold r.port r.id).setReply r.id fun r => { r with state := .ended, judged := true }).inc64 (paCnt c 3)
  | .gone _ dep =>
    let s := s.setReply r.id fun r => { r with judged := true }
    if 25 * (v + 14 * tns) ≤ 25 * dep + (r.len - 4) * byteTime (s.epRate r.port) then
      let s := { s with out := s.out.map (stompOut r.id) }
      ((s.inc64 (paCnt c 4)).incSat (emB r.port + 0x178)).lfCount 0x40
    else
      let s := (s.inc64 (paCnt c 5)).lfCount 0x48
      let off := s.reg (paDec c r.entry + 8)
      let tpl := s.rf (paTpl r.tpl) 22 17
      if r.wants ∧ off ≠ 0 ∧ s.tplValid tpl then
        s.queueReply { id := 0, ctx := c, entry := r.entry, frame := f.num, run := f.run, tpl := tpl, port := r.port, cancel := true
                       wants := false, data := r.data, drop := r.drop, launch := roundUp (v - paDelay + off * grain) grain }
      else s

/-- The first verdict of a port that has reached the composer. -/
def State.applyVerdict (s : State) (port : Nat) : State :=
  let ready (f : PFrame) : Bool :=
    f.port == port && !f.applied && match f.verdict with | some (bad, st) => bad && decide (st + paDelay ≤ s.sn) | none => false
  match s.pa.ctxs.findSome? fun c => (c.2.frames.find? ready).map fun f => (c.1, f) with
  | none => s
  | some (c, f) =>
    match f.verdict with
    | none => s
    | some (_, st) =>
      let k := s.pctx c
      let s := s.setPctx c { k with frames := k.frames.map fun g => if g.run = f.run ∧ g.num = f.num then { g with applied := true } else g }
      let mine := s.pa.replies.filter fun r => r.of c f && !r.cancel
      (mine.foldl (fun s r => s.judge c f (st + paDelay) r) s).paPrune c

/-! ### The parser's instructions (R429) -/

/-- PSTART: a new run of claims and decisions; frames of an earlier run that are still to be judged keep their places. -/
def pstartSem : EngSem := fun s n w =>
  let c := n - 60
  let mask := fld w 15 8
  let own (p : Nat) : Bool := !bit mask p || s.rf (paB + 0x100) (4 * p + 2) (4 * p) == 4 + c
  let k := s.pctx c
  let open_ (f : PFrame) : Bool := match f.verdict with | none => true | some (bad, _) => bad && !f.applied
  if k.running || !(List.range 8).all own then .fault s Code.INVALID_FIELD none
  else
    .done ((s.setPctx c { running := true, root := fld w 7 0, ports := mask, copyHost := bit w 16, run := k.run + 1
                          frames := k.frames.filter open_ }).paPrune c)

/-- Something of a claimed frame may still depart. -/
def State.paBusy (s : State) (c : Nat) : Bool :=
  s.pa.replies.any fun r => r.ctx == c && match r.state with
    | .filling => true
    | .held => true
    | .gone _ _ =>
      !r.cancel && r.wants && !r.judged && s.reg (paDec c r.entry + 8) != 0 &&
      (s.pctx c).frames.any fun f => r.of c f && match f.verdict with | some (bad, _) => bad | none => true
    | .ended => false

/-- PSTOP: on a context that is not running it completes at once. -/
def pstopSem : EngSem := fun s n _ =>
  let c := n - 60
  if !(s.pctx c).running then .done s
  else
    let s := s.setPctx c { s.pctx c with stopping := true }
    if s.paBusy c then .read s []
    else .done (s.setPctx c { s.pctx c with running := false, stopping := false })

/-- TLOAD. -/
def tloadSem : EngSem := fun s n w =>
  let x := (({ s := s, n := n } : Rd).align (operE w) 16).num (operE w) 16
  let t := fld x.2 69 64
  let r := x.1.want (s.tplValid t)
  if !r.ok then r.out s fun s _ => .done s
  else
    let y := r.bytes (fld x.2 63 0) (s.rf (paTpl t) 13 0)
    if y.1.ok && s.tplUsed t then .read s []
    else y.1.out s fun s _ => .done (s.tplStore t y.2)

/-- PSEND. -/
def psendSem : EngSem := fun s n w =>
  let t := fld w 5 0
  let c := s.cx n
  if !s.tplValid t then .fault s Code.INVALID_FIELD none
  else if timedE w ∧ c.discard ≠ 0 then .done (s.setCx n { c with discard := c.discard - 1 })
  else
    let launch := if timedE w then some (s.timedAt n w) else none
    let port := fld w 8 6
    let x := s.compose t none launch
    let h : Held := { launch := launch, complete := s.snUp, drop := s.rb (cxB n + 0xC) 8, body := s.tplFrame t x.2, bind := s.cxBind n
                      prio := framePrio x.2 (s.rf (emB port + 8) 10 8)
                      origin := if timedE w then .ctx n c.slot (s.cxEpoch n) else .template n t }
    .done (x.1.offer port h)

/-! ### The commands -/

/-- HEADER_WALK (R409, R410). -/
def execHeaderWalk (t : Tick) (port : Nat) (arrival : Arrival) (bytes : List Byte) (s : State) : Result :=
  .next ((s.advanceTo t).headerWalk port arrival bytes)

/-- FIELD_TOKEN_SEND (R413). -/
def execFieldTokenSend (t : Tick) (row slot : Nat) (s : State) : Result := .next ((s.advanceTo t).sendField row slot)

/-- DECISION_RECEIVE (R415 to R417). -/
def execDecisionReceive (t : Tick) (row : Nat) (s : State) : Result := .next (((s.advanceTo t).paFlush).takeDecision row)

/-- REPLY_FILL_COMPLETE (R420). -/
def execReplyFillComplete (t : Tick) (port : Nat) (s : State) : Result := .next (((s.advanceTo t).paFlush).fillDone port)

/-- VERDICT_APPLY (R425 to R427). -/
def execVerdictApply (t : Tick) (port : Nat) (s : State) : Result := .next (((s.advanceTo t).paFlush).applyVerdict port)

/-- An opcode of the parser. -/
def paOp (ctx o op : Nat) : Bool := engineOf ctx == 9 && o == op

/-- PSTART (R429). -/
def execPstart (t : Tick) (ctx : Nat) (s : State) : Result :=
  .next ((s.advanceTo t).cxRun ctx (fun o => paOp ctx o 0x60) false pstartSem)
/-- PSTOP (R429). -/
def execPstop (t : Tick) (ctx : Nat) (s : State) : Result :=
  .next ((s.advanceTo t).cxRun ctx (fun o => paOp ctx o 0x61) false pstopSem)
/-- TLOAD (R422, R429). -/
def execTload (t : Tick) (ctx : Nat) (s : State) : Result :=
  .next (((s.advanceTo t).paFlush).cxRun ctx (fun o => paOp ctx o 0x62) false tloadSem)
/-- PSEND (R429). -/
def execPsend (t : Tick) (ctx : Nat) (s : State) : Result :=
  .next (((s.advanceTo t).paFlush).cxRun ctx (fun o => paOp ctx o 0x63) true psendSem)

end Sys2Proof.Machine
end

