-- ==== Sys2Proof/Machine/HostRings.lean ====
section
/-! DEFINITION. Descriptor polls, transmit rings, MSI-X holdoff and unmasking, and the PCIe link (R227, R529 to R542,
R547). -/

namespace Sys2Proof.Machine

/-! ### Reads of the rings -/

/-- Read local bytes for a unit that is no context: an error code, or 0. -/
def State.unitRead : Nat → State → Nat → Nat → State × Nat × List Byte
  | 0, s, _, _ => (s, 0, [])
  | f + 1, s, a, n =>
    if n = 0 then (s, 0, [])
    else
      let k := min n (16 - a % 16)
      let off := a % 2 ^ 48
      if s.staleAt off 0 0 then (s.inc 0x6E0008, Code.EPOCH_MISMATCH, [])
      else if (s.target off).noRead then (s.inc 0x6E0004, Code.UNMAPPED, [])
      else
        let g := s.readGranule 17 off k
        let t := State.unitRead f g.1 (a + k) (n - k)
        (t.1, t.2.1, g.2.1 ++ t.2.2)

/-- Issue the reads of a range of another chip for a ring: one message of at most 256 bytes each. -/
def State.askParts (r : Nat) : Nat → State → Nat → Nat → State × List (Nat × Option (List Byte))
  | 0, s, _, _ => (s, [])
  | f + 1, s, a, n =>
    if n = 0 then (s, [])
    else
      let k := min n (256 - a % 256)
      let id := s.mem.nextId
      let t := State.askParts r f (s.issue { id := 0, issuer := .ring r, addr := a, write := false, len := k }) (a + k) (n - k)
      (t.1, (id, none) :: t.2)

/-- The fault of a failed read of a ring. -/
def State.ringFault (s : State) (code a : Nat) : State := s.fault { code := answerFault code, origin := 3, addr := some a }

/-! ### Polls (R530) -/

/-- Descriptors of one poll. -/
def State.prefetch (s : State) (r : Nat) : Nat := min (s.ringSize r) (max 1 (min 256 (s.rf (ringB r + 8) 15 7)))

/-- A ring's read of local ranges meets a refresh window: the state once counted, or none (R71). -/
def State.ringHeld (s : State) (r : Nat) (l : List (Nat × Nat)) : Option State :=
  match l.filter fun q => s.rangeHeld (q.1 % 2 ^ 48) q.2 with
  | [] => none
  | held => some (held.foldl (fun s q => s.unitHeld (unitRing r) (q.1 % 2 ^ 48) q.2) s)

/-- The ranges of one poll: up to the last index, and from index 0 on. -/
def State.pollRanges (s : State) (r : Nat) : List (Nat × Nat) :=
  let i := s.rf (ringB r + 0xC) 15 0 % s.ringSize r
  let n := s.prefetch r
  let k := min n (s.ringSize r - i)
  [(s.descAddr r i, 32 * k), (s.descAddr r 0, 32 * (n - k))]

/-- A poll reads the descriptors: at once on this chip, once no refresh window holds the read, and by requests elsewhere. -/
def State.pollRing (s : State) (r : Nat) : State :=
  let g := s.ring r
  if 130 ≤ r ∨ !s.ringOn r ∨ !g.poll.isEmpty ∨ (g.polled ≠ 0 ∧ s.clk.now < g.polled + s.reg (ringB r + 0x10) * tns) then s
  else
    let rs := s.pollRanges r
    let here := s.isLocal (s.descAddr r 0)
    match (if here then s.ringHeld r rs else none) with
    | some s => s
    | none =>
    let s := s.setRing r { g with polled := s.clk.now, pollFrom := s.rf (ringB r + 0xC) 15 0 }
    if here then
      let one (x : State × Nat × List Byte) (q : Nat × Nat) : State × Nat × List Byte :=
        if x.2.1 ≠ 0 then x
        else
          let y := State.unitRead (granules q.2) x.1 q.1 q.2
          (y.1, y.2.1, x.2.2 ++ y.2.2)
      let x := rs.foldl one (s, 0, [])
      if x.2.1 = 0 then x.1.pollFound r x.2.2 else x.1.ringFault x.2.1 (s.descAddr r 0)
    else
      let one (x : State × List (Nat × Option (List Byte))) (q : Nat × Nat) : State × List (Nat × Option (List Byte)) :=
        let y := State.askParts r (q.2 / 256 + 2) x.1 q.1 q.2
        (y.1, x.2 ++ y.2)
      let x := rs.foldl one (s, [])
      x.1.setRing r { x.1.ring r with poll := x.2 }

/-! ### Transmit rings (R537, R538) -/

/-- The next transmit descriptor of a ring: its index and bytes. -/
def State.txNext (s : State) (r : Nat) : Option (Nat × List Byte) :=
  let g := s.ring r
  if r < 128 ∧ s.ringOn r ∧ s.rf (ringB r + 8) 2 1 = 1 then
    (g.descs[g.taken.length]?).map fun d => ((s.rf (ringB r + 0xC) 15 0 + g.taken.length) % s.ringSize r, d)
  else none

/-- The port a descriptor names: 0 to 7, or 8 = SC0. -/
def descPort (d : List Byte) : Nat := leAt d 10 2 % 16

/-- A ring has a frame for a port that it can hand over now. -/
def State.txReady (s : State) (port r : Nat) : Bool :=
  match s.txNext r with
  | none => false
  | some (_, d) => descPort d == port && ((s.ring r).fetch.isNone || (joinParts (s.ring r).parts).isSome)

/-- The ring whose turn it is on a port (R538). -/
def State.txTurn (s : State) (port : Nat) : Option Nat :=
  let rs := (List.range 128).filter fun r => s.txReady port r
  match rs.find? fun r => decide (Sparse.get (fun _ => 128) s.host.rr port < r) with
  | some r => some r
  | none => rs.head?

/-- A frame's bytes are there: it enters the core side of its port. -/
def State.txHand (s : State) (r i : Nat) (d l : List Byte) : State :=
  let port := descPort d
  let fl := leAt d 10 2
  let g := s.ring r
  let s := s.setRing r { g with taken := g.taken ++ [(i, d, none)], fetch := none, parts := [] }
  let s := { s with host := { s.host with rr := Sparse.set (fun _ => 128) s.host.rr port r } }
  if port = 8 then
    if !s.domOn 29 || !s.rb 0x180000 0 then s.txDone r i 4 0
    else
      let m := macFrame l (bit fl 8) (bit fl 6) (bit fl 7)
      if s.rf 0x180004 10 0 < m.length then s.txDone r i 1 0
      else { s with eth := { s.eth with sc := { s.eth.sc with tx := s.eth.sc.tx ++ [(r, i, m)] } } }
  else if !s.epThere port || !s.rb (emB port) 0 then s.txDone r i 4 0
  else
    s.offer port { launch := if bit fl 4 then some (roundUp (s.nearTime (leAt d 16 8)) grain) else none, complete := s.snUp
                   drop := bit fl 5, prio := fld fl 11 9, origin := .txRing r i
                   body := .frame l (bit fl 8) (bit fl 6) (bit fl 7) }

/-- A frame that cannot be read is not sent.  No STATUS of R537 names it: it is a free value (log entry 2). -/
def State.txUnread (s : State) (r i : Nat) (d : List Byte) : State :=
  let g := s.ring r
  let s := s.setRing r { g with taken := g.taken ++ [(i, d, none)], fetch := none, parts := [] }
  s.useFree.txDone r i (s.freeVal % 256) 0

/-- The next frame of a ring: read, and handed to its port in the port's turn. -/
def State.txEnqueue (s : State) (r : Nat) : State :=
  match s.txNext r with
  | none => s
  | some (i, d) =>
    let g := s.ring r
    let a := leAt d 0 8
    let n := leAt d 8 2
    match g.fetch with
    | some _ =>
      if g.parts.isEmpty then s.txUnread r i d
      else
        match joinParts g.parts with
        | none => s
        | some l => if s.txTurn (descPort d) = some r then s.txHand r i d l else s
    | none =>
      if s.isLocal a then
        if s.txTurn (descPort d) ≠ some r then s
        else
          match s.ringHeld r [(a, n)] with
          | some s => s
          | none =>
          let x := State.unitRead (granules n) s a n
          if x.2.1 = 0 then x.1.txHand r i d x.2.2 else (x.1.ringFault x.2.1 a).txUnread r i d
      else
        let x := State.askParts r (n / 256 + 2) s a n
        x.1.setRing r { x.1.ring r with fetch := some (i, d), parts := x.2 }

/-! ### Record buffers, disabling, MSI-X (R533, R536, R542) -/

/-- COAL has passed since the first record of the buffer. -/
def State.coal (s : State) (r : Nat) : State :=
  match (s.ring r).buf with
  | some (_, _, _, t) => if r < 130 ∧ t + s.rf (ringB r + 0x14) 15 0 * tus ≤ s.clk.now then s.bufReturn r else s
  | none => s

/-- EN is written 0. -/
def State.ringOff (s : State) (r : Nat) : State :=
  if 130 ≤ r then s
  else
    let s := s.bufReturn r
    let g := s.ring r
    let keep := g.descs.take g.taken.length
    let s := s.setRing r { g with descs := keep, poll := [], fetch := none, parts := [], polled := 0 }
    (s.setRb (ringB r + 8) 0 false).setRf (ringB r + 0x18) 19 16 0

/-- The holdoff of a ring is over. -/
def State.holdoffEnd (s : State) (r : Nat) : State :=
  let g := s.ring r
  if 130 ≤ r ∨ !g.owing ∨ s.clk.now < g.quiet then s
  else
    (s.setRing r { g with quiet := s.clk.now + s.rf (ringB r + 0x14) 31 16 * tus, owing := false }).signal (s.rf (ringB r + 8) 21 16)

/-- A vector's mask bit is cleared. -/
def State.unmask (s : State) (v : Nat) : State :=
  if 64 ≤ v then s
  else
    let p := 0x89000 + v / 32 * 4
    let s := s.setRb (0x88000 + 16 * v + 12) 0 false
    if s.rb p (v % 32) then (s.setRb p (v % 32) false).signal v else s

/-! ### The PCIe link -/

/-- The link trains up. -/
def State.hostUp (s : State) (speed lanes : Nat) : State :=
  if !s.domOn 28 then s else s.setReg 0x80000 (1 + speed % 8 * 2 + lanes % 32 * 16)

/-- The link goes down. -/
def State.hostDown (s : State) : State := s.setReg 0x80000 0

/-! ### The commands -/

/-- RING_POLL (R530). -/
def execRingPoll (t : Tick) (ring : Nat) (s : State) : Result := .next ((s.advanceTo t).pollRing ring)

/-- TRANSMIT_FRAME_ENQUEUE (R537, R538). -/
def execTransmitFrameEnqueue (t : Tick) (ring : Nat) (s : State) : Result := .next ((s.advanceTo t).txEnqueue ring)

/-- RECORD_BUFFER_COAL (R536). -/
def execRecordBufferCoal (t : Tick) (ring : Nat) (s : State) : Result := .next ((s.advanceTo t).coal ring)

/-- RING_DISABLE (R533). -/
def execRingDisable (t : Tick) (ring : Nat) (s : State) : Result := .next ((s.advanceTo t).ringOff ring)

/-- MSIX_HOLDOFF_EXPIRY (R542). -/
def execMsixHoldoffExpiry (t : Tick) (ring : Nat) (s : State) : Result := .next ((s.advanceTo t).holdoffEnd ring)

/-- MSIX_UNMASK (R542). -/
def execMsixUnmask (t : Tick) (vector : Nat) (s : State) : Result := .next ((s.advanceTo t).unmask vector)

/-- HOST_LINK_UP (R547). -/
def execHostLinkUp (t : Tick) (speed lanes : Nat) (s : State) : Result := .next ((s.advanceTo t).hostUp speed lanes)

/-- HOST_LINK_DOWN (R227). -/
def execHostLinkDown (t : Tick) (s : State) : Result := .next (s.advanceTo t).hostDown

end Sys2Proof.Machine
end

