-- ==== Sys2Proof/Machine/Reset.lean ====
section
/-! DEFINITION. What resets and power switching clear: scopes of engines, power domains, warm and cold resets (R500 to
R502, R549 to R557, R567, R598, R599). -/

namespace Sys2Proof.Machine

/-! ### Registers and requests of a scope -/

/-- Registers go back to their reset values. -/
def State.clearRegs (s : State) (p : Nat → Bool) : State :=
  { s with regs := s.regs.filter (fun e => !p e.1), latch := s.latch.filter fun e => !p e.1 }

/-- Registers in a range of offsets go back to their reset values. -/
def State.clearRange (s : State) (a b : Nat) : State := s.clearRegs fun o => decide (a ≤ o) && decide (o < b)

/-- Requests of some masters are discarded, and so will be their answers (R501). -/
def State.dropRequests (s : State) (p : Issuer → Bool) : State :=
  { s with
    mem := { s.mem with inflight := s.mem.inflight.filter (fun r => !p r.issuer), answers := s.mem.answers.filter fun a => !p a.req.issuer }
    nen := { s.nen with outst := s.nen.outst.filter fun o => !p o.req.issuer } }

/-- Memory bytes, errors and markers in the offsets that satisfy a condition are lost. -/
def State.loseBytes (s : State) (p : Nat → Bool) : State :=
  { s with mem := { s.mem with
      bytes := s.mem.bytes.filter (fun e => !p e.1)
      poison := s.mem.poison.filter (fun g => !p (16 * g))
      ecc := s.mem.ecc.filter fun e => !p (8 * e.1) } }

/-- Holding stages are emptied: what they held or were about to take ends. -/
def State.clearStages (s : State) (ks : List Nat) : State :=
  { s with stages := s.stages.filter fun e => !ks.contains e.1 }

/-- A number of a half-open range. -/
def within (a b n : Nat) : Bool := decide (a ≤ n) && decide (n < b)

/-! ### Engines (R502) -/

/-- The requests of the contexts of an engine. -/
def engIssuer (e : Nat) : Issuer → Bool
  | .ctx n _ => engineOf n == e
  | .shadow n => engineOf n == e
  | .stream _ => e == 10
  | .mask _ => e == 10
  | _ => false

/-- The contexts and datapath of an engine are cleared.  Slots and presence bits stay unless the contents are lost. -/
def State.clearContexts (s : State) (e : Nat) (lost : Bool) : State :=
  let s := s.dropRequests (engIssuer e)
  let mine (n : Nat) : Bool := engineOf n == e
  let keep (l : List (Nat × Ctx)) : List (Nat × Ctx) :=
    Sparse.mapV (fun _ => {}) (fun n c => if mine n then (if lost then {} else { present := c.present }) else c) l
  let s := { s with eng := { s.eng with ctxs := keep s.eng.ctxs, engs := Sparse.set (fun _ => {}) s.eng.engs e {} } }
  if lost then s.loseBytes fun a => within 0x2300000000 0x2301000000 a && engineOf ((a - 0x2300000000) / 0x20000) == e else s

/-- The trigger engine beside its contexts; its outputs are inactive. -/
def State.clearTg (s : State) : State :=
  ({ s with pin := { s.pin with lvdsOut := 0 }, tg := {}, lat := { s.lat with west := [] } }).clearStages ((List.range 14).map (30 + ·))

/-- The parser and reply composer beside its contexts. -/
def State.clearPa (s : State) : State := { s with pa := {}, lat := { s.lat with east := [] } }

/-- The reset scope of an engine: logic and registers, no array. -/
def State.clearEngine (s : State) (e : Nat) (lost : Bool) : State :=
  let s := (s.clearContexts e lost).clearRange (engB e) (engB e + 0x10000)
  if e = 10 then (s.clearTg).clearRange 0x3D0000 0x400000
  else if e = 9 then s.clearPa
  else s

/-! ### Power domains (R549, R550) -/

/-- The cells of a strip: logic only, or everything.  Code, look-up and slot tables are arrays. -/
def State.clearStrip (s : State) (d : Nat) (lost : Bool) : State :=
  let mine (n : Nat) : Bool := cellDom n == d
  let bare (c : Cell) : Cell := if lost then {} else { code := c.code, lut := c.lut, slotOut := c.slotOut, slotIn := c.slotIn }
  let cells := Sparse.mapV (fun _ => {}) (fun n c => if mine n then bare c else c) s.lat.cells
  let s := { s with lat := { s.lat with cells := cells, switchBad := s.lat.switchBad.filter fun n => !mine n } }
  let s := s.dropRequests fun i => match i with | .cell n _ _ _ => mine n | _ => false
  let s := s.clearRegs fun o => within 0x800000 0xE40000 o && mine ((o - 0x800000) / 0x400)
  if lost then s.loseBytes fun a => within 0x2100000000 0x2119000000 a && mine ((a - 0x2100000000) / 0x10000) else s

/-- Shared Store and movers. -/
def State.clearStore (s : State) (lost : Bool) : State :=
  let s := (List.range 4).foldl (fun s i => s.clearEngine (11 + i) lost) s
  let s := { s with mem := { s.mem with degraded := [] } }.clearRange 0x6E0000 0x6F0000
  if lost then ({ s with eng := { s.eng with parts := [] } }).loseBytes (within 0x2000000000 0x2006000000) else s

/-- Lanes of a range. -/
def State.clearLanes (s : State) (a b : Nat) : State :=
  ({ s with lanes := s.lanes.filter fun e => !within a b e.1 }).clearRange (lnB a) (lnB b)

/-- Nenath ports of a range. -/
def State.clearPorts (s : State) (a b : Nat) : State :=
  let s := { s with nen := { s.nen with ports := s.nen.ports.filter fun e => !within a b e.1 } }
  (s.clearRange (nfB a) (nfB b)).clearStages ((List.range (b - a)).map (8 + a + ·))

/-- Sensor channels of a range. -/
def State.clearChans (s : State) (a b : Nat) : State :=
  let tg := { s.tg with chans := s.tg.chans.filter (fun e => !within a b e.1), slipped := s.tg.slipped.filter fun c => !within a b c }
  ({ s with tg := tg }).clearRange (snB a) (snB b)

/-- A power domain is cleared: its logic, and with `lost` its contents as well. -/
def State.clearDom (s : State) (d : Nat) (lost : Bool) : State :=
  if 1 ≤ d ∧ d ≤ 8 then s.clearStrip d lost
  else if 9 ≤ d ∧ d ≤ 16 then s.clearEngine (d - 9) lost
  else if d = 17 then s.clearStore lost
  else if d = 18 ∨ d = 19 then
    let s := s.clearRange (dmB (8 * (d - 18))) (dmB (8 * (d - 18) + 8))
    if lost then s.loseBytes fun a => decide (a < 0x2000000000) && 18 + s.stackOf a / 8 == d else s
  else if 20 ≤ d ∧ d ≤ 23 then
    (s.clearLanes (40 * (d - 20)) (40 * (d - 20) + 40)).clearPorts (5 * (d - 20)) (5 * (d - 20) + 5)
  else if d = 24 then
    let s := (s.clearEngine 9 lost).clearLanes 160 192
    (({ s with eth := { s.eth with ports := [] } }).clearRange 0x100000 0x180000).clearStages (List.range 8)
  else if d = 25 ∨ d = 26 then
    (s.clearLanes (192 + 48 * (d - 25)) (240 + 48 * (d - 25))).clearChans (192 * (d - 25)) (192 * (d - 25) + 192)
  else if d = 27 then s.clearEngine 10 lost
  else if d = 28 then (s.setReg 0x80000 0).clearStages [28]
  else if d = 29 then
    (({ s.clearEngine 8 lost with eth := { s.eth with sc := {} } }).clearRange 0x180000 0x190000)
  else s

/-! ### Warm and cold resets (R556) -/

/-- Domains of a warm reset. -/
def warmDoms : List Nat := (List.range 17).map (1 + ·) ++ (List.range 6).map (24 + ·)

/-- A domain is switched off and cleared, and its PW registers are at reset. -/
def State.offDom (s : State) (d : Nat) : State := (s.clearDom d true).clearRange (pwB d) (pwB d + 0x100)

/-- The register bits of GL_RESET_CAUSE (R570). -/
abbrev causePorst : Nat := 1
abbrev causePerst : Nat := 2
abbrev causeSoftware : Nat := 4
abbrev causeThermal : Nat := 8
abbrev causeTamper : Nat := 16

/-- GL_RESET_CAUSE once a cause arrives: causes of one instant each set their bit (R599). -/
def State.causeOf (s : State) (cause : Nat) : Nat :=
  if s.pwr.causeAt = some s.clk.now then Nat.lor (s.reg 0x74) cause else cause

/-- A warm reset (R556).  The system controller's state is the GL_BOOT registers, the governor's and the host rings. -/
def State.warm (s : State) (cause : Nat) : State :=
  let why := s.causeOf cause
  let s := warmDoms.foldl State.offDom s
  let s := s.dropRequests fun i => match i with | .peer _ _ => false | _ => true
  let s := (s.clearRange 0x1E000 0x20000).clearRange 0x80000 0x90000
  let s := { s with
    host := { s.host with rings := [], ra := [], rr := [] }
    nen := { s.nen with self := [] }
    pwr := { bootFrom := s.clk.now, causeAt := some s.clk.now, dramHalf := s.pwr.dramHalf, tempFrom := s.pwr.tempFrom
             tempCnt := s.pwr.tempCnt }
    rv := {}, se := { keys := s.se.keys }, paused := []
    dbg := { s.dbg with pending := none, frozen := [] } }
  let s := (((s.setReg 0x64 0x20).setReg 0x68 0).setReg 0x74 why).setReg 0x30004 0 |>.setRb 0x30038 9 false
  (((s.setRb 0x40000 3 false).setRb 0x40000 4 false).setRf 0x400BC 1 0 0).lfCount 0x24

/-- The part is in, or held in, cold reset. -/
def State.inReset (s : State) : Bool := s.pin.heldReset || !s.pin.porst || !s.pin.pwrGood || !s.pin.aon

/-- A request of a warm reset; in a cold reset it is discarded, and one of the same instant still shows its cause (R557, R599). -/
def State.warmReset (s : State) (cause : Nat) : State :=
  if !s.inReset then s.warm cause
  else if s.pwr.causeAt = some s.clk.now then s.setReg 0x74 (s.causeOf cause)
  else s

/-- The physical column of a usable column from the cells fused off: one column higher from a single failed cell of the row
group on; the unrepaired column where two or more failed, or where a switch point of the row did (R82, R83, R130). -/
def Fuses.pcol (f : Fuses) (row u : Nat) : Nat :=
  let bad := (f.cellOff.filter fun n => n / 100 == row && n % 100 / 25 == u / 24).eraseDups
  let col := u + u / 24
  match bad with
  | [n] => if n % 100 ≤ col ∧ ¬ f.switchOff.any (fun m => m / 100 == row) then col + 1 else col
  | _ => col

/-- The map entry of a usable cell at cold reset; an entry that cannot be placed has JOG_N = JOG_S = 0 (R130). -/
def Fuses.entry (f : Fuses) (row u : Nat) : Nat :=
  let bad := (f.cellOff.filter fun n => n / 100 == row && n % 100 / 25 == u / 24).eraseDups
  let ok := decide (bad.length < 2) && !f.switchOff.any fun m => m / 100 == row
  let jog (there : Bool) (r : Nat) : Nat := b2n (ok && there && f.pcol r u != f.pcol row u)
  f.pcol row u + 2 ^ 8 * jog (decide (0 < row)) (row - 1) + 2 ^ 9 * jog (decide (row < 63)) (row + 1) + 2 ^ 10

/-- One entry of the map as the fuses have it. -/
def State.fuseEntry (s : State) (i : Nat) : State := s.setReg (0xF00000 + 4 * i) (s.fuse.entry (i / 96) (i % 96))

/-- The map reflects the cells fused off at manufacture (R130). -/
def State.fuseMap (s : State) : State :=
  if s.fuse.cellOff.isEmpty ∧ s.fuse.switchOff.isEmpty then s
  else (List.range 6144).foldl State.fuseEntry s

/-- A cold reset (R556): what is left is the fuses, SPI NOR and the lifetime log, and what lies outside the part.  The
causes of one instant add up; a reset that is already held keeps its cause. -/
def State.cold (s : State) (cause : Nat) : State :=
  let held := s.inReset && s.pwr.causeAt != some s.clk.now
  let why := if held then s.reg 0x74 else s.causeOf cause
  let s' : State := {
    fuse := s.fuse
    pin := { s.pin with lvdsOut := 0, ppsOut := false }
    clk := { now := s.clk.now, osc := s.clk.osc }
    regs := s.regs.filter fun e => decide (0x1000000 ≤ e.1)
    mem := { bytes := s.mem.bytes.filter fun e => decide (0x800000000000 ≤ e.1), nextId := s.mem.nextId }
    host := { msix := s.host.msix, raAns := s.host.raAns }
    out := s.out, lf := { from_ := s.clk.now }
    pwr := { bootFrom := s.clk.now, causeAt := if held then s.pwr.causeAt else some s.clk.now }, free := s.free, pending := s.pending }
  s'.fuseMap.setReg 0x74 why

/-- The part trips or is tampered with: cold reset, held until porst_n next rises. -/
def State.holdReset (s : State) (cause : Nat) : State :=
  let s := s.cold cause
  { s with pin := { s.pin with heldReset := true } }

/-- porst_n and pwr_good take new levels (R556, R599). -/
def State.porstPins (s : State) (level good : Bool) : State :=
  let fall := (s.pin.porst && !level) || (s.pin.pwrGood && !good)
  let rise := !s.pin.porst && level && good && s.pin.aon
  let s := if fall then s.cold causePorst else s
  let trip := s.pin.thermtrip && level
  let s := { s with pin := { s.pin with porst := level, pwrGood := good, thermtrip := trip } }
  if rise then { s with pin := { s.pin with heldReset := false }, pwr := { s.pwr with bootFrom := s.clk.now } } else s

/-- A tamper sensor fires (R567); tamper_n does not while a TAP instruction holds the balls (R573). -/
def State.tamper (s : State) (sensor : Nat) : State :=
  if 5 ≤ sensor ∨ !s.pin.aon ∨ (sensor = 4 ∧ s.holdsPins) then s
  else
    let t := if s.fuse.zeroised then s.fuse.tamper else 2 ^ sensor
    State.holdReset { s with fuse := { s.fuse with seed := false, zeroised := true, zeroisedNew := true, tamper := t } } causeTamper

/-- VDD_AON is lost (R599).  R587 says what becomes of the lifetime log. -/
def State.aonLoss (s : State) : State :=
  let s := (s.cold 0).setReg 0x74 0
  { s with pin := { s.pin with aon := false, heldReset := true, thermtrip := false }, fuse := { s.fuse with tripNew := 0 } }

/-! ### The commands -/

/-- PORST (R556, R599). -/
def execPorst (t : Tick) (level : Bool) (pwrGood : Bool) (s : State) : Result := .next ((s.advanceTo t).porstPins level pwrGood)

/-- PERST (R556). -/
def execPerst (t : Tick) (s : State) : Result :=
  let s := s.advanceTo t
  .next (if s.fuse.hostless then s else s.warmReset causePerst)

/-- GL_RESET_WARM (R570). -/
def execGlResetWarm (t : Tick) (value : Word) (s : State) : Result :=
  let s := s.advanceTo t
  let r := s.written 0x70 value.toNat
  .next (if bit r.2 0 && fld r.2 31 16 == 0x5157 then r.1.warmReset causeSoftware else r.1)

/-- TAMPER_FIRE (R566, R567). -/
def execTamperFire (t : Tick) (sensor : Nat) (s : State) : Result := .next ((s.advanceTo t).tamper sensor)

/-- VDD_AON_LOSS (R599). -/
def execVddAonLoss (t : Tick) (s : State) : Result := .next (s.advanceTo t).aonLoss

/-- VDD_AON_RISE (R598): PW00 powers, and the part waits for porst_n to rise. -/
def execVddAonRise (t : Tick) (s : State) : Result :=
  let s := s.advanceTo t
  .next { s with pin := { s.pin with aon := true } }

end Sys2Proof.Machine
end

