-- ==== Sys2Proof/Machine/Power.lean ====
section
/-! DEFINITION. Power domains, the governor, thermal protection and AVSBus (R25, R26, R64 to R67, R549 to R555, R557,
R600 to R602). -/

namespace Sys2Proof.Machine

/-! ### What holds a domain (R549) -/

/-- Some context of an engine is held by a binding. -/
def State.engHeld (s : State) (e : Nat) : Bool := (List.range (engCtxs e)).any fun i => s.cxBind (engFirst e + i) != 0

/-- An edge port of a row is held: some entry of its tables is VALID. -/
def State.edgeHeld (s : State) (row : Nat) : Bool :=
  (List.range 16).any fun i => s.rb (tgOut row i) 0 || s.rb (tgIn row i) 0 || s.rb (paOut row i) 0 || s.rb (paIn row i) 0

/-- A valid region lies on one side of the end of DRAM. -/
def State.regionHeld (s : State) (dram : Bool) : Bool :=
  (List.range 64).any fun n => s.rb (rgB n + 0x10) 0 && decide (s.reg64 (rgB n) < 0x2000000000) == dram

/-- What the switch rule of a domain forbids to be switched off. -/
def State.domHeld (s : State) (d : Nat) : Bool :=
  if d = 0 then true
  else if d ≤ 8 then
    (List.range 800).any (fun i => s.clBind (800 * (d - 1) + i) != 0) || (List.range 8).any fun i => s.edgeHeld (8 * (d - 1) + i)
  else if d ≤ 16 then s.engHeld (d - 9)
  else if d = 17 then s.regionHeld false || (List.range 4).any fun i => s.engHeld (11 + i)
  else if d ≤ 19 then s.regionHeld true
  else if d ≤ 23 then (List.range 5).any fun i => s.npState (5 * (d - 20) + i) != 0
  else if d = 24 then (List.range 8).any (fun n => s.rb (emB n) 0) || s.engHeld 9
  else if d ≤ 26 then (List.range 192).any fun i => s.rb (snB (192 * (d - 25) + i)) 0
  else if d = 27 then
    s.engHeld 10 || (List.range 64).any (fun n => s.rb (combB n) 0) || (List.range 8).any fun n => s.rb (gpoB n) 0
  else if d = 28 then !s.fuse.hostless
  else s.engHeld 8 || s.rb 0x180000 0

/-- A binding holds something of a domain (R557). -/
def State.domBound (s : State) (d : Nat) : Bool :=
  if (20 ≤ d ∧ d ≤ 23) ∨ d = 28 then false else if d = 29 then s.engHeld 8 else s.domHeld d

/-- A domain that a write can switch or reset: present, and not PW00 (R550). -/
def State.domReal (s : State) (d : Nat) : Bool := decide (0 < d) && decide (d < 30) && !s.domFused d

/-- The domains that a write to one of them switches: PW18 and PW19 go together (R549, R550). -/
def State.domPair (s : State) (d : Nat) : List Nat := if d = 18 ∨ d = 19 then [18, 19].filter s.domReal else [d]

/-- A domain is switched on or off: its units are absent until it has settled. -/
def State.switchDom (s : State) (on : Bool) (d : Nat) : State :=
  let st := s.rf (pwB d + 4) 1 0
  let s := s.setRb (pwB d) 0 on
  if on then (if st = 0 then s.setRf (pwB d + 4) 1 0 1 else s) else (if st = 0 then s else s.setRf (pwB d + 4) 1 0 1)

/-- PW_CTRL.ON is written (R550). -/
def State.pwOn (s : State) (d : Nat) (on : Bool) : State :=
  if !s.domReal d then s
  else if on then
    let kept := s.pwr.claimed.filter fun x => !(s.domPair d).contains x || s.domHeld x
    (s.domPair d).foldl (fun s d => s.switchDom true d) { s with pwr := { s.pwr with claimed := kept } }
  else if s.domHeld d then s.setRb (pwB d + 4) 2 true
  else (s.domPair d).foldl (fun s d => s.switchDom false d) s

/-- A domain has settled: it is on with its registers at reset, or off with its contents lost. -/
def State.settleDom (s : State) (d : Nat) : State :=
  if !s.domReal d ∨ s.rf (pwB d + 4) 1 0 ≠ 1 then s
  else ((s.clearDom d true).repause).settleResets.setRf (pwB d + 4) 1 0 (if s.rb (pwB d) 0 then 2 else 0)

/-- AUTO: the last resource that a binding held of the domain has been released; a domain that none has claimed since ON was
written stays on (R552). -/
def State.autoOff (s : State) (d : Nat) : State :=
  if s.domReal d && s.rb (pwB d) 1 && s.rb (pwB d) 0 && s.pwr.claimed.contains d && !s.domHeld d then
    { s.pwOn d false with pwr := { s.pwr with claimed := s.pwr.claimed.filter fun x => !(s.domPair d).contains x } }
  else s

/-- PW_CTRL.RESET (R557). -/
def State.resetDom (s : State) (d : Nat) : State :=
  if !s.domReal d ∨ s.rf (pwB d + 4) 1 0 ≠ 2 then s
  else if s.domBound d || s.rv.queue.any fun e => engDom e == d then s.setRb (pwB d + 4) 2 true
  else (s.clearDom d false).repause.settleResets

/-! ### Pacing (R26, R555, R602, R569) -/

/-- Some work is being paced. -/
def State.paced (s : State) : Bool := s.rb 0x1E000 20 || s.rb 0x1E000 22 || s.pwr.avsFail

/-- PW_PACED_NS counts while pacing is in force. -/
def State.settlePaced (s : State) : State :=
  match s.pwr.pacedFrom with
  | none => if s.paced then { s with pwr := { s.pwr with pacedFrom := some s.clk.now } } else s
  | some t =>
    if s.paced then s
    else ({ s with pwr := { s.pwr with pacedFrom := none } }).settleNs 0x1E010 t

/-! ### VDD_CORE and the floor (R25, R66, R553, R601) -/

/-- VDD_CORE in mV. -/
def State.vdd (s : State) : Nat := s.rf 0x1E000 9 0

/-- The effective floor: the largest PW_FLOOR_BIND entry, the level raised under R66, and 500 mV. -/
def State.floorOf (s : State) : Nat :=
  (List.range 256).foldl (fun m b => max m (s.rf (0x1F000 + 4 * b) 9 0)) (max 500 s.pwr.raised)

/-- VDD_CORE and VDD_SRAM take confirmed values: VDD_SRAM stays at or above VDD_CORE and 720 mV. -/
def State.setVdd (s : State) (v : Nat) : State :=
  let was := s.vdd
  let sram := s.rf 0x80 12 3
  let sram := if was < v then max sram v else max v 720
  if s.pwr.avsFail then s else (s.setRf 0x1E000 9 0 v).setRf 0x80 12 3 (max sram 720)

/-- The floor is recomputed, and VDD_CORE raised to it. -/
def State.setFloor (s : State) : State :=
  let f := s.floorOf
  let s := s.setRf 0x1E000 19 10 f
  if s.vdd < f then s.setVdd f else s

/-- PW_FLOOR_BIND is written. -/
def State.floorBind (s : State) (b v : Nat) : State :=
  let v := v % 1024
  if b < 256 ∧ (v = 0 ∨ (500 ≤ v ∧ v ≤ 820)) then (s.setReg (0x1F000 + 4 * b) v).setFloor else s

/-- A binding has launched outputs: it has declared a floor. -/
def State.launches (s : State) (b : Nat) : Bool := b != 0 && s.rf (0x1F000 + 4 * b) 9 0 != 0

/-- The domain of a unit that holds launched work. -/
def State.launchDoms (s : State) : List Nat :=
  ((s.lat.cells.map Prod.fst).filter (fun n => s.launches (s.clBind n))).map cellDom ++
  ((List.range 100).filter (fun n => s.launches (s.cxBind n))).map fun n => engDom (engineOf n)

/-- PW_LIMIT is written (R554, R569). -/
def State.pwLimit (s : State) (v : Nat) : State :=
  let w := max 100 (min 1250 (v % 2048))
  if s.launchDoms.isEmpty ∧ w * 1000 < s.reg 0x1E004 then s else s.setReg 0x1E008 w

/-! ### The governor's interval (R26, R65 to R67, R554) -/

/-- Margins below zero raise VDD_CORE by a step; at or above 2 % for 1 s they let the raised level go (R66). -/
def State.govSlack (s : State) (doms : List Nat) : State :=
  let margins := doms.map fun d => signed 16 (s.reg (pwB d + 8))
  let good := margins.all fun m => decide (82 ≤ m)
  let from_ := if good then some (s.pwr.goodFrom.getD s.clk.now) else none
  let s := { s with pwr := { s.pwr with goodFrom := from_ } }
  if margins.any fun m => decide (m < 0) then
    if s.vdd < 820 then
      let v := min 820 (s.vdd + 5)
      ({ s with pwr := { s.pwr with raised := v, slackOut := false } }).setVdd v |>.setFloor
    else if s.pwr.slackOut then s
    else ({ s with pwr := { s.pwr with slackOut := true, raised := 820 } }).setFloor |>.event Code.SLACK_EXHAUSTED
  else { s with pwr := { s.pwr with slackOut := false } }

/-- The groups of power domains and their budgets in W (R38). -/
def groupBudgets : List (List Nat × Nat) :=
  [([1, 2, 3, 4, 5, 6, 7, 8], 420), ([9, 10, 11, 12], 360), ([13, 14, 15, 16, 17, 27, 29], 120), ([18, 19], 110),
   ([20, 21, 22, 23, 24, 25, 26, 28], 300), ([0], 30)]

/-- Power of a group of domains over the last interval, in mW. -/
def State.groupPower (s : State) (doms : List Nat) : Nat := (doms.map fun d => s.reg (pwB d + 0x10)).sum

/-- Some group draws more than its budget (R38). -/
def State.overBudget (s : State) : Bool := groupBudgets.any fun g => decide (1000 * g.2 < s.groupPower g.1)

/-- Power above the limit, or a group above its budget: step 1, 2 or 3 of R26; otherwise pacing of step 2 ends. -/
def State.govPower (s : State) (total : Nat) : State :=
  let floor := s.rf 0x1E000 19 10
  if total ≤ 1000 * min 1250 (s.reg 0x1E008) ∧ s.overBudget = false then ((s.setRb 0x1E000 20 false).setRb 0x1E000 21 false).settlePaced
  else if floor < s.vdd ∧ !s.pwr.avsFail then s.setVdd (max floor (s.vdd - 5))
  else if !s.rb 0x1E000 20 then (s.setRb 0x1E000 20 true).settlePaced
  else if s.rb 0x1E000 21 then s
  else (s.setRb 0x1E000 21 true).event Code.POWER_OVER_BUDGET

/-- One interval of 1 ms: readings, then slack, then power. -/
def State.governor (s : State) (total : Nat) (domain : List Nat) (slack : List Int) : State :=
  let s := s.setReg 0x1E004 total
  let s := domain.zipIdx.foldl (fun s x => if x.2 < 30 then s.setReg (pwB x.2 + 0x10) x.1 else s) s
  let s := slack.zipIdx.foldl (fun s x => if x.2 < 30 then s.setReg (pwB x.2 + 8) (ofSigned 16 x.1) else s) s
  let s := { s with lf := { s.lf with pSum := s.lf.pSum + total, pNum := s.lf.pNum + 1 } }
  (s.govSlack s.launchDoms).govPower total

/-- The raised level is released (R66). -/
def State.slackEnd (s : State) : State :=
  match s.pwr.goodFrom with
  | some t => if t + tsec ≤ s.clk.now then ({ s with pwr := { s.pwr with raised := 0 } }).setFloor else s
  | none => s

/-! ### Thermal protection (R555) -/

/-- A trip: every domain but PW00 is off, thermtrip_n is driven, and the part is held in reset. -/
def State.trip (s : State) (unit : Nat) : State :=
  let s := State.holdReset { s with fuse := { s.fuse with tripNew := unit + 1 } } causeThermal
  { s with pin := { s.pin with thermtrip := true } }

/-- A reading of the logic junctions, by domain. -/
def State.thermal (s : State) (temps : List Int) : State :=
  let on := temps.zipIdx.filter fun x => decide (0 < x.2) && decide (x.2 < 30) && s.domOn x.2
  let s := on.foldl (fun s x => (s.setReg (pwB x.2 + 0xC) (ofSigned 8 x.1)).setRb (pwB x.2 + 4) 4 (decide (105 < x.1))) s
  match on with
  | [] => s
  | h :: r =>
    let m := r.foldl (fun a x => if a.1 < x.1 then x else a) h
    if 115 ≤ m.1 then s.trip m.2
    else if 105 < m.1 then
      if s.rb 0x1E000 22 then s else (((s.setRb 0x1E000 22 true).settlePaced).lfCount 0x28).event Code.THERMAL_TRIP m.2
    else if m.1 ≤ 103 then (s.setRb 0x1E000 22 false).settlePaced
    else s

/-! ### AVSBus (R602) -/

/-- The third attempt of a transaction has failed. -/
def State.avsLost (s : State) : State :=
  let s := ((s.setRb 0x80 2 true).setRb 0x80 1 false).inc 0x84
  ({ s with pwr := { s.pwr with avsFail := true } }).settlePaced

/-- A retry: the first success ends the pacing and lets the floor take force. -/
def State.avsAgain (s : State) (ok : Bool) : State :=
  if !s.pwr.avsFail ∨ !ok then s
  else (({ s with pwr := { s.pwr with avsFail := false } }).setRb 0x80 1 true).settlePaced.setFloor

/-! ### The commands -/

/-- PW_ON_WRITE (R550). -/
def execPwOnWrite (t : Tick) (dom : Nat) (on : Bool) (s : State) : Result := .next ((s.advanceTo t).pwOn dom on)

/-- PW_RESET (R557). -/
def execPwReset (t : Tick) (dom : Nat) (s : State) : Result := .next ((s.advanceTo t).resetDom dom)

/-- DOMAIN_POWER_SETTLED (R550). -/
def execDomainPowerSettled (t : Tick) (dom : Nat) (s : State) : Result := .next ((s.advanceTo t).settleDom dom)

/-- AUTO_POWER_OFF (R552). -/
def execAutoPowerOff (t : Tick) (dom : Nat) (s : State) : Result := .next ((s.advanceTo t).autoOff dom)

/-- FLOOR_BIND_WRITE (R553). -/
def execFloorBindWrite (t : Tick) (bind : Nat) (value : Word) (s : State) : Result :=
  let s := s.advanceTo t
  let r := s.written (0x1F000 + 4 * bind) value.toNat
  .next (if bind < 256 then r.1.floorBind bind r.2 else s)

/-- PW_LIMIT_WRITE (R554). -/
def execPwLimitWrite (t : Tick) (value : Word) (s : State) : Result :=
  let r := (s.advanceTo t).written 0x1E008 value.toNat
  .next (r.1.pwLimit r.2)

/-- GOVERNOR_INTERVAL (R26, R66, R67). -/
def execGovernorInterval (t : Tick) (total : Nat) (domain : List Nat) (slack : List Int) (s : State) : Result :=
  .next ((s.advanceTo t).governor total domain slack)

/-- SLACK_HOLD_EXPIRY (R66). -/
def execSlackHoldExpiry (t : Tick) (s : State) : Result := .next (s.advanceTo t).slackEnd

/-- THERMAL_SAMPLE (R555). -/
def execThermalSample (t : Tick) (temps : List Int) (s : State) : Result := .next ((s.advanceTo t).thermal temps)

/-- AVS_TRANSACTION_FAIL (R602). -/
def execAvsTransactionFail (t : Tick) (s : State) : Result := .next (s.advanceTo t).avsLost

/-- AVS_RETRY (R602). -/
def execAvsRetry (t : Tick) (ok : Bool) (s : State) : Result := .next ((s.advanceTo t).avsAgain ok)

end Sys2Proof.Machine
end

