-- ==== Sys2Proof/Machine/Clove.lean ====
section
/-! DEFINITION. Clove: hung engines, drain, dump images, reset and replay, failed cells, and chip-level recovery (R496 to
R520, R523, R524, R584). -/

namespace Sys2Proof.Machine

/-! ### RV_STATUS and the queue (R499, R524) -/

/-- RV_STATUS while Clove works on the first engine of its queue. -/
def State.rvStatus (s : State) (phase : Nat) : State :=
  match s.rv.queue with
  | [] => s.setReg 0x30004 (if s.rv.chip.isSome then phase else 0)
  | e :: r =>
    s.setReg 0x30004 (phase + engType e * 2 ^ 4 + engInst e * 2 ^ 8 + (s.rv.replay.getD 0) * 2 ^ 12 + b2n (!r.isEmpty) * 2 ^ 19)

/-- The phase RV_STATUS shows. -/
def State.rvPhase (s : State) : Nat := s.rf 0x30004 3 0

/-- Contexts of an engine. -/
def engList (e : Nat) : List Nat := (List.range (engCtxs e)).map (engFirst e + ·)

/-- The engine is the one Clove works on, in a given phase. -/
def State.rvOn (s : State) (e phase : Nat) : Bool := s.rv.queue.head? == some e && s.rvPhase == phase

/-- Clove begins work on the first engine of its queue: the drain bound starts (R499, R500). -/
def State.rvBegin (s : State) : State :=
  match s.rv.queue with
  | [] => s.rvStatus 0
  | e :: _ =>
    let late := if e = 9 ∨ e = 10 then (engList e).find? fun n => (s.cx n).prior == 6 && (s.cx n).guilty else none
    let rv := { s.rv with from_ := s.clk.now, suspects := [], replay := none, guilty := false, step := 0, units := [], unread := false
                          dumpReplay := false, late := late, dumpSeq := Sparse.get (fun _ => 0) s.rv.seqs e }
    ({ s with rv := rv }).rvStatus 1

/-! ### Taking an engine (R496 to R498) -/

/-- The register words an engine shows when Clove takes it. -/
def State.engSnap (s : State) (e : Nat) : List (Nat × Word) :=
  let b := engB e
  let own := (s.regs.map Prod.fst).filter fun o => engAt o == some e
  let shown := [b + 4, b + 0x18, b + 0x1C] ++ (engList e).map (fun n => cxB n + 4) ++
    (if e = 10 then (List.range 4).flatMap fun k => [strmB k, strmB k + 4, strmB k + 0x10, strmB k + 0x14] else [])
  (own ++ shown).foldl (fun m o => Sparse.set regReset m o (BitVec.ofNat 32 (s.view o))) s.rv.snap

/-- The fault of a command that exceeded its timeout: recorded, with its shadow; its instruction runs on (R264, R500). -/
def State.timeoutFault (s : State) (n : Nat) : State :=
  let c := s.cx n
  let s := (s.setReg (cxB n + 0x28) (Code.CMD_TIMEOUT + c.slot * 2 ^ 16 + 2 ^ 31)).inc (engB (engineOf n) + 0x20)
  let s := s.fault { code := Code.CMD_TIMEOUT, origin := 1, bind := s.cxBind n, epoch := s.cxEpoch n, ctx := some n, pc := c.slot
                     arg := c.timeout }
  s.shadow n Code.CMD_TIMEOUT

/-- A context passes into Clove's hands; a waiting sequencer instruction is abandoned. -/
def State.takeCx (timed : Nat) (s : State) (n : Nat) : State :=
  let st := s.cxState n
  let s := (s.settleCx n).abandonCx n
  let c := s.cx n
  let active := n == timed || ((st == 1 || st == 2) && !c.dbg)
  (s.setCx n { c with wasActive := active, prior := if n = timed then 6 else st }).setCxState n 5

/-- Clove takes the engine of a context whose command timed out. -/
def State.cloveTake (s : State) (n : Nat) : State :=
  let e := engineOf n
  let first := s.rv.queue.isEmpty
  let seq := s.host.fltSeq
  let s := (engList e).foldl (State.takeCx n) (s.timeoutFault n)
  let s := ((s.setRb (engB e + 4) 1 true).event Code.HANG_DETECTED n).inc 0x30020
  let s := s.lfCount (0x50 + 4 * engType e)
  let rv := { s.rv with snap := s.engSnap e, queue := s.rv.queue ++ [e], seqs := Sparse.set (fun _ => 0) s.rv.seqs e seq }
  let s := { s with rv := rv }
  let s := if first then s.rvBegin else s.setRb 0x30004 19 true
  s.repause

/-- The command of a context exceeds its timeout: in a replay the context is to be found guilty (R507). -/
def State.cmdTimeUp (s : State) (n : Nat) : State :=
  if s.rv.replay = some n then
    let s := (s.settleCx n).abandonCx n
    let rv := { s.rv with replay := none, late := some n, from_ := s.clk.now, step := 0, units := [], dumpReplay := true }
    ({ s with rv := rv }).rvStatus 1
  else if s.rv.chip.isSome then (s.inc (engB (engineOf n) + 0x20)).cxFault n Code.CMD_TIMEOUT (s.cx n).slot none (s.cx n).timeout
  else s.cloveTake n

/-- The counted time of a command has reached its timeout, and its writes are not all visible. -/
def State.overdue (s : State) (n : Nat) : Bool :=
  let c := s.cx n
  s.cxCounting n && !(c.phase == .sealed && c.atEnd.isEmpty && !s.cxWrites n) && decide (c.timeout * tus ≤ c.ran + (s.clk.now - c.ranAt))

/-! ### Guilt (R508) -/

/-- A context is found guilty. -/
def State.findGuilty (s : State) (n : Nat) : State :=
  let seq := s.host.fltSeq
  let s := s.setReg (cxB n + 0x28) (Code.HANG_GUILTY + (s.cx n).slot * 2 ^ 16 + 2 ^ 31)
  let s := s.fault { code := Code.HANG_GUILTY, origin := 4, bind := s.cxBind n, epoch := s.cxEpoch n, ctx := some n
                     detail := engType (engineOf n) }
  let s := ((s.setCx n { s.cx n with guilty := true, prior := 4 }).inc 0x30024).shadow n Code.HANG_GUILTY
  { s with rv := { s.rv with guilty := true, late := none, dumpSeq := seq } }

/-- A context that timed out in its replay is found guilty now. -/
def State.blame (s : State) : State := match s.rv.late with | some n => s.findGuilty n | none => s

/-! ### Drain (R500) -/

/-- A request of an engine, or the duplicate of one. -/
def engOwn (e : Nat) : Issuer → Bool
  | .mirror i _ => engIssuer e i
  | i => engIssuer e i

/-- No instruction is in progress, every write is visible, no read is outstanding. -/
def State.engDrained (s : State) (e : Nat) : Bool :=
  ((engList e).all fun n => (s.cx n).phase != .busy && (s.cx n).phase != .reading && !s.cxWrites n) &&
  !(s.mem.inflight.any fun r => engOwn e r.issuer) && !(s.nen.outst.any fun o => engOwn e o.req.issuer)

/-- The active contexts are to be replayed, in ascending order; TG and PA are resumed as they stand (R507, R511). -/
def State.rvReplay (s : State) (e : Nat) : State :=
  let todo := if s.rv.dumpReplay then s.rv.suspects
    else if e = 9 ∨ e = 10 then [] else (engList e).filter fun n => (s.cx n).wasActive
  ({ s with rv := { s.rv with suspects := todo, step := 0, units := [] } }).rvStatus 3

/-- ENGINE_DRAIN_COMPLETE: straight to replay. -/
def State.drainDone (s : State) (e : Nat) : State :=
  if s.rvOn e 1 && s.engDrained e then (s.blame).rvReplay e else s

/-! ### Isolation, dump images, reset and check (R501 to R504) -/

/-- An image is started. -/
def State.imgStart (s : State) (step : Nat) : State :=
  ({ s with rv := { s.rv with step := step, stepFrom := s.clk.now, imgAt := s.sn, units := [] } }).rvStatus 2

/-- The engine's reset scope is isolated: requests no target has accepted, and answers to it, are discarded. -/
def State.isolate (s : State) (e : Nat) : State :=
  let stop (s : State) (n : Nat) : State :=
    let c := s.cx n
    if c.phase = .busy ∨ c.phase = .reading then (s.freeEngine n).setCx n { s.cx n with phase := .ready, cache := [] } else s
  (engList e).foldl stop (s.dropRequests (engOwn e))

/-- ENGINE_DRAIN_BOUND_EXPIRY. -/
def State.drainExpire (s : State) (e : Nat) : State :=
  if s.rvOn e 1 && decide (s.rv.from_ + s.drainBound ≤ s.clk.now) && !s.engDrained e then ((s.isolate e).blame).imgStart 1 else s

/-- Bytes padded with zeros to a multiple. -/
def padTo (m : Nat) (l : List Byte) : List Byte := l ++ List.replicate (roundUp l.length m - l.length) 0

/-- A unit of an image. -/
def unitBytes (u : Nat × Option (List Byte)) : List Byte :=
  let d := padTo 16 (u.2.getD [])
  leBytes 2 u.1 ++ [if u.2.isSome then 0 else 1, 0] ++ leBytes 4 d.length ++ List.replicate 8 0 ++ d

/-- Units in ascending order of their numbers. -/
def unitInsert (l : List (Nat × Option (List Byte))) (u : Nat × Option (List Byte)) : List (Nat × Option (List Byte)) :=
  l.takeWhile (fun x => decide (x.1 ≤ u.1)) ++ u :: l.dropWhile fun x => decide (x.1 ≤ u.1)

/-- A dump image. -/
def imageBytes (seq time image e : Nat) (replay : Bool) (units : List (Nat × Option (List Byte))) : List Byte :=
  let body := units.flatMap unitBytes
  padTo 64 (leBytes 8 seq ++ leBytes 12 (pack96 time) ++ leBytes 1 image ++ leBytes 1 (engType e) ++ leBytes 1 (engInst e) ++
    leBytes 1 (b2n replay) ++ leBytes 4 units.length ++ leBytes 4 (roundUp (64 + body.length) 64) ++ List.replicate 32 0 ++ body)

/-- Write bytes to the dump ring from an offset on. -/
def State.dumpPut (size : Nat) : Nat → State → Nat → List Byte → State
  | 0, s, _, _ => s
  | _, s, _, [] => s
  | f + 1, s, off, l =>
    let k := size - off % size
    State.dumpPut size f (s.post .firmware (s.reg64 0x30010 + off % size) (l.take k)) (off + k) (l.drop k)

/-- Write an image, with DUMP_EN = 1 and a ring. -/
def State.dumpImage (s : State) (image e seq : Nat) (units : List (Nat × Option (List Byte))) : State :=
  let size := s.reg 0x30018
  if s.rb 0x30000 1 && size != 0 then
    let l := imageBytes seq s.rv.imgAt image e (s.rv.dumpReplay && s.rv.demand.isNone) units
    let off := s.reg 0x3001C
    (State.dumpPut size (l.length + 1) s off l).setReg 0x3001C ((off + l.length) % size)
  else s

/-- The units of the image now being read: what was read, and what timed out. -/
def State.imgUnits (s : State) (read : List (Nat × List Byte)) : List (Nat × Option (List Byte)) :=
  let late (u : Nat) : Bool := s.rv.units.any fun x => x.1 == u
  let got := (read.filter fun u => !late u.1).map fun u => (u.1, some u.2)
  (s.rv.units ++ got).foldl unitInsert []

/-- DUMP_IMAGE_COMPLETE: after image 0 the reset, after image 1 the replay; a dump on demand ends. -/
def State.imageDone (s : State) (read : List (Nat × List Byte)) : State :=
  let units := s.imgUnits read
  match s.rv.demand with
  | some e =>
    let s := s.dumpImage 0 e (2 ^ 64 - 1) units
    { s with rv := { s.rv with demand := none, units := [] } }
  | none =>
    match s.rv.queue with
    | [] => s
    | e :: _ =>
      if s.rv.step = 1 then
        let s := s.dumpImage 0 e s.rv.dumpSeq units
        { s with rv := { s.rv with step := 2, stepFrom := s.clk.now, units := [] } }
      else if s.rv.step = 4 then (s.dumpImage 1 e s.rv.dumpSeq units).rvReplay e
      else s

/-- An image is being read. -/
def State.imaging (s : State) : Bool := s.rv.demand.isSome || s.rv.step == 1 || s.rv.step == 4

/-- SCAN_UNIT_TIMEOUT: the unit is recorded as UNREADABLE. -/
def State.scanTimeout (s : State) (unit : Nat) : State :=
  if s.imaging && decide (s.rv.stepFrom + s.rf 0x3000C 7 0 * tus ≤ s.clk.now) && !(s.rv.units.any fun x => x.1 == unit % 65536) then
    { s with rv := { s.rv with units := s.rv.units ++ [(unit % 65536, none)], unread := s.rv.unread || s.rv.step == 1 } }
  else s

/-- SCOPE_RESET_COMPLETE, 50 µs after image 0: the datapath is cleared; registers, streams and other contexts are put
back from image 0. -/
def State.scopeReset (s : State) (e : Nat) : State :=
  if s.rvOn e 2 && s.rv.step == 2 && decide (s.rv.stepFrom + 50 * tus ≤ s.clk.now) then
    let s := s.setEngine e {}
    { s with rv := { s.rv with step := 3, stepFrom := s.clk.now } }
  else s

/-! ### Chip-level recovery (R518 to R520) -/

/-- Every context is held. -/
def State.holdAll (s : State) : State := (List.range 100).foldl (fun s n => s.setCxState n 5) s

/-- EDGE_STOP in every edge cell. -/
def State.stopEdges (s : State) : State :=
  let edge := (List.range 64).flatMap fun r => [s.physOf r 0, s.physOf r 95]
  (edge.filter s.cellOn).foldl (fun s n => s.setRb (clB n) 1 true) s

/-- A register that a write can set: configuration. -/
def isConfig (o : Nat) : Bool := match regWord o with | some w => w.rw != 0 || w.act != 0 | none => false

/-- The offsets of the blocks that a chip-level recovery resets. -/
def recovered (o : Nat) : Bool := within 0x3C0000 0x400000 o || within 0x600000 0x6F0000 o || within 0x800000 0xE40000 o

/-- A chip-level recovery begins. -/
def State.chipBegin (s : State) : State :=
  let s := s.unforce
  let snap := s.regs.filter fun e => recovered e.1 && isConfig e.1
  let s := ((s.setRb 0x540000 1 true).event Code.RECOVERY_START).stopEdges
  let s := (s.holdAll).inc 0x3002C
  let rv := { s.rv with queue := [], suspects := [], replay := none, guilty := false, late := none, step := 0, units := [], demand := none
                        snap := snap, chip := some 1, chipFrom := s.clk.now, replaying := [] }
  (({ s with rv := rv }).setReg 0x30004 4).repause

/-- CHIP_RECOVER. -/
def State.chipRecover (s : State) : State :=
  match s.rv.chip with
  | none => s.chipBegin
  | some k => if k < 8 then s else s.chipBegin

/-- Step 2: the reset; every array keeps its contents, and contexts stay held. -/
def State.chipReset (s : State) : State :=
  let s := ((List.range 17).map (1 + ·) ++ [27]).foldl (fun (s : State) d => s.clearDom d false) s
  ((s.clearEngine 8 false).clearEngine 9 false).holdAll

/-- Put back saved registers. -/
def State.putBack (s : State) (p : Nat → Bool) : State :=
  (s.rv.snap.filter fun e => p e.1).foldl (fun s e => s.setReg e.1 e.2.toNat) s

/-- A register of a cell. -/
def ofCell (o : Nat) : Bool := within 0x800000 0xE40000 o

/-- Step 4: each binding's Lattice configuration. -/
def State.chipConfig (s : State) : State := s.putBack fun o => ofCell o && decide (o % 0x400 ≠ 0)

/-- The valid header of a binding's checkpoint with the higher STEP, by its local offset (R514). -/
def State.ckptHeader (s : State) (b : Nat) : Option Nat :=
  let w := s.reg64 (0x31000 + 8 * b)
  let a := (w / 128 * 128) % 2 ^ 48
  let ok (h : Nat) : Bool := s.leMem h 8 == s.leMem (h + 8) 8
  if !bit w 0 then none
  else if ok a && ok (a + 64) then some (if s.leMem a 8 < s.leMem (a + 64) 8 then a + 64 else a)
  else if ok a then some a
  else if ok (a + 64) then some (a + 64)
  else none

/-- The offsets that the choice of a checkpoint's header reads. -/
def State.ckptOffs (s : State) (b : Nat) : List Nat :=
  let w := s.reg64 (0x31000 + 8 * b)
  let a := (w / 128 * 128) % 2 ^ 48
  if bit w 0 then (List.range 16).map (a + ·) ++ (List.range 16).map (a + 64 + ·) else []

/-- A value of saved cell state. -/
def State.cellSaved (s : State) (base n item k : Nat) : Nat :=
  ofLe ((List.range k).map fun j => s.byte (base + Config.cellSaved (n * 2 ^ 20 + item + j)))

/-- A plane of a cell from the checkpoint. -/
def State.planeSaved (s : State) (base n p : Nat) : Plane :=
  let at_ (k : Nat) : Nat := 0x10000 + 0x1000 * p + k
  let v := (s.cell n).plane p
  let v := (List.range 16).foldl (fun v i => v.setX i (s.cellSaved base n (at_ (8 * i)) 8)) v
  let v := (List.range 8).foldl (fun v i => v.setK i (s.cellSaved base n (at_ (0x100 + 4 * i)) 4)) v
  { v with flags := s.cellSaved base n (at_ 0x200) 1 }

/-- The offsets that a cell's saved state is read from. -/
def State.cellOffs (s : State) (base n : Nat) : List Nat :=
  let run (item k : Nat) : List Nat := (List.range k).map fun j => base + Config.cellSaved (n * 2 ^ 20 + item + j)
  run 0 0xC000 ++ ((List.range (s.factor n + 1)).flatMap fun p => run (0x10000 + 0x1000 * p) 0x80 ++ run (0x10100 + 0x1000 * p) 0x20 ++
    run (0x10200 + 0x1000 * p) 1) ++ run 0x20000 0x41

/-- The saved state of one cell: SRAM, registers, accumulators, FLAGS and APSN. -/
def State.restoreCell (base : Nat) (s : State) (n : Nat) : State :=
  let s := s.loadWords (s.cellOffs base n)
  let sram := (List.range 0xC000).map fun i => s.byte (base + Config.cellSaved (n * 2 ^ 20 + i))
  let c := s.cell n
  let c := (List.range (s.factor n + 1)).foldl (fun c p => c.setPlane p (s.planeSaved base n p)) c
  let c := (List.range 16).foldl (fun c i => c.setAcc i (s.cellSaved base n (0x20000 + 4 * i) 4)) c
  let c := { c with apsn := s.cellSaved base n 0x20040 1 % 2 == 1 }
  (s.setCell n c).setBytes (0x2100000000 + n * 0x10000) sram

/-- The saved counters of one context. -/
def State.restoreCx (b a : Nat) (s : State) (i : Nat) : State :=
  let get (f k : Nat) : Nat := ofLe ((List.range k).map fun j => s.byte (a + 64 * i + Config.ctxSaved (f + j)))
  let n := get 0 1
  let s := s.loadWords ((List.range 64).map fun j => a + 64 * i + Config.ctxSaved j)
  if n < 100 ∧ s.cxBind n = b then
    let s := ((s.setReg (cxB n + 0x1C) (get 8 4)).setReg (cxB n + 0x20) (get 16 4)).setReg96 (cxB n + 0x30) (get 32 12)
    if engineOf n = 6 then s.setReg (cxB n + 0x80) (get 48 4) else s
  else s

/-- A saved range is copied back. -/
def State.restoreRange (a : Nat) (s : State) (i : Nat) : State :=
  let e := a + 32 * i
  let s := s.loadWords ((List.range 24).map (e + ·))
  let r := s.readMem 17 (s.leMem (e + 8) 8 % 2 ^ 48) (s.leMem (e + 16) 8)
  r.1.writeMem 17 (s.leMem e 8) r.2.1 true r.2.2

/-- A binding's checkpoint is restored (R514, R518). -/
def State.restoreBind (s : State) (b : Nat) : State :=
  let s := s.loadWords (s.ckptOffs b)
  match s.ckptHeader b with
  | none => s
  | some h =>
    let s := s.loadWords ((List.range 48).map (h + ·))
    let s := (List.range (s.leMem (h + 0x18) 4)).foldl (State.restoreCx b (s.leMem (h + 0x10) 8 % 2 ^ 48)) s
    let s := (List.range (s.leMem (h + 0x1C) 4)).foldl (State.restoreRange (s.leMem (h + 0x20) 8 % 2 ^ 48)) s
    (s.bindCells b).foldl (State.restoreCell (s.leMem (h + 0x28) 8 % 2 ^ 48)) s

/-- Step 5: the registers outside the Lattice, and every binding with a checkpoint. -/
def State.chipRestore (s : State) : State :=
  let s := s.putBack fun o => !ofCell o
  ((List.range 255).map (1 + ·)).foldl State.restoreBind s

/-- The highest STEP in the log of a reduction context (R291). -/
def State.logTop (s : State) (n : Nat) : Option Nat :=
  let cfg := s.reg (cxB n + 0x88)
  let base := s.reg64 (cxB n + 0x80) % 2 ^ 48
  let top (m : Option Nat) (i : Nat) : Option Nat :=
    let e := base + i * (16 * fld cfg 23 8)
    if s.leMem (e + 8) 4 = 0 then m else some (max (m.getD 0) (s.leMem e 8))
  if s.reg64 (cxB n + 0x80) = 0 ∨ fld cfg 23 8 = 0 then none else (List.range (max 1 (fld cfg 7 0))).foldl top none

/-- The offsets that `logTop` reads. -/
def State.logOffs (s : State) (n : Nat) : List Nat :=
  let cfg := s.reg (cxB n + 0x88)
  let base := s.reg64 (cxB n + 0x80) % 2 ^ 48
  if s.reg64 (cxB n + 0x80) = 0 ∨ fld cfg 23 8 = 0 then []
  else (List.range (max 1 (fld cfg 7 0))).flatMap fun i => (List.range 12).map (base + i * (16 * fld cfg 23 8) + ·)

/-- Step 6: bindings run again; those whose reduction contexts have logged collectives are in replay (R516). -/
def State.chipReplay (s : State) : State :=
  let logs := ((List.range 4).map (52 + ·)).filterMap fun n =>
    if (s.ckptHeader (s.cxBind n)).isSome && s.cxBind n != 0 then (s.logTop n).map fun t => (n, t) else none
  let s := ((List.range 4).map (52 + ·)).foldl (fun s n => s.loadWords (s.logOffs n)) s
  let s := { s with rv := { s.rv with replaying := logs } }
  let s := if logs.isEmpty then s else s.forceFixed
  let s := (List.range 100).foldl (fun s n => s.setCxState n 0) s
  let ctrl := s.rv.snap.filter fun e => ofCell e.1 && e.1 % 0x400 == 0
  let s := ctrl.foldl (fun s e => s.setRb e.1 1 (bit e.2.toNat 1)) s
  (ctrl.filter fun e => bit e.2.toNat 0).foldl (fun s e => s.writeRun ((e.1 - 0x800000) / 0x400) true) s

/-- Step 7: the recovery is complete. -/
def State.chipEnd (s : State) : State :=
  let s := (((s.setRb 0x540000 1 false).event Code.RECOVERY_DONE).setReg 0x30030 ((s.clk.now - s.rv.chipFrom) / tus)).setReg 0x30004 0
  { s with rv := { s.rv with chip := none, snap := [] } }

/-- A step of a chip-level recovery completes; a failed one ends the attempt (R520). -/
def State.chipStep (s : State) (ok : Bool) : State :=
  match s.rv.chip with
  | none => s
  | some k =>
    let onward (s : State) : State := { s with rv := { s.rv with chip := some (k + 1) } }
    if 8 ≤ k then s
    else if !ok then s.faultInRecovery
    else if k = 1 then (onward s).chipReset
    else if k = 2 then onward s
    else if k = 3 then (onward s).chipConfig
    else if k = 4 then (onward s).chipRestore
    else if k = 5 then (onward s).chipReplay
    else if s.rv.replaying.isEmpty then s.chipEnd
    else s

/-- SCOPE_CHECK_COMPLETE, 0.5 ms after the reset: a scope that fails is left to a chip-level recovery. -/
def State.scopeCheck (s : State) (e : Nat) (ok : Bool) : State :=
  if s.rvOn e 2 && s.rv.step == 3 && decide (s.rv.stepFrom + 500 * tus ≤ s.clk.now) then
    (if ok then s.imgStart 4 else s.chipRecover)
  else s

/-! ### Replay and release (R505, R507, R511) -/

/-- The next active context is restored from its checkpoint and runs alone, with FORCE_FIXED set (R490). -/
def State.replayNext (s : State) (e : Nat) : State :=
  if !(s.rvOn e 3 && s.rv.replay.isNone) then s
  else
    match s.rv.suspects with
    | [] => s
    | n :: rest =>
      let s := { s with rv := { s.rv with suspects := rest } }
      match (s.cx n).ckpt with
      | none => s
      | some k =>
        let b := cxB n
        let s := (((s.setRf (b + 0x18) 12 0 k.head).setReg (b + 0x1C) k.consumed).setReg (b + 0x20) k.done).setReg96 (b + 0x30) k.ref
        let s := (if e = 6 then s.setReg (b + 0x80) k.rng else s).forceFixed
        let c := s.cx n
        let s := s.setCx n { c with loops := k.loops, phase := .ready, slot := k.head, ran := 0, ranAt := s.clk.now, timeout := 0, deadline := none
                                    waitq := none, cache := [], cmdMem := some s.mem.bytes, insMem := none
                                    atEnd := [], refWaits := [], pollHeld := false, discard := c.launched }
        ({ s with rv := { s.rv with replay := some n } }).rvStatus 3 |>.bpCheck 2 n k.head (s.cxBind n) s.sn

/-- A context goes back to itself: FAULTED if guilty, past its command if it was replayed, else as it was. -/
def State.freeCx (s : State) (n : Nat) : State :=
  let c := s.cx n
  let tgpa := engineOf n = 9 ∨ engineOf n = 10
  let blamed := (c.wasActive && c.prior == 4) || (c.guilty && !tgpa)
  let st := if blamed then 4 else if c.wasActive then (if tgpa then 1 else 0) else c.prior
  let timed := c.prior = 6
  let s := s.setCxState n st
  let s := s.setCx n { c with wasActive := false, prior := 0, ranAt := s.clk.now
                              guilty := c.guilty || (timed && tgpa), ran := if timed then 0 else c.ran
                              stopReq := if c.wasActive then 0 else c.stopReq }
  if !c.wasActive ∨ blamed then s
  else if bit c.stopReq 1 then s.cxReset n
  else
    let s := if bit c.stopReq 0 then s.setCxState n 3 else s
    if bit c.stopReq 2 then s.holdCx n else s

/-- Decisions still owed for frames claimed before the hang withdraw their replies (R511). -/
def State.withdrawOwed (s : State) (c : Nat) : State :=
  let k := s.pctx c
  let entries := (List.range 4).filter fun e => s.rb (paDec c e) 0
  let owed (f : PFrame) : Nat := if f.run = k.run then (entries.filter fun e => !f.decided.contains e).length else 0
  let mark (f : PFrame) : PFrame := { f with decided := entries.foldl NatSet.insert f.decided }
  let s := s.inc64 (paCnt c 3) (k.frames.map owed).sum
  (s.setPctx c { k with frames := k.frames.map mark }).paPrune c

/-- Stream state could not be restored: every context of TG or PA is reset, and its streams stay stopped. -/
def State.unrestored (s : State) (e : Nat) : State :=
  let s := (engList e).foldl (fun s n => s.cxReset n) (s.inc 0x30034)
  if e = 10 then (List.range 4).foldl (fun s k => s.setStrm k { s.strm k with running := false, stopping := false }) s
  else (List.range 4).foldl (fun s c => s.setPctx c { s.pctx c with running := false, stopping := false }) s

/-- ENGINE_RELEASE. -/
def State.engRelease (s : State) (e : Nat) : State :=
  if !(s.rvOn e 3 && s.rv.replay.isNone && s.rv.suspects.isEmpty && s.rv.late.isNone) then s
  else
    let unread := s.rv.unread
    let s := if s.rv.guilty then s else s.inc 0x30028
    let s := { s with rv := { s.rv with queue := s.rv.queue.drop 1, snap := s.rv.snap.filter fun x => engAt x.1 != some e } }
    let s := if s.rv.replaying.isEmpty then s.unforce else s
    let s := (engList e).foldl State.freeCx (s.setRb (engB e + 4) 1 false)
    let s := if e = 9 then (List.range 4).foldl State.withdrawOwed s else s
    let s := if (e = 9 ∨ e = 10) ∧ unread then s.unrestored e else s
    (s.rvBegin).repause

/-! ### Failed cells (R512) -/

/-- The pattern test of a cell ends. -/
def State.cellTested (s : State) (n : Nat) (ok : Bool) : State :=
  if !s.rv.suspectCells.contains n then s
  else
    let s := { s with rv := { s.rv with suspectCells := s.rv.suspectCells.filter fun m => m != n } }
    if ok then s else ((s.setRb (clB n + 4) 2 true).event Code.CELL_SPARED n).lfCount 0x2C

/-! ### The commands -/

/-- CMD_TIMEOUT (R263, R496, R507). -/
def execCmdTimeout (t : Tick) (ctx : Nat) (s : State) : Result :=
  let s := s.advanceTo t
  .next (if ctx < 100 ∧ s.overdue ctx then s.cmdTimeUp ctx else s)

/-- ENGINE_DRAIN_COMPLETE (R500). -/
def execEngineDrainComplete (t : Tick) (eng : Nat) (s : State) : Result := .next ((s.advanceTo t).drainDone eng)

/-- ENGINE_DRAIN_BOUND_EXPIRY (R501). -/
def execEngineDrainBoundExpiry (t : Tick) (eng : Nat) (s : State) : Result := .next ((s.advanceTo t).drainExpire eng)

/-- SCAN_UNIT_TIMEOUT (R503). -/
def execScanUnitTimeout (t : Tick) (unit : Nat) (s : State) : Result := .next ((s.advanceTo t).scanTimeout unit)

/-- DUMP_IMAGE_COMPLETE (R503, R504, R584). -/
def execDumpImageComplete (t : Tick) (units : List (Nat × List Byte)) (s : State) : Result :=
  let s := s.advanceTo t
  .next (if s.imaging then s.imageDone units else s)

/-- SCOPE_RESET_COMPLETE (R501). -/
def execScopeResetComplete (t : Tick) (eng : Nat) (s : State) : Result := .next ((s.advanceTo t).scopeReset eng)

/-- SCOPE_CHECK_COMPLETE (R501). -/
def execScopeCheckComplete (t : Tick) (eng : Nat) (ok : Bool) (s : State) : Result := .next ((s.advanceTo t).scopeCheck eng ok)

/-- CONTEXT_REPLAY_START (R505, R507). -/
def execContextReplayStart (t : Tick) (eng : Nat) (s : State) : Result := .next ((s.advanceTo t).replayNext eng)

/-- ENGINE_RELEASE (R507, R511). -/
def execEngineRelease (t : Tick) (eng : Nat) (s : State) : Result := .next ((s.advanceTo t).engRelease eng)

/-- CELL_PATTERN_TEST (R512). -/
def execCellPatternTest (t : Tick) (cellA cellB : Nat) (okA okB : Bool) (s : State) : Result :=
  .next (((s.advanceTo t).cellTested cellA okA).cellTested cellB okB)

/-- CHIP_RECOVER (R519, R523). -/
def execChipRecover (t : Tick) (s : State) : Result := .next (s.advanceTo t).chipRecover

/-- CHIP_RECOVERY_PHASE_COMPLETE (R519, R520). -/
def execChipRecoveryPhaseComplete (t : Tick) (ok : Bool) (s : State) : Result := .next ((s.advanceTo t).chipStep ok)

end Sys2Proof.Machine
end

