-- ==== Sys2Proof/Machine/Debug.lean ====
section
/-! DEFINITION. The test access port, debug requests, halting and stepping, time breakpoints, dumps on demand, and WAITT
deadlines (R74, R572 to R584, R591). -/

namespace Sys2Proof.Machine

/-! ### The test access port (R572, R573) -/

/-- The identification register: the fixed 1, the fused manufacturer, the part number and the stepping. -/
def State.idcode (s : State) : Nat := 1 + s.fuse.mfr % 2048 * 2 + 0x5197 * 2 ^ 12 + s.fuse.stepping % 16 * 2 ^ 28

/-- An instruction is loaded and a data register selected. -/
def State.tapSelect (s : State) (ir dr : Nat) : State := { s with dbg := { s.dbg with ir := ir, dr := dr } }

/-- What the boundary register captures: levels of the balls, in a cell order the manual leaves to the BSDL file (log
entry 2). -/
def State.tapBoundary (s : State) (ir dr : Nat) : State :=
  let v := s.freeVal
  let s := s.useFree.tapSelect ir v
  { s with dbg := { s.dbg with preload := dr } }

/-- The test access port is powered with PW00. -/
def State.tap (s : State) (f : State → State) : State := if s.pin.aon then f s else s

/-! ### DBGREQ (R574, R575) -/

/-- Every enabled group of four bytes is enabled whole. -/
def groupsWhole (be : Nat) : Bool := (List.range 4).all fun g => let v := fld be (4 * g + 3) (4 * g); v == 0 || v == 15

/-- A local offset lies in the register window. -/
def Target.isRegs : Target → Bool
  | .regs _ => true
  | _ => false

/-- The last access ended in an error. -/
def State.debugError (s : State) (code : Nat) : State :=
  { s with dbg := { s.dbg with pending := none, status := 2, data := BitVec.ofNat 128 code } }

/-- Update-DR starts an access, unless one is pending. -/
def State.debugStart (s : State) (addr : Nat) (data : QWord) (be : Nat) (write : Bool) : State :=
  if s.dbg.pending.isSome then s
  else if addr % 16 ≠ 0 then s.debugError Code.MISALIGNED
  else if s.isLocal addr && (s.target (addr % 2 ^ 48)).isRegs && !groupsWhole be then s.debugError Code.MISALIGNED
  else
    let r : MemReq := { id := 0, issuer := .debug, addr := addr, write := write, len := if write then 0 else 16
                        data := if write then leBytes 16 data.toNat else [], enable := some (be % 65536) }
    { s.issue r with dbg := { s.dbg with pending := some s.mem.nextId, status := 1 } }

/-- The bytes a read returns; a byte that did not take part is a free value (log entry 2). -/
def State.debugBytes (s : State) (be : Nat) (l : List Byte) : List Byte :=
  let free := leBytes 8 s.freeVal ++ leBytes 8 s.useFree.freeVal
  (List.range 16).map fun k => if bit be k then l.getD k 0 else free.getD k 0

/-- The access has been answered. -/
def State.debugDone (s : State) : State :=
  match s.dbg.pending with
  | none => s
  | some id =>
    match s.mem.answers.find? fun a => a.req.issuer == .debug && a.req.id == id with
    | none => s
    | some a =>
      let s := { s with mem := { s.mem with answers := s.mem.answers.filter fun x => x.req.id != id } }
      if a.code ≠ 0 then s.debugError (answerFault a.code)
      else
        let be := a.req.enable.getD 65535
        let v := if a.req.write then s.dbg.data else BitVec.ofNat 128 (ofLe (s.debugBytes be a.data))
        let s := if a.req.write ∨ be = 65535 then s else s.useFree 2
        { s with dbg := { s.dbg with pending := none, status := 0, data := v } }

/-! ### HALT, GO and STEP (R577 to R580, R591) -/

/-- KIND of a command: 0 = cell plane; 1 = context; 2 = binding; 3 = part. -/
def dbKind (v : Nat) : Nat := fld v 3 2

/-- The context of DB_TARGET belongs to an engine that Clove holds: the command is refused. -/
def State.dbRefused (s : State) (v : Nat) : Bool :=
  dbKind v == 1 && s.rv.queue.contains (engineOf (s.rf 0x50008 12 0))

/-- DB_TSTATE: what the target is, and whether the command was refused. -/
def State.dbMark (s : State) (v : Nat) (refused : Bool) : State :=
  s.setReg 0x5000C (16 * b2n (dbKind v == 1) + if refused then 3 else 0)

/-- Apply a command to the planes and contexts its KIND names. -/
def State.dbApply (s : State) (v : Nat) (plane : State → Nat → Nat → State) (ctx : State → Nat → State) : State :=
  let n := s.rf 0x50008 12 0
  let p := s.rf 0x50008 14 13
  let b := s.rf 0x50008 23 16
  let units (cell cx : Nat → Bool) : State :=
    let cells := (s.lat.cells.map Prod.fst).filter cell
    let cxs := (s.eng.ctxs.map Prod.fst).filter cx
    let s := cells.foldl (fun s n => (List.range 4).foldl (fun s p => plane s n p) s) s
    cxs.foldl ctx s
  match dbKind v with
  | 0 => if s.cellOn n then plane s n p else s
  | 1 => if n < 100 ∧ s.engOn (engineOf n) then ctx s n else s
  | 2 => units (fun n => s.clBind n == b) fun n => s.cxBind n == b
  | _ => units (fun _ => true) fun _ => true

/-- HALT. -/
def State.dbHalt (s : State) (v : Nat) : State :=
  if s.dbRefused v then s.dbMark v true
  else
    let s := s.dbMark v false
    let s := match dbKind v with
      | 2 => s.haltBind (s.rf 0x50008 23 16)
      | 3 => s.haltPart
      | _ => s.dbApply v State.haltPlane State.haltCx
    s.freeze (bit v 4)

/-- GO. -/
def State.dbGo (s : State) (v : Nat) : State :=
  if s.dbRefused v then s.dbMark v true
  else ((s.dbMark v false).dbApply v (fun s n p => if ((s.cell n).plane p).dbg then s.goPlane n p else s)
    fun s n => s.goCx n).repause

/-- STEP. -/
def State.dbStep (s : State) (v : Nat) : State :=
  if s.dbRefused v then s.dbMark v true else (s.dbMark v false).dbApply v State.stepPlane State.stepCx

/-! ### Dumps on demand (R584) -/

/-- The present engine with a TYPE and an INSTANCE. -/
def State.engNamed (s : State) (type inst : Nat) : Option Nat :=
  (List.range 15).find? fun e => engType e == type && engInst e == inst && s.engOn e

/-- DB_DUMP is written. -/
def State.dbDump (s : State) (v : Nat) : State :=
  if !bit v 8 then s
  else
    let refuse (s : State) : State := s.setRf 0x5000C 1 0 3
    match s.engNamed (fld v 3 0) (fld v 7 4) with
    | none => refuse s
    | some e =>
      if ((engList e).all fun n => s.cxState n == 0 || (s.cx n).dbg) && s.rv.queue.isEmpty && s.rv.chip.isNone && s.rv.demand.isNone then
        { s.setRf 0x5000C 1 0 0 with rv := { s.rv with demand := some e, imgAt := s.sn, stepFrom := s.clk.now, units := [] } }
      else refuse s

/-! ### Time breakpoints (R582) -/

/-- A TYPE 5 breakpoint fires once, at an instant of its window. -/
def State.bpTime (s : State) (n : Nat) : State :=
  if n < 16 && s.rf (bpB n) 2 0 == 5 && s.bpWindow n s.sn && !s.dbg.fired.contains n then
    ({ s with dbg := { s.dbg with fired := NatSet.insert s.dbg.fired n } }).bpMatch n 5 0
  else s

/-! ### The commands -/

/-- EXTEST (R573). -/
def execExtest (t : Tick) (dr : Nat) (s : State) : Result := .next ((s.advanceTo t).tap fun s => s.tapBoundary 0x00 dr)
/-- IDCODE (R572). -/
def execIdcode (t : Tick) (_dr : Nat) (s : State) : Result := .next ((s.advanceTo t).tap fun s => s.tapSelect 0x01 s.idcode)
/-- SAMPLE_PRELOAD (R572). -/
def execSamplePreload (t : Tick) (dr : Nat) (s : State) : Result := .next ((s.advanceTo t).tap fun s => s.tapBoundary 0x02 dr)
/-- CLAMP (R573). -/
def execClamp (t : Tick) (dr : Nat) (s : State) : Result := .next ((s.advanceTo t).tap fun s => s.tapSelect 0x03 (dr % 2))
/-- HIGHZ (R573). -/
def execHighz (t : Tick) (dr : Nat) (s : State) : Result := .next ((s.advanceTo t).tap fun s => s.tapSelect 0x04 (dr % 2))
/-- BYPASS (R572). -/
def execBypass (t : Tick) (dr : Nat) (s : State) : Result := .next ((s.advanceTo t).tap fun s => s.tapSelect 0xFF (dr % 2))
/-- TAP_RESET (R572). -/
def execTapReset (t : Tick) (s : State) : Result := .next ((s.advanceTo t).tapSelect 0x01 (s.advanceTo t).idcode)

/-- DBGREQ (R574, R575). -/
def execDbgreq (t : Tick) (addr : DWord) (data : QWord) (byteEn : Nat) (write : Bool) (s : State) : Result :=
  .next ((s.advanceTo t).tap fun s =>
    let s := { s with dbg := { s.dbg with ir := 0x10 } }
    if s.inReset then s else s.debugStart addr.toNat data byteEn write)

/-- DEBUG_ACCESS_COMPLETE (R575). -/
def execDebugAccessComplete (t : Tick) (s : State) : Result := .next (s.advanceTo t).debugDone

/-- DB_HALT (R577 to R580). -/
def execDbHalt (t : Tick) (value : Word) (s : State) : Result :=
  let r := (s.advanceTo t).written 0x50004 value.toNat
  .next (r.1.dbHalt r.2)
/-- DB_GO (R577, R578). -/
def execDbGo (t : Tick) (value : Word) (s : State) : Result :=
  let r := (s.advanceTo t).written 0x50004 value.toNat
  .next (r.1.dbGo r.2)
/-- DB_STEP (R577, R578). -/
def execDbStep (t : Tick) (value : Word) (s : State) : Result :=
  let r := (s.advanceTo t).written 0x50004 value.toNat
  .next (r.1.dbStep r.2)
/-- DB_DUMP (R584). -/
def execDbDump (t : Tick) (value : Word) (s : State) : Result :=
  let r := (s.advanceTo t).written 0x50018 value.toNat
  .next (r.1.dbDump r.2)
/-- BREAKPOINT_TIME_MATCH (R582). -/
def execBreakpointTimeMatch (t : Tick) (bp : Nat) (s : State) : Result := .next ((s.advanceTo t).bpTime bp)

/-- WAITT_DEADLINE (R74). -/
def execWaittDeadline (t : Tick) (who : Waiter) (s : State) : Result :=
  let s := s.advanceTo t
  .next (match who with
    | .cell n => s.runCell n (fun o => o == 0x43) waittEval
    | .context n => s.cxRun n (fun o => o == 0x03) false waittSem)

end Sys2Proof.Machine
end

