-- ==== Sys2Proof/Machine/Life.lean ====
section
/-! DEFINITION. The lifetime log: samples, counts, the cumulative image and the minute records (R585 to R590). -/

namespace Sys2Proof.Machine

/-! ### Samples (R586) -/

/-- Image offset of a bin. -/
def tjBin (t : Int) : Nat := 0x100 + 8 * (if t < -40 then 0 else if 126 ≤ t then 167 else (t + 41).toNat)
def vcBin (v : Nat) : Nat := 0x640 + 8 * (if 500 ≤ v ∧ v < 825 then (v - 500) / 5 else 65)
def slBin (m : Int) : Nat := 0x850 + 8 * (clamp 0 63 (m.fdiv 64 + 16)).toNat

/-- Add one to a bin. -/
def Lf.bump (l : Lf) (o : Nat) : Lf := { l with hist := Sparse.set (fun _ => 0) l.hist o (Sparse.get (fun _ => 0) l.hist o + 1) }

/-- What a minute record's FLAGS reports of the present. -/
def State.lfFlags (s : State) : Nat :=
  b2n (s.rb 0x1E000 22) + 2 * b2n ((List.range 16).any fun k => s.rb (dmB k) 3) + 4 * b2n s.pwr.slackOut + 8 * b2n (s.rb 0x1E000 21) +
  16 * b2n s.rv.chip.isSome

/-- The sample of 100 µs, while VDD_CORE is present. -/
def State.lfSample (s : State) (tj : Int) (vc : Nat) (sl : Int) : State :=
  if s.vdd = 0 ∨ s.inReset then s
  else
    let l := ((s.lf.bump (tjBin tj)).bump (vcBin vc)).bump (slBin sl)
    { s with lf := { l with tjMax := max l.tjMax tj, tjMin := min l.tjMin tj, vMax := max l.vMax vc, vMin := min l.vMin vc
                            slackMin := min l.slackMin sl, flags := Nat.lor l.flags s.lfFlags } }

/-! ### The window (R585, R588) -/

/-- BAR0 offset of a copy of the image: 0 = A; 1 = B. -/
def lfCopy (c : Nat) : Nat := 0x1001000 + 0x1000 * c
/-- The current copy. -/
def State.lfCur (s : State) : Nat := s.rf 0x1000000 0 0

/-- Bytes of a register window. -/
def State.regBytes (s : State) (o : Nat) (words : Nat) : List Byte := (List.range words).flatMap fun i => leBytes 4 (s.reg (o + 4 * i))

/-- Store bytes, whole words, to a register window. -/
def State.putBytes (s : State) (o : Nat) (l : List Byte) : State :=
  (List.range (l.length / 4)).foldl (fun s i => s.setReg (o + 4 * i) (leAt l (4 * i) 4)) s

/-- A 4-byte or 8-byte count of the image. -/
def lfWide (off : Nat) : Bool := within 0x30 0x50 off || decide (0x100 ≤ off)

/-- A count of a copy plus what the accumulators hold, saturating. -/
def State.lfSum (s : State) (off : Nat) : Nat :=
  let b := lfCopy s.lfCur + off
  let add := Sparse.get (fun _ => 0) s.lf.cnt off + Sparse.get (fun _ => 0) s.lf.hist off
  if lfWide off then min (2 ^ 64 - 1) (s.reg64 b + add) else min (2 ^ 32 - 1) (s.reg b + add)

/-- Counts of the image, in order: 4-byte ones, and 8-byte ones. -/
def lfOff32 : List Nat := [0x20, 0x24, 0x28, 0x2C] ++ (List.range 9).map (fun i => 0x50 + 4 * i) ++ [0x74] ++ (List.range 16).map (fun i => 0x80 + 4 * i) ++ [0xC0]
def lfOff64 : List Nat := (List.range 4).map (fun i => 0x30 + 8 * i) ++ (List.range 168).map (fun i => 0x100 + 8 * i) ++
  (List.range 66).map (fun i => 0x640 + 8 * i) ++ (List.range 64).map (fun i => 0x850 + 8 * i)

/-- Fold the accumulators into the copy that is not current. -/
def State.lfFold (s : State) : State :=
  let b := lfCopy (1 - s.lfCur)
  let agg := s.reg64 (lfCopy s.lfCur + 8) + 1
  let t := (((s.setReg b 0x474C464C).setReg (b + 4) 1).setReg64 (b + 8) agg).setReg96 (b + 0x10) (pack96 s.sn)
  let t := lfOff32.foldl (fun t o => t.setReg (b + o) (s.lfSum o)) t
  let t := lfOff64.foldl (fun t o => t.setReg64 (b + o) (s.lfSum o)) t
  t.setReg64 (b + 0xFF8) (ofLe (shake256 (t.regBytes b 1022) 8))

/-- An increase over the interval, saturating at `w` bytes. -/
def State.lfInc (s : State) (w : Nat) (offs : List Nat) : List Byte :=
  leBytes w (min (256 ^ w - 1) ((offs.map (Sparse.get (fun _ => 0) s.lf.cnt)).sum))

/-- The minute record.  An interval without a sample has no extremes, and one without a reading no mean: free values
(log entry 2). -/
def State.minuteRecord (s : State) (agg : Nat) : List Byte :=
  let l := s.lf
  let none_ := l.hist.isEmpty
  let f (k : Nat) : Nat := (Config.freeValue (s.free + k)).toNat
  let pick (k v : Nat) : Nat := if none_ then f k else v
  let dur := max 1 (min 60 ((s.clk.now - l.from_) / tsec))
  leBytes 8 agg ++ leBytes 12 (pack96 s.sn) ++ leBytes 1 (pick 0 (ofSigned 8 l.tjMax)) ++ leBytes 1 (pick 1 (ofSigned 8 l.tjMin)) ++
  leBytes 1 l.dramMax ++ leBytes 1 (Nat.lor l.flags s.lfFlags) ++ leBytes 2 (pick 2 l.vMin) ++ leBytes 2 (pick 3 l.vMax) ++
  leBytes 2 (pick 4 (ofSigned 16 l.slackMin)) ++ leBytes 2 dur ++ s.lfInc 4 [0x30] ++ s.lfInc 4 ((List.range 16).map fun i => 0x80 + 4 * i) ++
  s.lfInc 4 [0x38] ++ s.lfInc 2 [0x40] ++ s.lfInc 2 [0x48] ++ s.lfInc 2 ((List.range 9).map fun i => 0x50 + 4 * i) ++ s.lfInc 2 [0x2C] ++
  leBytes 2 (if l.pNum = 0 then f 5 else rneDiv l.pSum (l.pNum * 1000)) ++ List.replicate 10 0

/-- An aggregation: the image, then the record, then a new interval.  A write that fails its read-back leaves the current
copy and the accumulators (R590). -/
def State.aggregate (s : State) (ok : Bool) : State :=
  if !ok then ({ s with lf := { s.lf with from_ := s.clk.now } }).setRb 0x1000000 2 true
  else
    let agg := s.reg64 (lfCopy s.lfCur + 8) + 1
    let i := s.rf 0x1000008 16 0 % 114688
    let l := s.minuteRecord agg
    let t := (s.lfFold.putBytes (0x1100000 + 64 * i) l).setReg 0x1000008 ((i + 1) % 114688)
    let t := (t.setRf 0x1000000 0 0 (1 - s.lfCur)).useFree 6
    { t with lf := { from_ := s.clk.now } }

/-! ### The commands -/

/-- LIFETIME_SAMPLE (R586). -/
def execLifetimeSample (t : Tick) (junction : Int) (vcore : Nat) (slack : Int) (s : State) : Result :=
  .next ((s.advanceTo t).lfSample junction vcore slack)

/-- LIFETIME_AGGREGATE (R586, R590): 60 s after the last one. -/
def execLifetimeAggregate (t : Tick) (writeOk : Bool) (s : State) : Result :=
  let s := s.advanceTo t
  .next (if s.lf.from_ + 60 * tsec ≤ s.clk.now ∧ !s.inReset then s.aggregate writeOk else s)

/-- AGG_NOW (R586). -/
def execAggNow (t : Tick) (writeOk : Bool) (s : State) : Result :=
  let s := s.advanceTo t
  .next (if s.inReset then s else s.aggregate writeOk)

end Sys2Proof.Machine
end

