-- ==== Sys2Proof/Machine/Secure.lean ====
section
/-! DEFINITION. Measurement and attestation, FIXED_ONLY and DET_SIG, start-up, and the sideband (R236, R249, R481, R495,
R556 to R567, R570, R571, R608). -/

namespace Sys2Proof.Machine

/-! ### The measurement log (R564, R565) -/

/-- BAR0 offset of a measurement log entry. -/
def measR (b : Nat) : Nat := 0x41000 + 48 * b

/-- SE_STATUS.MEAS_BUSY and ATT_BUSY. -/
def State.measBusy (s : State) : Bool := s.rb 0x40000 3
def State.attBusy (s : State) : Bool := s.rb 0x40000 4

/-- SE_MEAS_CTRL.GO: a measurement starts, unless one is in progress. -/
def State.measGo (s : State) (v : Nat) : State :=
  let s := s.setRf 0x4008C 15 0 v
  if s.measBusy then s
  else { s.setRb 0x40000 3 true with se := { s.se with meas := some (fld v 7 0, fld v 15 8, s.reg64 0x40080, s.reg 0x40088) } }

/-- SE_MEAS_CTRL.CLEAR: the entry is emptied. -/
def State.measClear (s : State) (v : Nat) : State := (s.setRf 0x4008C 15 0 v).putBytes (measR (fld v 7 0)) (List.replicate 48 0)

/-- The measured bytes: those of this chip's memory; what lies on another chip is a free value here (log entry 2). -/
def State.measBytes (s : State) (a n : Nat) : State × List Byte :=
  if s.isLocal a then let r := s.readMem 17 (a % 2 ^ 48) n; (r.1, r.2.1)
  else (s.useFree n, (List.range n).map fun i => BitVec.ofNat 8 (Config.freeValue (s.free + i)).toNat)

/-- A measurement completes, unless its last reads wait for a refresh window (R71): the entry holds BIND_ID, EPOCH, the time and the digest. -/
def State.measDone (s : State) : State :=
  match s.se.meas with
  | none => s
  | some (b, e, a, n) =>
    if s.isLocal a ∧ s.rangeHeld (a % 2 ^ 48) n then s.unitHeld unitMeas (a % 2 ^ 48) n
    else
    let r := s.measBytes a n
    let l := leBytes 1 b ++ leBytes 1 e ++ List.replicate 6 0 ++ leBytes 8 (pack96 s.sn) ++ shake256 r.2 32
    let s := (r.1.putBytes (measR b) l).setRb 0x40000 3 false
    { s with se := { s.se with meas := none } }

/-! ### Attestation (R565, R567) -/

/-- The entries of the report: the non-empty ones in ascending BIND_ID. -/
def State.measEntries (s : State) : List (List Byte) :=
  ((List.range 256).map fun b => s.regBytes (measR b) 12).filter fun l => l.any fun x => x != 0

/-- The report up to its signature. -/
def State.attBody (s : State) : List Byte :=
  let es := s.measEntries
  let sig := s.regBytes 0x40 2
  leBytes 4 1 ++ leBytes 2 s.chip ++ leBytes 2 es.length ++ leBytes 4 (s.cap 3) ++ leBytes 4 (s.reg 0x40004) ++ leBytes 12 (pack96 s.sn) ++
  List.replicate 4 0 ++ sig ++ List.replicate 8 0 ++ s.regBytes 0x40090 8 ++ s.regBytes 0x40020 8 ++ shake256 sig 32 ++
  shake256 (s.regBytes (lfCopy s.lfCur) 64) 32 ++ idPublicKey ++ es.flatten

/-- SE_ATT_CTRL.GO: a report is built from the state at this instant and written. -/
def State.attGo (s : State) : State :=
  if s.attBusy then s
  else if s.fuse.zeroised ∨ !s.rb 0x40000 2 then s.setRf 0x400BC 1 0 3
  else
    let body := s.attBody
    let l := body ++ idSign body Config.attContext
    let a := s.reg64 0x400B0
    let s := ((s.setRb 0x40000 4 true).setRf 0x400BC 1 0 1).post .firmware a l
    { s with se := { s.se with att := some (l, a) } }

/-- A write of the firmware's in a range of global addresses is not yet visible. -/
def State.fwWrites (s : State) (a n : Nat) : Bool :=
  let hit (r : MemReq) : Bool := r.write && r.issuer == .firmware && decide (r.addr < a + n) && decide (a < r.addr + r.data.length)
  (s.mem.inflight.any hit) || s.nen.outst.any fun o => hit o.req

/-- The report's last byte is visible. -/
def State.attDone (s : State) : State :=
  match s.se.att with
  | none => s
  | some (l, a) =>
    if s.fwWrites a l.length then s
    else
      let s := ((s.setRb 0x40000 4 false).setRf 0x400BC 1 0 2).setRf 0x400BC 31 16 (leAt l 6 2)
      { s with se := { s.se with att := none } }

/-! ### DET_SIG (R481, R495) -/

/-- Some binding holds a resource of the part: a cell, a context or a region. -/
def State.partBound (s : State) : Bool :=
  (s.regs.any fun e => within 0x800000 0xE40000 e.1 && e.1 % 0x400 == 8 && fld e.2.toNat 15 8 != 0) ||
  ((List.range 100).any fun n => s.cxBind n != 0) ||
  (List.range 64).any fun n => s.rb (rgB n + 0x10) 0 && s.rf (rgB n + 0x10) 15 8 != 0

/-- A write of FIXED_ONLY. -/
def State.fixedOnly (s : State) (on : Bool) : State :=
  if s.partBound then s else (s.setRb 0x48 18 on).setRb 0x48 31 true

/-- DET_SIG over the bytes of GL_DET_SET with SIG_BUSY taken as 0. -/
def State.detSig (s : State) : Nat := ofLe (shake256 (leBytes 4 (s.rf 0x48 30 0)) 8)

/-- The signature has been computed. -/
def State.detDone (s : State) : State :=
  if s.rb 0x48 31 then (s.setReg64 0x40 s.detSig).setRb 0x48 31 false else s

/-! ### The sideband (R560, R608) -/

/-- A transaction at the target address rewrites SPI NOR bytes from an offset on.  The manual gives the boot configuration
and the firmware image no layout, so what a rewrite changes in them is a free value (log entry 2). -/
def State.smbus (s : State) (a : Nat) (l : List Byte) : State :=
  let end_ := a + l.length
  let nor := l.zipIdx.foldl (fun m x => Sparse.set (fun _ => 0) m (a + x.2) x.1) s.fuse.nor
  let s := { s with fuse := { s.fuse with nor := nor } }
  let s := if a < 0x1000000 then { s.useFree with fuse := { s.fuse with fwSvn := s.freeVal } } else s
  if 0x1000000 < end_ ∧ a < 0x1001000 then
    let n := s.fuse.boot.length
    let boot := s.fuse.boot.zipIdx.map fun x => (x.1.1, BitVec.ofNat 32 (Config.freeValue (s.free + x.2)).toNat)
    let host := (Config.freeValue (s.free + n)).toNat % 2 == 1
    { s.useFree (n + 1) with fuse := { s.fuse with boot := boot, hostless := host } }
  else s

/-! ### The commands -/

/-- MEAS_GO (R564). -/
def execMeasGo (t : Tick) (value : Word) (s : State) : Result :=
  let r := (s.advanceTo t).written 0x4008C value.toNat
  .next (r.1.measGo r.2)
/-- MEAS_CLEAR (R564). -/
def execMeasClear (t : Tick) (value : Word) (s : State) : Result :=
  let r := (s.advanceTo t).written 0x4008C value.toNat
  .next (r.1.measClear r.2)
/-- MEASUREMENT_COMPLETE (R564). -/
def execMeasurementComplete (t : Tick) (s : State) : Result := .next (s.advanceTo t).measDone
/-- ATT_GO (R565). -/
def execAttGo (t : Tick) (s : State) : Result := .next (s.advanceTo t).attGo
/-- ATTESTATION_COMPLETE (R565). -/
def execAttestationComplete (t : Tick) (s : State) : Result := .next (s.advanceTo t).attDone
/-- FIXED_ONLY_WRITE (R481). -/
def execFixedOnlyWrite (t : Tick) (on : Bool) (s : State) : Result := .next ((s.advanceTo t).fixedOnly on)
/-- DET_SIG_COMPUTED (R481). -/
def execDetSigComputed (t : Tick) (s : State) : Result := .next (s.advanceTo t).detDone
/-- SMBUS_TRANSACTION (R608). -/
def execSmbusTransaction (t : Tick) (addr : Nat) (data : List Byte) (s : State) : Result :=
  let s := s.advanceTo t
  .next (if s.inReset then s else s.smbus addr data)

end Sys2Proof.Machine
end

