-- ==== Sys2Proof/Machine/RegBus.lean ====
section
/-! DEFINITION. Writing a register: stored bits, W1C bits, and the bits that act (R13 to R16, R228, R527).  A bit that
acts calls the operation of the command that the table lists for it. -/

namespace Sys2Proof.Machine

/-! ### Storing -/

/-- Store the bits `m` of `v` in a register. -/
def State.storeBits (s : State) (o m v : Nat) : State := s.setReg o (mixBits m (s.reg o) v)

/-- A written value that must not be 0 (a write of 0 sets 1). -/
def noZero (v : Nat) : Nat := if v = 0 then 1 else v

/-! ### The chip: GL, PW, TB, RV, SE, DB, HI, LF -/

/-- PW_CTRL, PW_LIMIT and PW_FLOOR_BIND (R550, R553, R554, R557, R568, R569). -/
def State.actPW (s : State) (o v : Nat) : State :=
  if o < 0x1E000 then
    let d := (o - 0x10000) / 0x100
    let s := s.pwOn d (bit v 0)
    if bit v 2 then s.resetDom d else s
  else if o = 0x1E008 then s.pwLimit v
  else s.floorBind ((o - 0x1F000) / 4) v

/-- TB_DOM_CFG (R78); writes of SRC, PORT and PROFILE of the selected domain are ignored (R48). -/
def State.actDom (s : State) (d : Dom) (v : Nat) : State :=
  let was := s.rb (domB d) 0
  let s := if s.selDom = d then s else s.storeBits (domB d) 0x3FE v
  let s := if was == bit v 0 then s.acquire d else s.enableDom d (bit v 0)
  if bit v 10 then s.reacquireDom d else s

/-- TB_CTRL and the other acting registers of TB (R75, R76).  DESIGN CHOICE: a WIDTH of TB_PPS_CFG outside 1 to 999,999
takes the nearer end of its range (log entry 96). -/
def State.actTB (s : State) (o old v : Nat) : State :=
  if o = 0x20000 then
    let s := if bit v 2 && !bit old 2 then { s with clk := { s.clk with ppsOutSec := s.sn / tsec } } else s
    let s := if s.domSt .a = 0 ∧ s.domSt .b = 0 then s.setRb o 3 (bit v 3) else s
    s.selWrite (if bit v 0 then .b else .a)
  else if o = 0x2000C then s.keepTime.setReg o (max 1 (min 1000 v))
  else if o = domB .a then s.actDom .a v
  else if o = domB .b then s.actDom .b v
  else if o = 0x200C0 then s.setReg o (max 1 (min 999999 v))
  else { s.setReg o v with clk := { s.clk with ppsFresh := true } }

/-- RV_CTRL, the bounds, RV_LDRAIN (R513, R519, R523). -/
def State.actRV (s : State) (o v : Nat) : State :=
  if o = 0x30000 then (if bit v 0 then s.chipRecover else s)
  else if o = 0x30038 then
    if bit v 8 then s.ldrainStart (fld v 7 0) else if s.rb o 9 then s else s.setRf o 7 0 v
  else s.setReg o (noZero v)

/-- SE_MEAS_CTRL and SE_ATT_CTRL (R564, R565). -/
def State.actSE (s : State) (o v : Nat) : State :=
  if o = 0x400B8 then (if bit v 0 then s.attGo else s)
  else
    let s := if bit v 17 then s.measClear v else s
    if bit v 16 then s.measGo v else s

/-- DB_CMD, DB_DUMP and the breakpoints (R582, R591, R592). -/
def State.actDB (s : State) (o v : Nat) : State :=
  if o = 0x50004 then
    match fld v 1 0 with
    | 0 => s.dbHalt v
    | 1 => s.dbGo v
    | 2 => s.dbStep v
    | _ => s
  else if o = 0x50018 then s.dbDump v
  else
    let n := (o - 0x50100) / 0x40
    let on := s.rf (bpB n) 2 0 != 0
    if o = bpB n then
      let s := s.setReg o v
      if !on && fld v 2 0 != 0 then
        { s with dbg := { s.dbg with matches_ := Sparse.set (fun _ => 0) s.dbg.matches_ n 0
                                     fired := s.dbg.fired.filter fun k => k != n } }
      else s
    else if on then s else s.setReg o v

/-- A ring's CFG and NEXT (R529, R547, R548). -/
def State.actRing (s : State) (r o : Nat) (w : RegWord) (v : Nat) : State :=
  let on := s.ringOn r
  if o = ringB r + 8 then
    if on then (if bit v 0 then s else s.ringOff r)
    else
      let s := s.storeBits o w.act v
      if bit v 0 then
        let g := s.ring r
        s.setRing r { g with descs := g.descs.take g.taken.length, poll := [], polled := 0 }
      else s
  else if on then s else s.setReg o v

/-- The ring whose registers hold an offset. -/
def ringAt (o : Nat) : Nat := if o < 0x80840 then 128 else if o < 0x81000 then 129 else (o - 0x81000) / 0x40

/-- HI: MSI-X masks and rings (R542, R547). -/
def State.actHI (s : State) (o : Nat) (w : RegWord) (v : Nat) : State :=
  if 0x88000 ≤ o then
    if bit v 0 then s.setRb o 0 true else s.unmask ((o - 0x88000) / 16)
  else s.actRing (ringAt o) o w v

/-! ### Ethernet, SC0, lanes, channels -/

/-- EM (R378 to R383, R390, R399, R403 to R405). -/
def State.actEM (s : State) (o v : Nat) : State :=
  let p := (o - 0x100000) / 0x10000
  let r := o % 0x10000
  if r = 0 then
    let s := if s.rb o 0 == bit v 0 then s else s.enPort p (bit v 0)
    if bit v 1 then s.restartAn p else s
  else if r = 8 then (if s.rb (emB p) 0 then s else s.setReg o v)
  else if r = 0xC then s.setReg o (max 64 (min 16000 v))
  else if r = 0x10 then
    let was := s.rb o 0
    let s := s.storeBits o 0xFFFF0F (setFld v 23 16 (noZero (fld v 23 16)))
    if !bit v 0 then s.setRf o 26 24 0
    else if !was && !bit v 1 && s.linkOn p then s.setRf o 26 24 1
    else s
  else s.storeBits o 0xFFFF7F7F (setFld v 31 16 (noZero (fld v 31 16)))

/-- SC0 (R401, R406). -/
def State.actSC (s : State) (o v : Nat) : State :=
  if o = 0x180008 then s.useFree.mdio v s.freeVal
  else if s.rb 0x180000 0 then s else s.setReg o v

/-- LN (R348, R370 to R377). -/
def State.actLN (s : State) (o : Nat) (w : RegWord) (v : Nat) : State :=
  let n := (o - 0x200000) / 0x1000
  let r := o % 0x1000
  let en := s.rb (lnB n) 0
  if r = 0 then
    let s := if s.rb o 0 == bit v 0 then s else s.enLane n (bit v 0)
    let s := if bit v 1 then s.retrainLane n else s
    let s := if s.rb o 2 == bit v 2 then s else s.txSleep n (bit v 2)
    if s.rb o 3 == bit v 3 then s else s.rxSleep n (bit v 3)
  else if r = 8 then (if en then s else s.storeBits o (if isSensor n then 0x1FFFF else 0x18000) v)
  else if r = 0xC then (if en then s else s.storeBits o w.act v)
  else if r = 0x34 then (if (laneChans n).any fun c => s.rb (snB c) 0 then s else s.storeBits o w.act v)
  else if bit v 18 then s.fixGroup ((n - 192) / 48)
  else s

/-- SN_CTRL, SN_CFG and SN_PERIOD (R303, R343). -/
def State.actSN (s : State) (o v : Nat) : State :=
  let c := (o - 0x340000) / 0x400
  let r := o % 0x400
  if r = 0 then
    let s := if s.rb o 0 == bit v 0 then s else s.enChan c (bit v 0)
    if bit v 1 then s.rearmChan c else s
  else if s.rb (snB c) 0 then s
  else s.setReg o (if r = 0xC then noZero v else v)

/-- A combiner's registers (R345). -/
def State.actComb (s : State) (o : Nat) (w : RegWord) (v : Nat) : State :=
  let n := (o - 0x3E0000) / 0x800
  if s.rb (combB n) 0 then s
  else if o = combB n then s.storeBits o 0xFFFFE v
  else s.storeBits o w.act v

/-- NF and the fabric (R437, R444, R449, R454, R455). -/
def State.actNF (s : State) (o v : Nat) : State :=
  if o < 0x540000 then
    let p := (o - 0x400000) / 0x10000
    if o % 0x10000 = 0 then
      let s := if s.rb o 0 == bit v 0 then s else s.nfEnable p (bit v 0)
      if bit v 2 then (List.range 8).foldl (fun s i => s.retrainLane (8 * p + i)) s else s
    else s.setReg o (noZero v)
  else if o = 0x540000 then
    let s := if s.rb o 0 == bit v 0 then s else s.injectSet (bit v 0)
    s.setRb o 1 (bit v 1)
  else if o < 0x541000 then s.setReg o (noZero v)
  else s.destWrite ((o - 0x541000) / 4) v

/-! ### Engines -/

/-- A word of a three-word register that waits for the store to its first word (R299). -/
def State.stage96 (s : State) (o v : Nat) : State :=
  let put (l : List (Nat × Word)) (k v : Nat) := Sparse.set (fun _ => 0) l k (BitVec.ofNat 32 v)
  { s with latch := put (put s.latch o v) (o + 2) 1 }

/-- The staged value of a word, or the present one. -/
def State.staged (s : State) (o : Nat) : Nat :=
  if Sparse.get (fun _ => 0) s.latch (o + 2) = 1 then (Sparse.get (fun _ => 0) s.latch o).toNat else s.reg o

/-- The store to the first word commits the others. -/
def State.commit96 (s : State) (o v : Nat) : State :=
  let clr (l : List (Nat × Word)) (k : Nat) := Sparse.set (fun _ => 0) l k 0
  let s' := ((s.setReg o v).setReg (o + 4) (s.staged (o + 4))).setReg (o + 8) (s.staged (o + 8))
  { s' with latch := clr (clr s'.latch (o + 6)) (o + 10) }

/-- A context's registers (R299 to R301, R497). -/
def State.actCX (s : State) (ctx r o : Nat) (w : RegWord) (v : Nat) : State :=
  if r = 0 then
    if !s.cxCtl ctx then s
    else if bit v 3 then (s.cxReset ctx).wakeWaitq ctx
    else
      let s := if bit v 0 then s.cxHalt ctx else s
      let s := if bit v 1 then s.cxGo ctx else s
      if bit v 2 then s.cxSkip ctx else s
  else if r = 8 then
    let st := s.cxView ctx
    if s.rv.queue.contains (engineOf ctx) || !(st == 0 || st == 3) then s else ((s.setReg o v).claimDom (engDom (engineOf ctx)) (fld v 15 8 != 0)).repause
  else if r = 0x30 then s.commit96 o v
  else if r = 0x34 ∨ r = 0x38 then s.stage96 o v
  else if r = 0x88 then s.setReg o (setFld v 7 0 (noZero (fld v 7 0)))
  else s.storeBits o w.act v

/-- Nodes a walk can reach from a set of nodes in `fuel` steps. -/
def State.reach (s : State) : Nat → List Nat → List Nat
  | 0, l => l
  | f + 1, l =>
    let next (j : Nat) : List Nat :=
      s.rf (paNode j 3) 7 0 ::
        ((List.range 4).filter fun i => s.rb (paNode j (5 + 2 * i)) 8).map fun i => s.rf (paNode j (5 + 2 * i)) 7 0
    s.reach f ((l.flatMap next).filter (fun j => decide (j < 255)) ++ l).eraseDups

/-- A parse context runs. -/
def State.paRuns (s : State) (c : Nat) : Bool := (s.pctx (c % 4)).running

/-- An edge entry belongs to a running context. -/
def State.edgeRuns (s : State) (v : Nat) : Bool := bit v 0 && s.paRuns (fld v 2 1)

/-- The parser's tables (R408, R411, R415, R419, R430): entries of a running context, and entries out of bounds, are not
written. -/
def State.actPA (s : State) (r o : Nat) (w : RegWord) (v : Nat) : State :=
  let put := s.storeBits o w.act v
  if r < 0x800 then (if s.paRuns ((r - 0x400) / 0x40) then s else put)
  else if r < 0x1000 then
    if s.paRuns ((r - 0x800) / 0x80) || (!bit v 1 && decide (512 < fld v 18 10 + fld v 22 19 + 1)) then s else put
  else if r < 0x4000 then
    if 512 < fld v 8 0 + fld v 12 9 + 1 then s
    else if (tplOf o).any s.tplUsed || s.pa.waiting.any (fun x => tplOf x.1 == tplOf o) then
      { s with pa := { s.pa with waiting := s.pa.waiting ++ [(o, v)] } }
    else put
  else if r < 0x8000 then
    let j := (r - 0x4000) / 0x40
    if (List.range 4).any fun c => s.paRuns c && (s.reach 16 [(s.pctx c).root]).contains j then s else put
  else put

/-- An edge entry of the parser (R430). -/
def State.actEdge (s : State) (o v : Nat) (w : RegWord) : State :=
  if 0x698000 ≤ o ∧ (s.edgeRuns (s.reg o) || s.edgeRuns v) then s else s.storeBits o w.act v

/-- The acting words of an engine's block. -/
def State.actEng (s : State) (e o : Nat) (w : RegWord) (v : Nat) : State :=
  let r := o - engB e
  if r = 8 then s.setReg o (noZero v)
  else if 0x1000 ≤ r ∧ r < 0x1000 + 0x100 * engCtxs e then s.actCX (engFirst e + (r - 0x1000) / 0x100) (r % 0x100) o w v
  else if e = 9 then s.actPA r o w v
  else s.setReg o (noZero v)

/-! ### Regions and stacks -/

/-- A range of local offsets lies within the grade's DRAM range (false; R232) or within the Shared Store (true). -/
def State.memOf (s : State) (a b : Nat) : Option Bool :=
  if b ≤ s.fuse.grade.stacks * 2 ^ 33 then some false
  else if 0x2000000000 ≤ a ∧ b ≤ 0x2006000000 then some true
  else none

/-- Setting VALID of entry `n` with the configuration `v` breaks R239. -/
def State.rgBreaks (s : State) (n v : Nat) : Bool :=
  let a := s.reg64 (rgB n)
  let b := s.reg64 (rgB n + 8)
  let overlap := (List.range 64).any fun m =>
    m != n && s.rb (rgB m + 0x10) 0 && decide (a < s.reg64 (rgB m + 8)) && decide (s.reg64 (rgB m) < b)
  match s.memOf a b with
  | none => true
  | some ss =>
    let tooMuch (wr : Bool) (x : Nat) : Bool := decide (256 < s.shares ss wr + x)
    decide (b ≤ a) || overlap || tooMuch false (s.rf (rgB n + 0x14) 8 0) || tooMuch true (s.rf (rgB n + 0x14) 24 16) ||
      (!ss && fld v 2 1 == 3)

/-- RG_CFG is written (R239, R246, R247). -/
def State.rgCfg (s : State) (n v : Nat) : State :=
  let o := rgB n + 0x10
  if 64 ≤ n then s
  else if !bit v 0 then s.storeBits o 0xFFFF07 v
  else if s.rb o 0 then s.setRf o 23 16 (fld v 23 16)
  else if s.rgBreaks n v then s.setRb 0x6E0000 0 true
  else
    let dram := decide (s.reg64 (rgB n) < 0x2000000000)
    ((s.storeBits o 0xFFFF07 v).claimDom 17 (!dram)).claimDom 18 dram |>.claimDom 19 dram

/-- The other words of a region entry: refused while it is valid. -/
def State.actRG (s : State) (o : Nat) (w : RegWord) (v : Nat) : State :=
  let n := (o - 0x6E1000) / 0x20
  if o = rgB n + 0x10 then s.rgCfg n v
  else if s.rb (rgB n + 0x10) 0 then s.setRb 0x6E0000 0 true
  else
    let s := if o = rgB n + 0x18 then { s with mem := { s.mem with degraded := s.mem.degraded.filter fun m => m != n } } else s
    s.storeBits o w.act v

/-! ### Cells -/

/-- CL_CTRL, CL_BIND, CL_FOLD, CL_FAULT and CL_IND_DATA (R122 to R129).  DESIGN CHOICE (log entry 98): one write of CL_CTRL with
RUN = 1 and CELL_RESET = 1 starts the cell and then resets it, so RUN reads 0; a 4-byte write of one half of CL_IND_DATA
writes the selected entry at once, with its other half as it reads. -/
def State.actCL (s : State) (o : Nat) (w : RegWord) (v : Nat) : State :=
  let n := (o - 0x800000) / 0x400
  let r := o % 0x400
  if r = 0 then
    let s := s.setRb o 1 (bit v 1)
    let s := s.writeRun n (bit v 0)
    if bit v 2 then s.resetCell n else s
  else if r = 8 then s.writeClBind n v
  else if r = 0xC then (if s.running n then s else s.storeBits o w.act v)
  else if r = 0x40 then (if bit v 31 then s.setReg o 0 else s)
  else
    let x := s.indRead n
    s.indWrite n (if r = 0x88 then setFld x 31 0 v else setFld x 63 32 v)

/-! ### The write itself -/

/-- What a write of a word does beside its stored and W1C bits. -/
def State.regAct (s : State) (o : Nat) (w : RegWord) (old v : Nat) : State :=
  if o < 0x10000 then
    if o = 0x48 then s.fixedOnly (bit v 18)
    else if o = 0x70 then (if bit v 0 && fld v 31 16 == 0x5157 then s.warmReset causeSoftware else s)
    else s
  else if o < 0x20000 then s.actPW o v
  else if o < 0x30000 then s.actTB o old v
  else if o < 0x40000 then s.actRV o v
  else if o < 0x50000 then s.actSE o v
  else if o < 0x80000 then s.actDB o v
  else if o < 0x100000 then s.actHI o w v
  else if o < 0x180000 then s.actEM o v
  else if o < 0x200000 then s.actSC o v
  else if o < 0x340000 then s.actLN o w v
  else if o < 0x3C0000 then s.actSN o v
  else if o < 0x3C8000 then s.actEng 10 o w v
  else if o < 0x3E0000 then s.actEdge o v w
  else if o < 0x400000 then s.actComb o w v
  else if o < 0x550000 then s.actNF o v
  else if o < 0x600000 then s.storeBits o w.act v
  else if 0x698000 ≤ o ∧ o < 0x6A0000 then s.actEdge o v w
  else if o < 0x6E0000 then match engAt o with | some e => s.actEng e o w v | none => s
  else if o < 0x700000 then s.actRG o w v
  else if o < 0x800000 then s.setReg o (setFld v 15 8 (noZero (fld v 15 8)))
  else if o < 0xF00000 then s.actCL o w v
  else if bit v 0 then s.useFree.aggregate (s.freeVal % 2 == 1)
  else s

/-- Effects that follow a stored bit: a changed chip identifier of a part that is ready (R521), and a map entry changed
while a cell of its row runs (R130). -/
def State.regAfter (s : State) (o old : Nat) : State :=
  if s.reg o = old then s
  else if o = 0x60 ∧ s.rb 0x64 4 then { s with rv := { s.rv with takeover := true } }
  else if 0xF00000 ≤ o ∧ o < 0xF06000 then
    let row := (o - 0xF00000) / 384
    if (List.range 100).any fun i => s.running (row * 100 + i) then
      { s with lat := { s.lat with unrouted := NatSet.insert s.lat.unrouted row } }
    else s
  else if within (gpoB 0) (gpoB 8) o ∧ (o - gpoB 0) % 16 = 0 ∧ bit old 8 ≠ s.rb o 8 then
    let n := (o - gpoB 0) / 16
    { s with pin := { s.pin with lvdsOut := setFld s.pin.lvdsOut n n (b2n (!bit s.pin.lvdsOut n)) } }
  else s

/-- Write one 32-bit word. -/
def State.writeWord (s : State) (o v : Nat) : State :=
  match regWord o with
  | none => s
  | some w =>
    if !s.blockOn o || s.hidden o then s
    else if w.rw = 0 ∧ w.act = 0 ∧ w.w1c = 0 then (s.written o v).1
    else
      let old := s.reg o
      let r := s.written o v
      let hold := (tplOf o).any r.1.tplUsed || r.1.pa.waiting.any (fun x => (tplOf x.1).isSome && tplOf x.1 == tplOf o)
      if w.rw ≠ 0 ∧ hold then { r.1 with pa := { r.1.pa with waiting := r.1.pa.waiting ++ [(o, Nat.land r.2 w.rw)] } }
      else
        let s := if w.rw ≠ 0 then r.1.storeBits o w.rw r.2 else r.1
        let s := if w.w1c ≠ 0 then s.setReg o (mixBits (Nat.land w.w1c r.2) (s.reg o) 0) else s
        let s := if w.act ≠ 0 then s.regAct o w old r.2 else s
        s.regAfter o old

/-- CL_IND_DATA of a powered cell: an 8-byte write of it is one write of the entry. -/
def State.isIndData (s : State) (o : Nat) : Bool := within 0x800000 0xE40000 o && o % 0x400 == 0x88 && s.blockOn o

/-- Write the words of an access in ascending order. -/
def State.writeWords (s : State) (o : Nat) : List Nat → State
  | [] => s
  | [v] => s.writeWord o v
  | v :: u :: r =>
    if s.isIndData o then (s.indWrite ((o - 0x800000) / 0x400) (v + u * 2 ^ 32)).writeWords (o + 8) r
    else (s.writeWord o v).writeWords (o + 4) (u :: r)

/-- The 32-bit words of a list of bytes. -/
def wordsOf (l : List Byte) : List Nat := (List.range (l.length / 4)).map fun i => leAt l (4 * i) 4

/-- A BAR0 write: 4, 8 or 16 bytes aligned to its width; any other is discarded and raises MISALIGNED (R527). -/
def State.writeReg (s : State) (o : Nat) (l : List Byte) : State :=
  if (l.length = 4 ∨ l.length = 8 ∨ l.length = 16) ∧ o % l.length = 0 then s.paFlush.writeWords o (wordsOf l)
  else s.refusedFault Code.MISALIGNED (s.global (0x2200000000 + o))

/-! ### The commands -/

/-- REGISTER_WRITE (R14, R16, R527). -/
def execRegisterWrite (t : Tick) (off width value : Nat) (s : State) : Result :=
  .next ((s.advanceTo t).writeReg off (leBytes width value))

/-- RG_CFG_WRITE (R239, R246, R247). -/
def execRgCfgWrite (t : Tick) (entry : Nat) (value : Word) (s : State) : Result :=
  let s := s.advanceTo t
  .next (if s.domOn 17 && decide (entry < 64) then s.writeWord (rgB entry + 0x10) value.toNat else s)

end Sys2Proof.Machine
end

