-- ==== Sys2Proof/Machine/MemBus.lean ====
section
/-! DEFINITION. A memory request at its target: epoch check, the performance of reads and writes, mirrored and replicated
regions, the hand-over to Nenath; remote access, patrol scrub and the DRAM temperature samples (R33, R226 to R245, R255,
R516, R544). -/

namespace Sys2Proof.Machine

/-! ### When a request can be performed (R71, R231, R237, R530) -/

/-- Two requests touch the same 16 bytes. -/
def MemReq.meets (a b : MemReq) : Bool :=
  let last (r : MemReq) : Nat := (r.addr + max 1 (if r.write then r.data.length else r.len) - 1) / 16
  decide (a.addr / 16 ≤ last b) && decide (b.addr / 16 ≤ last a)

/-- The issuer behind a duplicate write. -/
def Issuer.base : Issuer → Issuer
  | .mirror i _ => i
  | i => i

/-- A context's own request. -/
def Issuer.isCtx (n : Nat) : Issuer → Bool
  | .ctx c _ => c == n
  | _ => false

/-- No request before this one has to be performed first: those of one mq queue, and of one chip, that touch the same
16 bytes; the overlapping writes of one instruction (R297), and of one stream; everything before a fenced request of a context
or a stream; a context's writes before its shadow; everything a unit of the
part has written before. -/
def State.mayPerform (s : State) (r : MemReq) : Bool :=
  let before := s.mem.inflight.takeWhile fun e => e.id != r.id
  let out := s.nen.outst.map fun o => o.req
  match r.issuer with
  | .cell n _ mq _ =>
    !before.any fun e => e.meets r && (match e.issuer.base with | .cell k _ q _ => k == n && q == mq | _ => false)
  | .ctx n k => (!r.fenced || !((before ++ out).any fun e => e.issuer.base.isCtx n)) &&
    !(r.write && before.any fun e => e.write && e.meets r && e.issuer == .ctx n k)
  | .shadow n => !((before ++ out).any fun e => e.write && e.issuer.base.ofCtx n)
  | .peer _ m => !before.any fun e => e.meets r && (match e.issuer with | .peer _ k => k.src == m.src | _ => false)
  | .mirror (.cell n _ mq _) _ =>
    !before.any fun e => e.meets r && (match e.issuer with | .mirror (.cell k _ q _) _ => k == n && q == mq | _ => false)
  | .mirror _ _ => !before.any fun e => e.meets r && e.issuer.base == r.issuer.base
  | .stream n =>
    if r.fenced then !((before ++ out).any fun e => e.write && e.issuer.base == .stream n) && !s.mem.commits.any fun c => c.stream == n
    else !(r.write && before.any fun e => e.write && e.meets r && e.issuer.base == .stream n)
  | i => !((before ++ out).any fun e => e.write && e.issuer.base == i)

/-! ### Register window and byte enables (R228, R527, R575) -/

/-- Write a register range granule by granule. -/
def State.writeRegs : Nat → State → Nat → List Byte → State
  | 0, s, _, _ => s
  | _, s, _, [] => s
  | f + 1, s, o, l =>
    let k := 16 - o % 16
    State.writeRegs f (s.writeReg o (l.take k)) (o + k) (l.drop k)

/-- Runs of enabled bytes: distance from the start, and bytes. -/
def enabledRuns (en : Nat) : Nat → List Byte → List (Nat × List Byte)
  | _, [] => []
  | i, b :: r =>
    if bit en i then
      match enabledRuns en (i + 1) r with
      | (j, l) :: t => if j = i + 1 then (i, b :: l) :: t else (i, [b]) :: (j, l) :: t
      | [] => [(i, [b])]
    else enabledRuns en (i + 1) r

/-- Enabled groups of four bytes of a register read; the others read as zeros. -/
def State.readGroups (s : State) (o en : Nat) : Nat → State × List Byte
  | 0 => (s, [])
  | g + 1 =>
    let r := s.readGroups o en g
    if fld en (4 * g + 3) (4 * g) = 15 then
      let x := r.1.readReg (o + 4 * g) 4
      (x.1, r.2 ++ x.2)
    else (r.1, r.2 ++ [0, 0, 0, 0])

/-! ### Performing at the target -/

/-- The read of a request at its target: the state, the data, poison, and the code of the answer. -/
def State.readAt (s : State) (r : MemReq) (off : Nat) : State × List Byte × Bool × Nat :=
  let port := r.issuer.port
  if (s.target off).noRead then (s.inc 0x6E0004, List.replicate r.len 0, false, Code.UNMAPPED)
  else
    match s.target off, r.enable with
    | .regs o, some en => if en = 65535 then (let x := s.readMem port off r.len; (x.1, x.2.1, x.2.2, 0))
        else (let x := s.readGroups o en 4; (x.1, x.2, false, 0))
    | _, _ => let x := s.readMem port off r.len; (x.1, x.2.1, x.2.2, 0)

/-- The bytes of a request that take part, in runs: distance from its address, and bytes. -/
def MemReq.runs (r : MemReq) : List (Nat × List Byte) :=
  match r.enable with
  | none => [(0, r.data)]
  | some en => if en = 65535 then [(0, r.data)] else enabledRuns en 0 r.data

/-- Write one run of bytes at the target, with the code of the answer. -/
def State.writeRun1 (s : State) (r : MemReq) (off : Nat) (l : List Byte) : State × Nat :=
  match s.target off with
  | .regs o => (State.writeRegs (granules l.length) s o l, 0)
  | .disp w o => s.dispatch w o l r.bind r.epoch
  | _ => (s.writeMem r.issuer.port off l r.issuer.engine r.poison, 0)

/-- Write the bytes of a request that take part; a request to an unmapped offset, or to an absent engine's window, is not
performed, whatever bytes it enables (R227, R255). -/
def State.writeAt (s : State) (r : MemReq) (off : Nat) : State × Nat :=
  match s.target off with
  | .unmapped => (s.inc 0x6E0004, Code.UNMAPPED)
  | .absent _ => (s, Code.ENGINE_ABSENT)
  | _ => r.runs.foldl (fun (a : State × Nat) x =>
      let b := a.1.writeRun1 r (off + x.1) x.2
      (b.1, if a.2 = 0 then b.2 else a.2)) (s, 0)

/-- A write into a REPLICATED region is counted and reported in every stack it lands in (R242). -/
def State.replWrite (s : State) (off n : Nat) : State :=
  (s.stacksOf off n).foldl (fun s k => (s.inc (dmB k + 0x1C)).eventLimited Code.REPL_WRITE k tms (leBytes 8 off)) s

/-- The request is itself a duplicate write that another chip sent. -/
def MemReq.isCopy (r : MemReq) : Bool := match r.issuer with | .peer _ m => m.mirror | _ => false

/-- The buddy to which a write into a MIRRORED region is duplicated; none in a DEGRADED region. -/
def State.buddyOf (s : State) (off : Nat) : Option Nat :=
  match s.regionOf off with
  | none => none
  | some n =>
    let b := s.rf (rgB n + 0x18) 15 0
    if s.mem.degraded.contains n || b == s.chip || s.destSt (b % 4096) == 2 then none else some b

/-- A store of a cell without completion has been performed on this chip (R244). -/
def State.storeHere (s : State) (r : MemReq) : State :=
  match r.issuer with
  | .cell n _ _ false =>
    let note (o : OutReq) : OutReq := if o.id = r.id then { o with here := true } else o
    s.setCell n { s.cell n with outst := (s.cell n).outst.map note }
  | _ => s

/-- The duplicate of a write at the same local offset of a buddy chip: whole units, as this chip's memory holds them now, in
messages of at most 256 bytes (R242, R438). -/
def State.duplicate (s : State) (r : MemReq) (off b : Nat) : State :=
  let a := off / 16 * 16
  let l := s.bytesAt a (roundUp (off + r.data.length) 16 - a)
  State.issueCut { r with issuer := .mirror r.issuer r.id, enable := none, fenced := false, waited := false } l.length s (b * 2 ^ 48 + a) l

/-- A write at its target on this chip: the answer waits for the buddy's copy of a mirrored write; one without completion
completes here (R244, R245). -/
def State.performWrite (s : State) (r : MemReq) (off : Nat) : State :=
  let cls := s.classAt off
  let w := s.writeAt r off
  if w.2 ≠ 0 then w.1.answer r w.2
  else
    let s := if cls = 2 then w.1.replWrite off r.data.length else w.1
    match (if cls = 1 ∧ !r.isCopy ∧ r.data ≠ [] then s.buddyOf off else none) with
    | some b => (s.storeHere r).duplicate r off b
    | none => s.answer r 0

/-- A collective message whose target is on this chip. -/
def State.performColl (s : State) (r : MemReq) (off : Nat) : State :=
  if (s.target off).noRead then (s.inc 0x6E0004).answer r Code.UNMAPPED else (s.collArrive off r.data).answer r 0

/-- A request performed at its target on this chip. -/
def State.performHere (s : State) (r : MemReq) (off : Nat) : State :=
  if s.staleAt off r.bind r.epoch then (s.inc 0x6E0008).answer r Code.EPOCH_MISMATCH
  else if r.coll then s.performColl r off
  else if r.write then s.performWrite r off
  else
    let x := s.readAt r off
    x.1.answer r x.2.2.2 x.2.1 x.2.2.1

/-- A duplicate write of a MIRRORED region. -/
def Issuer.isMirror : Issuer → Bool
  | .mirror _ _ => true
  | _ => false

/-- A request whose target is on another chip goes into the outstanding store; writes of a binding in the replay of R516
complete locally, and a destination known to be lost is answered at once (R451, R453, R516). -/
def State.performAway (s : State) (r : MemReq) : State :=
  let d := r.addr / 2 ^ 48 % 65536
  let gone := { s with mem := { s.mem with inflight := s.mem.inflight.filter fun e => e.id != r.id } }
  if s.inReplay r.bind && (r.write || r.coll) then gone.answer r 0
  else if s.destSt (d % 4096) = 2 then gone.answer r (if r.issuer.isMirror then 0 else Code.PEER_LOST)
  else if !s.canSend then s
  else
    let bytes := match r.enable with
      | some en => r.data.zipIdx.map fun x => if bit en x.2 then x.1 else BitVec.ofNat 8 (Config.freeValue (s.free + x.2)).toNat
      | none => r.data
    let gone := if r.enable.isSome ∧ r.write then gone.useFree 16 else gone
    let op := if r.coll then Op.COLL else if r.write then Op.WRITE else Op.READ
    gone.request r { addr := r.addr, src := s.chip, bind := r.bind, epoch := r.epoch, op := op, timed := r.timed
                     mirror := r.issuer.isMirror, data := bytes }

/-- A waiting request is counted once in DM_REFRESH_WAIT of each stack it touches. -/
def State.refreshWait (s : State) (r : MemReq) (off : Nat) : State :=
  if r.waited then s
  else
    let mark (e : MemReq) : MemReq := if e.id = r.id then { e with waited := true } else e
    let s := { s with mem := { s.mem with inflight := s.mem.inflight.map mark } }
    (s.stacksOf off (max 1 (if r.write then r.data.length else r.len))).foldl (fun s k => s.inc (dmB k + 0x20)) s

/-- The request of a number reaches its target. -/
def State.perform (s : State) (id : Nat) : State :=
  match s.mem.inflight.find? fun r => r.id == id with
  | none => s
  | some r =>
    if !s.mayPerform r then s
    else if !s.isLocal r.addr then s.performAway r
    else
      let off := r.addr % 2 ^ 48
      let gone := { s with mem := { s.mem with inflight := s.mem.inflight.filter fun e => e.id != id } }
      if s.dramHeld off then s.refreshWait r off else gone.performHere r off

/-- A host access to BAR4 (R526): it carries BIND_ID 0, and only DRAM is mapped there; a read's answer is on the bus. -/
def State.hostAccess (s : State) (write : Bool) (off len : Nat) (data : List Byte) : State :=
  let a := (s.reg64 0x80008 + off) % 2 ^ 48
  let dram (a : Nat) : Bool := match s.target a with | .dram _ => true | _ => false
  let r : MemReq := { id := 0, issuer := .host, addr := s.global a, write := write, len := len, data := data }
  if !s.rb 0x80000 0 || !s.domOn 28 then s
  else if !dram a || !dram (a + len - 1) then (s.inc 0x6E0004).answer r Code.UNMAPPED
  else (s.issue r).perform s.mem.nextId

/-! ### Launched writes (R21, R22, R57) -/

/-- The message that a request to another chip has just become leaves its port at `dep`: this side's other messages go as
they would, and its own flits are those that follow. -/
def State.launchMsg (s : State) (m : Msg) (dep : Nat) : State :=
  let s := { s with nen := { s.nen with own := s.nen.own.dropLast } }
  match s.routeOf 20 m with
  | .port p vc =>
    let s := State.npFlush ((s.np p).tx.length + 1) s p
    let s' := s.npSend p { m with vc := vc }
    let k := s'.out.length - s.out.length
    { s' with out := (s'.out.take k).map (fun d => { d with at_ := dep }) ++ s.out }
  | .here => { s with nen := { s.nen with own := s.nen.own ++ [m] } }
  | .none => s.unroutable m false
  | .recovering => s.unroutable m true

/-- A launched request to another chip. -/
def State.launchAway (s : State) (r : MemReq) (dep : Nat) : State :=
  let k := s.nen.own.length
  let s := s.performAway r
  match s.nen.own[k]? with
  | some m => s.launchMsg m dep
  | none => s

/-- Bytes written to DRAM and the Shared Store are counted. -/
def State.countWrite : Nat → State → Nat → Nat → State
  | 0, s, _, _ => s
  | f + 1, s, a, n =>
    if n = 0 then s
    else
      let k := min n (16 - a % 16)
      let s := match s.target a with
        | .dram j => s.inc64 (dmB j + 0x30) k
        | .store => s.inc64 0x6E0020 k
        | _ => s
      State.countWrite f s (a + k) (n - k)

/-- The write of a record goes to a plain offset: DRAM or the Shared Store of this chip, not stale and not mirrored. -/
def State.plainWrite (s : State) (r : MemReq) (off : Nat) : Bool :=
  let there (a : Nat) : Bool := match s.target a with | .dram _ => true | .store => true | _ => false
  there off && there (off + r.data.length - 1) && !s.staleAt off r.bind r.epoch && s.classAt off != 1

/-- A launched record for a ring on this chip is committed, and visible to every reader, at its departure. -/
def State.launchHere (s : State) (r : MemReq) (dep : Nat) : State :=
  let off := r.addr % 2 ^ 48
  match r.issuer with
  | .stream n =>
    if s.plainWrite r off then
      let gone := { s with mem := { s.mem with inflight := s.mem.inflight.filter fun e => e.id != r.id } }
      if dep ≤ s.sn then gone.performHere r off
      else
        let s := State.countWrite (granules r.data.length) gone off r.data.length
        let s := if s.classAt off = 2 then s.replWrite off r.data.length else s
        { s with mem := { s.mem with commits := s.mem.commits ++ [{ at_ := dep, off := off, data := r.data, stream := n }] } }
    else s
  | _ => s

/-- What has just been released leaves at its departure instant; what cannot, waits as any other request does. -/
def State.launchAll (s : State) : State :=
  (s.mem.inflight.filter fun r => r.due.isSome).foldl (fun s r =>
    match r.due with
    | some dep => if !s.mayPerform r then s else if s.isLocal r.addr then s.launchHere r dep else s.launchAway r dep
    | none => s) s

/-! ### Remote access (R544) -/

/-- A request of the service, cut into memory requests; those on this chip reach their targets at once. -/
def State.raIssue (write : Bool) : Nat → State → Nat → Nat → List Byte → State × List (Nat × Option (List Byte))
  | 0, s, _, _, _ => (s, [])
  | f + 1, s, a, n, l =>
    if n = 0 then (s, [])
    else
      let page := if s.isLocal a then 4096 else 256
      let k := min n (page - a % page)
      let id := s.mem.nextId
      let s := s.issue { id := 0, issuer := .remote, addr := a, write := write, len := if write then 0 else k, data := l.take k }
      let x := State.raIssue write f s (a + k) (n - k) (l.drop k)
      (x.1, (id, none) :: x.2)

/-- A remote access datagram arrives on the port that HI_RA_CFG names, with its header and data. -/
def State.raRequest (s : State) (l : List Byte) : State :=
  let op := byteAt l 0
  let n := leAt l 2 2
  let tag := leAt l 4 4
  let a := leAt l 8 8
  let there := if s.rb 0x80030 4 then s.domOn 29 && s.rb 0x180000 0 else s.epThere (s.rf 0x80030 3 1) && s.linkOn (s.rf 0x80030 3 1)
  if !s.rb 0x80030 0 || !there || !(op == 1 || op == 2) || decide (l.length < 16) then s
  else
    let s := s.inc 0x80034
    let bad := decide (n % 16 ≠ 0) || decide (n < 16) || decide (1024 < n) || decide (a % 16 ≠ 0) || (op == 2 && decide (l.length < 16 + n))
    let q : RaReq := { op := op, tag := tag, len := n, addr := a, parts := [], status := if bad then 2 else 0 }
    let x := if bad then (s, []) else State.raIssue (op == 2) 6 s a n (l.drop 16)
    let s := { x.1 with host := { x.1.host with ra := x.1.host.ra ++ [{ q with parts := x.2 }] } }
    let s := (x.2.filter fun _ => s.isLocal a).foldl (fun s p => s.perform p.1) s
    s.raFlush s.host.ra

/-! ### Stacks (R72, R235, R236, R555) -/

/-- Patrol scrub reads a word of a stack and writes back what it corrects. -/
def State.scrub (s : State) (stack addr : Nat) : State :=
  let a := addr / 8 * 8
  if !s.rb (dmB stack + 0x18) 0 || s.inRefresh || s.target a != .dram stack then s
  else
    match s.eccAt a with
    | none => s
    | some false => (s.countCe stack).setEcc a none
    | some true => s.countUe stack a

/-- One stack's reading. -/
def State.stackTemp (s : State) (k v : Nat) : State :=
  let b := dmB k
  let was := s.rb b 3
  let s := ((s.setRf (b + 4) 7 0 v).setRb b 2 (decide (85 < v))).setRb b 3 (decide (95 ≤ v))
  let s := { s with lf := { s.lf with dramMax := max s.lf.dramMax v } }
  if !was && decide (95 ≤ v) then s.event Code.DRAM_OVERTEMP k (leBytes 1 v) else s

/-- The halving of DRAM grant turns begins at 95 °C and ends at 93 °C. -/
def State.dramHeat (s : State) (m : Nat) : State :=
  if 95 ≤ m then (if s.pwr.dramHalf then s else { s.lfCount 0x28 with pwr := { s.pwr with dramHalf := true } })
  else if m ≤ 93 then { s with pwr := { s.pwr with dramHalf := false } }
  else s

/-- The interval that a sample calls for. -/
def State.refWant (s : State) (fast : Bool) : State :=
  if fast == s.rb 0x20100 0 then { s with clk := { s.clk with refNew := none } }
  else
    match s.clk.refNew with
    | some _ => s
    | none => { s with clk := { s.clk with refNew := some (fast, s.sn) } }

/-- A sample on the 1 ms grid. -/
def State.dramSample (s : State) (temps : List Nat) : State :=
  match s.pwr.tempFrom with
  | none => s
  | some t0 =>
    if s.inReset ∨ s.clk.now < t0 + s.pwr.tempCnt * tms then s
    else
      let got := temps.zipIdx.filter fun x => s.stackOn x.2
      let s := { s with pwr := { s.pwr with tempCnt := (s.clk.now - t0) / tms + 1 } }
      let s := got.foldl (fun s x => s.stackTemp x.2 (x.1 % 256)) s
      let m : Nat := got.foldl (fun (m : Nat) x => max m (x.1 % 256)) 0
      let s := (s.dramHeat m).refWant (decide (85 < m))
      if 100 ≤ m then s.trip 18 else s

/-! ### The commands -/

/-- MEMORY_REQUEST_PERFORM (R240, R526): a request reaches its target. -/
def execMemoryRequestPerform (t : Tick) (req : ReqOf) (s : State) : Result :=
  let s := s.advanceTo t
  .next (match req with
    | .waiting id => s.perform id
    | .barRead off len => s.hostAccess false off len []
    | .barWrite off data => s.hostAccess true off data.length data)
/-- RESULT_ENTER_HOLD (R59). -/
def execResultEnterHold (t : Tick) (edge : Nat) (s : State) : Result := .next ((s.advanceTo t).enter edge).settleResets
/-- HOLD_RELEASE (R21, R22, R57, R59 to R62). -/
def execHoldRelease (t : Tick) (edge : Nat) (s : State) : Result := .next (((s.advanceTo t).releaseStage edge).launchAll).settleResets
/-- PATROL_SCRUB (R235). -/
def execPatrolScrub (t : Tick) (stack addr : Nat) (s : State) : Result := .next ((s.advanceTo t).scrub stack addr)
/-- DRAM_TEMP_SAMPLE (R236). -/
def execDramTempSample (t : Tick) (temps : List Nat) (s : State) : Result := .next ((s.advanceTo t).dramSample temps)
/-- RA_REQUEST (R544). -/
def execRaRequest (t : Tick) (bytes : List Byte) (s : State) : Result := .next ((s.advanceTo t).raRequest bytes)

end Sys2Proof.Machine
end

