-- ==== Sys2Proof/Machine/Boot.lean ====
section
/-! DEFINITION. Start-up: the phases of GL_BOOT, the domains they power, the registers the boot configuration gives, and
self-test (R249, R543, R552, R558 to R563, R587; log entry 4). -/

namespace Sys2Proof.Machine

/-- GL_BOOT.PHASE. -/
def State.bootPhase (s : State) : Nat := s.rf 0x64 3 0
/-- GL_BOOT.READY: start-up is over. -/
def State.ready (s : State) : Bool := s.rb 0x64 4
/-- GL_BOOT.WARM. -/
def State.isWarm (s : State) : Bool := s.rb 0x64 5
/-- The next phase begins. -/
def State.setPhase (s : State) (p : Nat) : State := s.setRf 0x64 3 0 p

/-- Start-up powers a domain, and waits until it has settled. -/
def State.bootOn (s : State) (d : Nat) : State :=
  if s.domFused d then s else (s.setRb (pwB d) 0 true).setRf (pwB d + 4) 1 0 2

/-- Firmware writes the registers of the boot configuration that lie in a range. -/
def State.bootRegs (s : State) (p : Nat → Bool) : State :=
  (s.fuse.boot.filter fun e => p e.1).foldl (fun s e => s.writeWord e.1 e.2.toNat) s

/-- A block that phase 3 powers. -/
def lanesBlock (o : Nat) : Bool := within 0x100000 0x540000 o

/-- Phase 0 ends: a power cycle is counted by an aggregation of its own (R587). -/
def State.bootRom (s : State) : State :=
  let s := s.bootOn 29
  (if s.isWarm then s else (s.lfCount 0x20).aggregate true).setPhase 1

/-- The rails and the floor that firmware finds at start-up (R601). -/
def State.bootRails (s : State) : State :=
  let s := (s.setRf 0x1E000 9 0 750).setRf 0x1E000 19 10 500
  (s.setRf 0x80 12 3 800).setRb 0x80 1 true

/-- What earlier resets left to report (R555, R567). -/
def State.bootReports (s : State) : State :=
  let s := if s.fuse.tripNew = 0 then s else
    { (s.lfCount 0x28).event Code.THERMAL_TRIP (s.fuse.tripNew - 1) with fuse := { s.fuse with tripNew := 0 } }
  if s.fuse.zeroisedNew then
    { s.event Code.TAMPER_ZEROISED with fuse := { s.fuse with zeroisedNew := false } }
  else s

/-- SE_FW_MEAS: SHAKE256 of the image and the boot block, whose bytes the model does not hold (log entry 2). -/
def State.bootMeas (s : State) : State :=
  (s.putBytes 0x40020 ((List.range 4).flatMap fun i => leBytes 8 (Config.freeValue (s.free + i)).toNat)).useFree 4

/-- Phase 3 begins: the lane, port and trigger domains, with their registers. -/
def State.bootLanes (s : State) : State :=
  let warm := s.isWarm
  let doms := [20, 21, 22, 23, 24, 25, 26, 27] ++ if s.fuse.hostless then [] else [28]
  let doms := if warm then doms.filter fun d => decide (24 ≤ d) else doms
  let s := doms.foldl State.bootOn s
  (s.bootRegs fun o => lanesBlock o && !(warm && (within 0x200000 0x2A0000 o || within 0x400000 0x540000 o))).setPhase 3

/-- Phase 1 ends. -/
def State.bootFirmware (s : State) (ok slotB : Bool) : State :=
  if !ok ∨ s.fuse.fwSvn < s.fuse.svn then s.setPhase 7
  else
    let warm := s.isWarm
    let s := ((s.setRf 0x40000 0 0 (b2n slotB)).setReg 0x40004 s.fuse.fwSvn).bootMeas
    let s := ((s.setReg 0x400C0 (Config.certLen % 32769)).bootRails).bootReports
    let s := s.bootRegs fun o => if warm then within 0x80000 0x100000 o else decide (o < 0x100000) || within 0x540000 0x600000 o
    if warm then (s.bootOn 17).bootLanes else ((s.bootOn 17).bootOn 18 |>.bootOn 19).setPhase 2

/-- Phase 2 ends: stacks trained, channel failures kept, and the identity key derived (R249, R563). -/
def State.bootDram (s : State) (chFail : List Nat) : State :=
  let one (s : State) (k : Nat) : State :=
    let f := chFail.getD k 0 % 2 ^ 32
    (s.setReg (dmB k) (1 + 2 * b2n (f == 0))).setReg (dmB k + 0x40) f
  let s := ((List.range 16).filter s.stackOn).foldl one s
  let id := s.fuse.seed && !s.fuse.zeroised
  let s := { s with pwr := { s.pwr with tempFrom := some s.clk.now, tempCnt := 0 }, se := { s.se with keys := id } }
  (s.setRb 0x40000 2 id).bootLanes

/-- Phase 3 ends: sensor groups are fixed, lanes that are not up are disabled, and self-test begins. -/
def State.bootFix (s : State) : State :=
  let s := ([0, 1].filter fun g => s.domOn (25 + g)).foldl (fun s g => s.fixGroup g) s
  let lanes := ((List.range 288).drop (if s.isWarm then 160 else 0)).filter fun n => s.laneOn n && s.rb (lnB n) 0
  let s := lanes.foldl (fun s n => if s.laneSt n = 4 then s else s.enLane n false) s
  let s := ((List.range 16).map (1 + ·)).foldl State.bootOn s
  (s.setRb 0x670080 0 true).setPhase 4

/-- Phase 4 ends: cells found bad are marked, and a part that failed stops.  A number from 6,400 on stands for the switch
point of the cell 6,400 below: its row is out of use, and the cell is marked with it (R83, R559). -/
def State.bootTested (s : State) (ok : Bool) (cells : List Nat) : State :=
  let sw := ((cells.filter fun n => decide (6400 ≤ n) && decide (n < 12800)).map fun n => n - 6400).eraseDups
  let s := { s with lat := { s.lat with switchBad := (s.lat.switchBad ++ sw).eraseDups } }
  let bad := ((cells.filter fun n => decide (n < 6400)) ++ sw).eraseDups
  let s := bad.foldl (fun s n => (s.setRb (clB n + 4) 2 true).lfCount 0x2C) s
  let trained := ((List.range s.fuse.grade.stacks).all fun k => s.rb (dmB k) 1)
  if !ok || !trained then (s.setPhase 6).event Code.SELFTEST_FAIL else s.setPhase 5

/-- Phase 5 ends: the part is ready to load. -/
def State.bootReady (s : State) : State :=
  let s := (s.setReg64 0x40 s.detSig).setRb 0x48 31 false
  let s := ((s.setRb 0x670080 0 false).setRb 0x64 4 true).setReg 0x68 ((s.clk.now - s.pwr.bootFrom) / tus)
  s.event Code.READY_TO_LOAD

/-- The present phase completes. -/
def State.bootStep (s : State) (ok slotB : Bool) (cells chFail : List Nat) : State :=
  if s.inReset || s.ready then s
  else
    match s.bootPhase with
    | 0 => s.bootRom
    | 1 => s.bootFirmware ok slotB
    | 2 => s.bootDram chFail
    | 3 => s.bootFix
    | 4 => s.bootTested ok cells
    | 5 => s.bootReady
    | _ => s

/-- BOOT_PHASE_COMPLETE (R558). -/
def execBootPhaseComplete (t : Tick) (ok : Bool) (slotB : Bool) (failedCells : List Nat) (chFail : List Nat) (s : State) : Result :=
  .next ((s.advanceTo t).bootStep ok slotB failedCells chFail)

end Sys2Proof.Machine
end

