-- ==== Sys2Proof/Machine/Dispatch.lean ====
section
/-! DEFINITION. One arm per command: the meaning it has. -/

namespace Sys2Proof.Machine

/-- The effect of a command on everything but the queue of commands. -/
def exec (i : Instr) (s : State) : Host.Outcome State Fault Refusal :=
  match i with
  | .registerWrite t off width value => Sys2Proof.Machine.execRegisterWrite t off width value s
  | .registerReadClear t off width => Sys2Proof.Machine.execRegisterReadClear t off width s
  | .domainEnable t dom on => Sys2Proof.Machine.execDomainEnable t dom on s
  | .reacquire t dom => Sys2Proof.Machine.execReacquire t dom s
  | .domainMeasurement t dom m => Sys2Proof.Machine.execDomainMeasurement t dom m s
  | .sourceSilentTimeout t dom => Sys2Proof.Machine.execSourceSilentTimeout t dom s
  | .selWrite t sel => Sys2Proof.Machine.execSelWrite t sel s
  | .slewComplete t => Sys2Proof.Machine.execSlewComplete t s
  | .ppsInPulse t => Sys2Proof.Machine.execPpsInPulse t s
  | .ppsOutRise t => Sys2Proof.Machine.execPpsOutRise t s
  | .ppsOutFall t => Sys2Proof.Machine.execPpsOutFall t s
  | .refclkLoss t => Sys2Proof.Machine.execRefclkLoss t s
  | .refclkReturn t => Sys2Proof.Machine.execRefclkReturn t s
  | .resultEnterHold t edge => Sys2Proof.Machine.execResultEnterHold t edge s
  | .holdRelease t edge => Sys2Proof.Machine.execHoldRelease t edge s
  | .untimedRelease t edge => Sys2Proof.Machine.execUntimedRelease t edge s
  | .eventQuietIntervalEnd t code unit => Sys2Proof.Machine.execEventQuietIntervalEnd t code unit s
  | .refreshWindowStart t => Sys2Proof.Machine.execRefreshWindowStart t s
  | .refreshWindowEnd t => Sys2Proof.Machine.execRefreshWindowEnd t s
  | .governorInterval t total domain slack => Sys2Proof.Machine.execGovernorInterval t total domain slack s
  | .slackHoldExpiry t => Sys2Proof.Machine.execSlackHoldExpiry t s
  | .linkHandshake t link => Sys2Proof.Machine.execLinkHandshake t link s
  | .waitBoundExpiry t cell => Sys2Proof.Machine.execWaitBoundExpiry t cell s
  | .poisonPushDeferred t cell queue => Sys2Proof.Machine.execPoisonPushDeferred t cell queue s
  | .mqRequestIssue t cell mq => Sys2Proof.Machine.execMqRequestIssue t cell mq s
  | .memoryResponseArrive t cell mp => Sys2Proof.Machine.execMemoryResponseArrive t cell mp s
  | .nop t cell => Sys2Proof.Machine.execNop t cell s
  | .halt t cell => Sys2Proof.Machine.execHalt t cell s
  | .rot t cell => Sys2Proof.Machine.execRot t cell s
  | .jmp t cell => Sys2Proof.Machine.execJmp t cell s
  | .br t cell => Sys2Proof.Machine.execBr t cell s
  | .brf t cell => Sys2Proof.Machine.execBrf t cell s
  | .loopI t cell => Sys2Proof.Machine.execLoopI t cell s
  | .kcyc t cell => Sys2Proof.Machine.execKcyc t cell s
  | .faultI t cell => Sys2Proof.Machine.execFaultI t cell s
  | .rdflg t cell => Sys2Proof.Machine.execRdflg t cell s
  | .clrflg t cell => Sys2Proof.Machine.execClrflg t cell s
  | .kset t cell => Sys2Proof.Machine.execKset t cell s
  | .ktox t cell => Sys2Proof.Machine.execKtox t cell s
  | .xtok t cell => Sys2Proof.Machine.execXtok t cell s
  | .addR t cell => Sys2Proof.Machine.execAddR t cell s
  | .subR t cell => Sys2Proof.Machine.execSubR t cell s
  | .mulR t cell => Sys2Proof.Machine.execMulR t cell s
  | .andR t cell => Sys2Proof.Machine.execAndR t cell s
  | .orR t cell => Sys2Proof.Machine.execOrR t cell s
  | .xorR t cell => Sys2Proof.Machine.execXorR t cell s
  | .shlR t cell => Sys2Proof.Machine.execShlR t cell s
  | .shrR t cell => Sys2Proof.Machine.execShrR t cell s
  | .sraR t cell => Sys2Proof.Machine.execSraR t cell s
  | .minR t cell => Sys2Proof.Machine.execMinR t cell s
  | .maxR t cell => Sys2Proof.Machine.execMaxR t cell s
  | .fadd t cell => Sys2Proof.Machine.execFadd t cell s
  | .fmul t cell => Sys2Proof.Machine.execFmul t cell s
  | .fmax t cell => Sys2Proof.Machine.execFmax t cell s
  | .fmin t cell => Sys2Proof.Machine.execFmin t cell s
  | .cvt t cell => Sys2Proof.Machine.execCvt t cell s
  | .addImmediate t cell => Sys2Proof.Machine.execAddImmediate t cell s
  | .subImmediate t cell => Sys2Proof.Machine.execSubImmediate t cell s
  | .mulImmediate t cell => Sys2Proof.Machine.execMulImmediate t cell s
  | .andImmediate t cell => Sys2Proof.Machine.execAndImmediate t cell s
  | .orImmediate t cell => Sys2Proof.Machine.execOrImmediate t cell s
  | .xorImmediate t cell => Sys2Proof.Machine.execXorImmediate t cell s
  | .shlImmediate t cell => Sys2Proof.Machine.execShlImmediate t cell s
  | .shrImmediate t cell => Sys2Proof.Machine.execShrImmediate t cell s
  | .sraImmediate t cell => Sys2Proof.Machine.execSraImmediate t cell s
  | .minImmediate t cell => Sys2Proof.Machine.execMinImmediate t cell s
  | .maxImmediate t cell => Sys2Proof.Machine.execMaxImmediate t cell s
  | .faddImmediate t cell => Sys2Proof.Machine.execFaddImmediate t cell s
  | .fmulImmediate t cell => Sys2Proof.Machine.execFmulImmediate t cell s
  | .fmaxImmediate t cell => Sys2Proof.Machine.execFmaxImmediate t cell s
  | .fminImmediate t cell => Sys2Proof.Machine.execFminImmediate t cell s
  | .movi t cell => Sys2Proof.Machine.execMovi t cell s
  | .movhi t cell => Sys2Proof.Machine.execMovhi t cell s
  | .rdt t cell => Sys2Proof.Machine.execRdt t cell s
  | .amax t cell => Sys2Proof.Machine.execAmax t cell s
  | .mov t cell => Sys2Proof.Machine.execMov t cell s
  | .dropTok t cell => Sys2Proof.Machine.execDropTok t cell s
  | .waitq t cell => Sys2Proof.Machine.execWaitq t cell s
  | .waitt t cell => Sys2Proof.Machine.execWaitt t cell s
  | .lds t cell => Sys2Proof.Machine.execLds t cell s
  | .sts t cell => Sys2Proof.Machine.execSts t cell s
  | .ldx t cell => Sys2Proof.Machine.execLdx t cell s
  | .stx t cell => Sys2Proof.Machine.execStx t cell s
  | .accld t cell => Sys2Proof.Machine.execAccld t cell s
  | .accst t cell => Sys2Proof.Machine.execAccst t cell s
  | .mld t cell => Sys2Proof.Machine.execMld t cell s
  | .mst t cell => Sys2Proof.Machine.execMst t cell s
  | .wave t cell => Sys2Proof.Machine.execWave t cell s
  | .aadd t cell => Sys2Proof.Machine.execAadd t cell s
  | .aout t cell => Sys2Proof.Machine.execAout t cell s
  | .act t cell => Sys2Proof.Machine.execAct t cell s
  | .joinI t cell => Sys2Proof.Machine.execJoinI t cell s
  | .routeTok t cell => Sys2Proof.Machine.execRouteTok t cell s
  | .gateTok t cell => Sys2Proof.Machine.execGateTok t cell s
  | .mergeTok t cell => Sys2Proof.Machine.execMergeTok t cell s
  | .firstTok t cell => Sys2Proof.Machine.execFirstTok t cell s
  | .runWrite t cell run => Sys2Proof.Machine.execRunWrite t cell run s
  | .edgeStopWrite t cell stop => Sys2Proof.Machine.execEdgeStopWrite t cell stop s
  | .cellReset t cell => Sys2Proof.Machine.execCellReset t cell s
  | .clBindWrite t cell value => Sys2Proof.Machine.execClBindWrite t cell value s
  | .clIndDataWrite t cell data => Sys2Proof.Machine.execClIndDataWrite t cell data s
  | .ldrainGo t bind => Sys2Proof.Machine.execLdrainGo t bind s
  | .ldrainDone t => Sys2Proof.Machine.execLdrainDone t s
  | .ldrainBoundExpiry t => Sys2Proof.Machine.execLdrainBoundExpiry t s
  | .dispatchStore t win off data bind epoch => Sys2Proof.Machine.execDispatchStore t win off data bind epoch s
  | .commandStart t ctx => Sys2Proof.Machine.execCommandStart t ctx s
  | .engineInstructionComplete t ctx => Sys2Proof.Machine.execEngineInstructionComplete t ctx s
  | .commandComplete t ctx => Sys2Proof.Machine.execCommandComplete t ctx s
  | .cmdTimeout t ctx => Sys2Proof.Machine.execCmdTimeout t ctx s
  | .seqNop t ctx => Sys2Proof.Machine.execSeqNop t ctx s
  | .seal t ctx => Sys2Proof.Machine.execSeal t ctx s
  | .seqLoop t ctx => Sys2Proof.Machine.execSeqLoop t ctx s
  | .seqWaitt t ctx => Sys2Proof.Machine.execSeqWaitt t ctx s
  | .seqWaitq t ctx => Sys2Proof.Machine.execSeqWaitq t ctx s
  | .waitqPoll t ctx => Sys2Proof.Machine.execWaitqPoll t ctx s
  | .signalStore t ctx => Sys2Proof.Machine.execSignalStore t ctx s
  | .fence t ctx => Sys2Proof.Machine.execFence t ctx s
  | .setref t ctx => Sys2Proof.Machine.execSetref t ctx s
  | .mat t ctx => Sys2Proof.Machine.execMat t ctx s
  | .vew t ctx => Sys2Proof.Machine.execVew t ctx s
  | .vred t ctx => Sys2Proof.Machine.execVred t ctx s
  | .softmax t ctx => Sys2Proof.Machine.execSoftmax t ctx s
  | .normV t ctx => Sys2Proof.Machine.execNormV t ctx s
  | .vquant t ctx => Sys2Proof.Machine.execVquant t ctx s
  | .tbuild t ctx => Sys2Proof.Machine.execTbuild t ctx s
  | .sampleTok t ctx => Sys2Proof.Machine.execSampleTok t ctx s
  | .allreduce t ctx => Sys2Proof.Machine.execAllreduce t ctx s
  | .redscat t ctx => Sys2Proof.Machine.execRedscat t ctx s
  | .allgather t ctx => Sys2Proof.Machine.execAllgather t ctx s
  | .bcast t ctx => Sys2Proof.Machine.execBcast t ctx s
  | .crc t ctx => Sys2Proof.Machine.execCrc t ctx s
  | .ipsum t ctx => Sys2Proof.Machine.execIpsum t ctx s
  | .shake t ctx => Sys2Proof.Machine.execShake t ctx s
  | .slhver t ctx => Sys2Proof.Machine.execSlhver t ctx s
  | .slhsign t ctx => Sys2Proof.Machine.execSlhsign t ctx s
  | .copyMem t ctx => Sys2Proof.Machine.execCopyMem t ctx s
  | .copy2d t ctx => Sys2Proof.Machine.execCopy2d t ctx s
  | .gather t ctx => Sys2Proof.Machine.execGather t ctx s
  | .scatter t ctx => Sys2Proof.Machine.execScatter t ctx s
  | .fillMem t ctx => Sys2Proof.Machine.execFillMem t ctx s
  | .cxHalt t ctx => Sys2Proof.Machine.execCxHalt t ctx s
  | .cxGo t ctx => Sys2Proof.Machine.execCxGo t ctx s
  | .cxSkip t ctx => Sys2Proof.Machine.execCxSkip t ctx s
  | .cxReset t ctx => Sys2Proof.Machine.execCxReset t ctx s
  | .samplePresent t lane => Sys2Proof.Machine.execSamplePresent t lane s
  | .featureTokenSend t row slot => Sys2Proof.Machine.execFeatureTokenSend t row slot s
  | .tgEdgeTokenReceive t row => Sys2Proof.Machine.execTgEdgeTokenReceive t row s
  | .lvdsInputEdge t input level => Sys2Proof.Machine.execLvdsInputEdge t input level s
  | .combinerEventReceive t comb => Sys2Proof.Machine.execCombinerEventReceive t comb s
  | .combinerDecide t comb => Sys2Proof.Machine.execCombinerDecide t comb s
  | .deadTimeEnd t comb => Sys2Proof.Machine.execDeadTimeEnd t comb s
  | .markRecordDeliver t comb => Sys2Proof.Machine.execMarkRecordDeliver t comb s
  | .sampleReachCheckPoint t chan => Sys2Proof.Machine.execSampleReachCheckPoint t chan s
  | .streamHeadPoll t stream => Sys2Proof.Machine.execStreamHeadPoll t stream s
  | .streamTimeWrap t stream => Sys2Proof.Machine.execStreamTimeWrap t stream s
  | .tstart t ctx => Sys2Proof.Machine.execTstart t ctx s
  | .tstop t ctx => Sys2Proof.Machine.execTstop t ctx s
  | .tarm t ctx => Sys2Proof.Machine.execTarm t ctx s
  | .tdisarm t ctx => Sys2Proof.Machine.execTdisarm t ctx s
  | .trearm t ctx => Sys2Proof.Machine.execTrearm t ctx s
  | .tsoft t ctx => Sys2Proof.Machine.execTsoft t ctx s
  | .snEnable t chan on => Sys2Proof.Machine.execSnEnable t chan on s
  | .snRearm t chan => Sys2Proof.Machine.execSnRearm t chan s
  | .laneEnable t lane on => Sys2Proof.Machine.execLaneEnable t lane on s
  | .retrain t lane => Sys2Proof.Machine.execRetrain t lane s
  | .txSleep t lane sleep => Sys2Proof.Machine.execTxSleep t lane sleep s
  | .rxSleep t lane sleep => Sys2Proof.Machine.execRxSleep t lane sleep s
  | .laneLock t lane => Sys2Proof.Machine.execLaneLock t lane s
  | .laneLockLoss t lane => Sys2Proof.Machine.execLaneLockLoss t lane s
  | .trainingFrameReceive t lane req req2 status status2 => Sys2Proof.Machine.execTrainingFrameReceive t lane req req2 status status2 s
  | .eyeMeasure t lane width height => Sys2Proof.Machine.execEyeMeasure t lane width height s
  | .laneTrainTimeout t lane => Sys2Proof.Machine.execLaneTrainTimeout t lane s
  | .measureDone t lane latency => Sys2Proof.Machine.execMeasureDone t lane latency s
  | .signalLoss t lane => Sys2Proof.Machine.execSignalLoss t lane s
  | .codewordReceive t lane bytes => Sys2Proof.Machine.execCodewordReceive t lane bytes s
  | .sensorCharacterReceive t lane code => Sys2Proof.Machine.execSensorCharacterReceive t lane code s
  | .groupFix t group => Sys2Proof.Machine.execGroupFix t group s
  | .emEnable t port on => Sys2Proof.Machine.execEmEnable t port on s
  | .restartAn t port => Sys2Proof.Machine.execRestartAn t port s
  | .linkUp t port twTx twRx => Sys2Proof.Machine.execLinkUp t port twTx twRx s
  | .linkDown t port => Sys2Proof.Machine.execLinkDown t port s
  | .frameReceive t port first bytes later assyAt => Sys2Proof.Machine.execFrameReceive t port first bytes later assyAt s
  | .pfcFrameReceive t port times => Sys2Proof.Machine.execPfcFrameReceive t port times s
  | .pfcPauseExpiry t port prio => Sys2Proof.Machine.execPfcPauseExpiry t port prio s
  | .hostPathFrameWrite t port => Sys2Proof.Machine.execHostPathFrameWrite t port s
  | .pfcFrameSend t port => Sys2Proof.Machine.execPfcFrameSend t port s
  | .pfcRepeat t port => Sys2Proof.Machine.execPfcRepeat t port s
  | .preemptVerify t port ok => Sys2Proof.Machine.execPreemptVerify t port ok s
  | .lpiEnter t port => Sys2Proof.Machine.execLpiEnter t port s
  | .lpiWake t port => Sys2Proof.Machine.execLpiWake t port s
  | .autoRateInterval t port txUtil rxUtil => Sys2Proof.Machine.execAutoRateInterval t port txUtil rxUtil s
  | .scFrameReceive t bytes => Sys2Proof.Machine.execScFrameReceive t bytes s
  | .scFrameTransmit t => Sys2Proof.Machine.execScFrameTransmit t s
  | .scCollision t sent => Sys2Proof.Machine.execScCollision t sent s
  | .mdioGo t value phyData => Sys2Proof.Machine.execMdioGo t value phyData s
  | .headerWalk t port arrival bytes => Sys2Proof.Machine.execHeaderWalk t port arrival bytes s
  | .fieldTokenSend t row slot => Sys2Proof.Machine.execFieldTokenSend t row slot s
  | .decisionReceive t row => Sys2Proof.Machine.execDecisionReceive t row s
  | .replyFillComplete t port => Sys2Proof.Machine.execReplyFillComplete t port s
  | .verdictApply t port => Sys2Proof.Machine.execVerdictApply t port s
  | .pstart t ctx => Sys2Proof.Machine.execPstart t ctx s
  | .pstop t ctx => Sys2Proof.Machine.execPstop t ctx s
  | .tload t ctx => Sys2Proof.Machine.execTload t ctx s
  | .psend t ctx => Sys2Proof.Machine.execPsend t ctx s
  | .nfEnable t port on => Sys2Proof.Machine.execNfEnable t port on s
  | .nfRetrain t port => Sys2Proof.Machine.execNfRetrain t port s
  | .portUp t port peer peerPort => Sys2Proof.Machine.execPortUp t port peer peerPort s
  | .portTrainTimeout t port => Sys2Proof.Machine.execPortTrainTimeout t port s
  | .lanesBelowMin t port => Sys2Proof.Machine.execLanesBelowMin t port s
  | .portGraceExpiry t port => Sys2Proof.Machine.execPortGraceExpiry t port s
  | .dataFlitReceive t port flit => Sys2Proof.Machine.execDataFlitReceive t port flit s
  | .recoverFlit t port flit => Sys2Proof.Machine.execRecoverFlit t port flit s
  | .resumedFlit t port flit => Sys2Proof.Machine.execResumedFlit t port flit s
  | .laneMap t port flit => Sys2Proof.Machine.execLaneMap t port flit s
  | .timeFlitSend t port => Sys2Proof.Machine.execTimeFlitSend t port s
  | .timeFlitReceive t port flit => Sys2Proof.Machine.execTimeFlitReceive t port flit s
  | .readMsg t src => Sys2Proof.Machine.execReadMsg t src s
  | .writeMsg t src => Sys2Proof.Machine.execWriteMsg t src s
  | .readData t src => Sys2Proof.Machine.execReadData t src s
  | .writeAck t src => Sys2Proof.Machine.execWriteAck t src s
  | .epochMismatch t src => Sys2Proof.Machine.execEpochMismatch t src s
  | .unmappedAns t src => Sys2Proof.Machine.execUnmappedAns t src s
  | .noRouteAns t src => Sys2Proof.Machine.execNoRouteAns t src s
  | .recoveringAns t src => Sys2Proof.Machine.execRecoveringAns t src s
  | .probeMsg t src => Sys2Proof.Machine.execProbeMsg t src s
  | .probeSend t dest => Sys2Proof.Machine.execProbeSend t dest s
  | .readyMsg t src => Sys2Proof.Machine.execReadyMsg t src s
  | .collMsg t src => Sys2Proof.Machine.execCollMsg t src s
  | .destGraceExpiry t dest => Sys2Proof.Machine.execDestGraceExpiry t dest s
  | .nfDestWrite t dest value => Sys2Proof.Machine.execNfDestWrite t dest value s
  | .injectHold t on => Sys2Proof.Machine.execInjectHold t on s
  | .localRecovering t on => Sys2Proof.Machine.execLocalRecovering t on s
  | .memoryRequestPerform t req => Sys2Proof.Machine.execMemoryRequestPerform t req s
  | .patrolScrub t stack addr => Sys2Proof.Machine.execPatrolScrub t stack addr s
  | .dramTempSample t temps => Sys2Proof.Machine.execDramTempSample t temps s
  | .rgCfgWrite t entry value => Sys2Proof.Machine.execRgCfgWrite t entry value s
  | .ringPoll t ring => Sys2Proof.Machine.execRingPoll t ring s
  | .transmitFrameEnqueue t ring => Sys2Proof.Machine.execTransmitFrameEnqueue t ring s
  | .recordBufferCoal t ring => Sys2Proof.Machine.execRecordBufferCoal t ring s
  | .ringDisable t ring => Sys2Proof.Machine.execRingDisable t ring s
  | .msixHoldoffExpiry t ring => Sys2Proof.Machine.execMsixHoldoffExpiry t ring s
  | .msixUnmask t vector => Sys2Proof.Machine.execMsixUnmask t vector s
  | .raRequest t bytes => Sys2Proof.Machine.execRaRequest t bytes s
  | .pwOnWrite t dom on => Sys2Proof.Machine.execPwOnWrite t dom on s
  | .pwReset t dom => Sys2Proof.Machine.execPwReset t dom s
  | .domainPowerSettled t dom => Sys2Proof.Machine.execDomainPowerSettled t dom s
  | .autoPowerOff t dom => Sys2Proof.Machine.execAutoPowerOff t dom s
  | .floorBindWrite t bind value => Sys2Proof.Machine.execFloorBindWrite t bind value s
  | .pwLimitWrite t value => Sys2Proof.Machine.execPwLimitWrite t value s
  | .thermalSample t temps => Sys2Proof.Machine.execThermalSample t temps s
  | .avsTransactionFail t => Sys2Proof.Machine.execAvsTransactionFail t s
  | .avsRetry t ok => Sys2Proof.Machine.execAvsRetry t ok s
  | .porst t level pwrGood => Sys2Proof.Machine.execPorst t level pwrGood s
  | .perst t => Sys2Proof.Machine.execPerst t s
  | .glResetWarm t value => Sys2Proof.Machine.execGlResetWarm t value s
  | .bootPhaseComplete t ok slotB failedCells chFail => Sys2Proof.Machine.execBootPhaseComplete t ok slotB failedCells chFail s
  | .fixedOnlyWrite t on => Sys2Proof.Machine.execFixedOnlyWrite t on s
  | .detSigComputed t => Sys2Proof.Machine.execDetSigComputed t s
  | .measGo t value => Sys2Proof.Machine.execMeasGo t value s
  | .measClear t value => Sys2Proof.Machine.execMeasClear t value s
  | .measurementComplete t => Sys2Proof.Machine.execMeasurementComplete t s
  | .attGo t => Sys2Proof.Machine.execAttGo t s
  | .attestationComplete t => Sys2Proof.Machine.execAttestationComplete t s
  | .tamperFire t sensor => Sys2Proof.Machine.execTamperFire t sensor s
  | .engineDrainComplete t eng => Sys2Proof.Machine.execEngineDrainComplete t eng s
  | .engineDrainBoundExpiry t eng => Sys2Proof.Machine.execEngineDrainBoundExpiry t eng s
  | .scanUnitTimeout t unit => Sys2Proof.Machine.execScanUnitTimeout t unit s
  | .dumpImageComplete t units => Sys2Proof.Machine.execDumpImageComplete t units s
  | .scopeResetComplete t eng => Sys2Proof.Machine.execScopeResetComplete t eng s
  | .scopeCheckComplete t eng ok => Sys2Proof.Machine.execScopeCheckComplete t eng ok s
  | .contextReplayStart t eng => Sys2Proof.Machine.execContextReplayStart t eng s
  | .engineRelease t eng => Sys2Proof.Machine.execEngineRelease t eng s
  | .cellPatternTest t cellA cellB okA okB => Sys2Proof.Machine.execCellPatternTest t cellA cellB okA okB s
  | .chipRecover t => Sys2Proof.Machine.execChipRecover t s
  | .chipRecoveryPhaseComplete t ok => Sys2Proof.Machine.execChipRecoveryPhaseComplete t ok s
  | .extest t dr => Sys2Proof.Machine.execExtest t dr s
  | .idcode t dr => Sys2Proof.Machine.execIdcode t dr s
  | .samplePreload t dr => Sys2Proof.Machine.execSamplePreload t dr s
  | .clamp t dr => Sys2Proof.Machine.execClamp t dr s
  | .highz t dr => Sys2Proof.Machine.execHighz t dr s
  | .bypass t dr => Sys2Proof.Machine.execBypass t dr s
  | .dbgreq t addr data byteEn write => Sys2Proof.Machine.execDbgreq t addr data byteEn write s
  | .debugAccessComplete t => Sys2Proof.Machine.execDebugAccessComplete t s
  | .dbHalt t value => Sys2Proof.Machine.execDbHalt t value s
  | .dbGo t value => Sys2Proof.Machine.execDbGo t value s
  | .dbStep t value => Sys2Proof.Machine.execDbStep t value s
  | .dbDump t value => Sys2Proof.Machine.execDbDump t value s
  | .breakpointTimeMatch t bp => Sys2Proof.Machine.execBreakpointTimeMatch t bp s
  | .lifetimeSample t junction vcore slack => Sys2Proof.Machine.execLifetimeSample t junction vcore slack s
  | .lifetimeAggregate t writeOk => Sys2Proof.Machine.execLifetimeAggregate t writeOk s
  | .aggNow t writeOk => Sys2Proof.Machine.execAggNow t writeOk s
  | .waittDeadline t who => Sys2Proof.Machine.execWaittDeadline t who s
  | .undefinedCellOpcode t cell => Sys2Proof.Machine.execUndefinedCellOpcode t cell s
  | .undefinedEngineOpcode t ctx => Sys2Proof.Machine.execUndefinedEngineOpcode t ctx s
  | .signalReturn t lane => Sys2Proof.Machine.execSignalReturn t lane s
  | .txHalfAwake t lane => Sys2Proof.Machine.execTxHalfAwake t lane s
  | .idleFlitReceive t port flit => Sys2Proof.Machine.execIdleFlitReceive t port flit s
  | .hostLinkUp t speed lanes => Sys2Proof.Machine.execHostLinkUp t speed lanes s
  | .hostLinkDown t => Sys2Proof.Machine.execHostLinkDown t s
  | .ppsInLoss t => Sys2Proof.Machine.execPpsInLoss t s
  | .partnerLowPowerIdle t port idle => Sys2Proof.Machine.execPartnerLowPowerIdle t port idle s
  | .tapReset t => Sys2Proof.Machine.execTapReset t s
  | .vddAonLoss t => Sys2Proof.Machine.execVddAonLoss t s
  | .vddAonRise t => Sys2Proof.Machine.execVddAonRise t s
  | .smbusTransaction t addr data => Sys2Proof.Machine.execSmbusTransaction t addr data s

end Sys2Proof.Machine
end

