-- ==== Sys2Proof/Safety.lean ====
section
/-! DEFINITION. The terms the statements are made in: what it is for a command to complete, when a cell or a context
issues an instruction, what such an instruction leaves unchanged, and the invariants of the machine. -/

namespace Sys2Proof.Machine

/-! ### Completion -/

/-- A command completes: it answers a next state, and that state is as `P` says. -/
def Completes (i : Instr) (s : State) (P : State → Prop) : Prop := ∃ s', exec i s = .next s' ∧ P s'

/-! ### Cells -/

/-- The plane of a cell. -/
def State.pl (s : State) (n p : Nat) : Plane := (s.cell n).plane p

/-- The plane that holds a cell can run, its turn's bound allows an instruction, and the present word has this opcode
(R112 to R114, R131). -/
abbrev State.issues (s : State) (n op : Nat) : Prop :=
  s.canRun n = true ∧ s.turnOver n = false ∧ opF (s.curWord n) = op

/-- A 64-bit register of a plane. -/
def Plane.xb (v : Plane) (i : Nat) : BitVec 64 := Sparse.get (fun _ => 0) v.x i

/-- The next address. -/
def Plane.nextPc (v : Plane) : Nat := (v.pc + 1) % 1024

/-- Code, look-up table and slot tables of every cell, the CL registers and the map. -/
def TablesKeep (s s' : State) : Prop :=
  (∀ m, (s'.cell m).code = (s.cell m).code ∧ (s'.cell m).lut = (s.cell m).lut ∧ (s'.cell m).slotOut = (s.cell m).slotOut ∧
    (s'.cell m).slotIn = (s.cell m).slotIn) ∧
  ∀ o, 0x800000 ≤ o → o < 0xF06000 → s'.reg o = s.reg o

/-- The tables, and the state of every link: token places, slot pointers and numbering. -/
def ClKeep (s s' : State) : Prop :=
  TablesKeep s s' ∧
  ∀ m, (s'.cell m).place = (s.cell m).place ∧ (s'.cell m).ptr = (s.cell m).ptr ∧ (s'.cell m).seqOut = (s.cell m).seqOut ∧
    (s'.cell m).seqIn = (s.cell m).seqIn

/-- What an instruction of a cell that has no result there leaves unchanged: the queues, request queues, requests under way and
accumulators of every cell, its tables and links, and every byte of memory. -/
def CellFrame (s s' : State) : Prop :=
  (∀ m, (s'.cell m).q = (s.cell m).q ∧ (s'.cell m).mq = (s.cell m).mq ∧ (s'.cell m).outst = (s.cell m).outst ∧
    (s'.cell m).acc = (s.cell m).acc ∧ (s'.cell m).apsn = (s.cell m).apsn) ∧
  ClKeep s s' ∧ ∀ a, s'.byte a = s.byte a

/-- The registers of a plane but x register `d`, and the address. -/
def PlaneFrameX (v v' : Plane) (d : Nat) : Prop :=
  (∀ i, i ≠ d → v'.xb i = v.xb i) ∧ v'.k = v.k ∧ v'.mark = v.mark ∧ v'.pc = v.nextPc

/-- The registers of a plane but counter `d`, and the address. -/
def PlaneFrameK (v v' : Plane) (d : Nat) : Prop :=
  v'.x = v.x ∧ (∀ i, i ≠ d → v'.kr i = v.kr i) ∧ v'.flags = v.flags ∧ v'.mark = v.mark

/-- All registers of a plane. -/
def PlaneKeep (v v' : Plane) : Prop := v'.x = v.x ∧ v'.k = v.k ∧ v'.flags = v.flags ∧ v'.mark = v.mark

/-- Registers and address of every plane but plane `p` of cell `n`. -/
def OthersKeep (s s' : State) (n p : Nat) : Prop :=
  ∀ m q, ¬ (m = n ∧ q = p) → PlaneKeep (s.pl m q) (s'.pl m q) ∧ (s'.pl m q).pc = (s.pl m q).pc

/-- Registers and address of every plane. -/
def PlanesKeep (s s' : State) : Prop := ∀ m q, PlaneKeep (s.pl m q) (s'.pl m q) ∧ (s'.pl m q).pc = (s.pl m q).pc

/-- A row of the cell instruction table: when the word issues with its fields in order, the command completes, and `P`
says from the state before, the plane, the word and the plane's registers what holds after; every other plane is left as it was. -/
def CellRow (mk : Tick → Nat → Instr) (op : Nat) (ok : Nat → Bool)
    (P : State → Nat → Nat → Nat → Plane → State → Prop) : Prop :=
  ∀ (t : Tick) (n : Nat) (s : State),
    let s1 := s.advanceTo t
    let p := (s1.cell n).turn
    s1.issues n op → ok (s1.curWord n) = true →
    Completes (mk t n) s fun s' => P s1 n p (s1.curWord n) (s1.pl n p) s' ∧ OthersKeep s1 s' n p

/-- The 64-bit operations of R150: constructor, opcode of the register form, result. -/
def scalarOps : List ((Tick → Nat → Instr) × Nat × (BitVec 64 → BitVec 64 → BitVec 64)) :=
  [(.addR, 0x10, fun a b => a + b), (.subR, 0x11, fun a b => a - b), (.mulR, 0x12, fun a b => a * b),
   (.andR, 0x13, fun a b => a &&& b), (.orR, 0x14, fun a b => a ||| b), (.xorR, 0x15, fun a b => a ^^^ b),
   (.shlR, 0x16, fun a b => a <<< (b.toNat % 64)), (.shrR, 0x17, fun a b => a >>> (b.toNat % 64)),
   (.sraR, 0x18, fun a b => a.sshiftRight (b.toNat % 64)), (.minR, 0x19, fun a b => if a.slt b then a else b),
   (.maxR, 0x1A, fun a b => if a.slt b then b else a)]

/-- Their immediate forms. -/
def scalarImmOps : List ((Tick → Nat → Instr) × Nat × (BitVec 64 → BitVec 64 → BitVec 64)) :=
  [(.addImmediate, 0x30, fun a b => a + b), (.subImmediate, 0x31, fun a b => a - b), (.mulImmediate, 0x32, fun a b => a * b),
   (.andImmediate, 0x33, fun a b => a &&& b), (.orImmediate, 0x34, fun a b => a ||| b), (.xorImmediate, 0x35, fun a b => a ^^^ b),
   (.shlImmediate, 0x36, fun a b => a <<< (b.toNat % 64)), (.shrImmediate, 0x37, fun a b => a >>> (b.toNat % 64)),
   (.sraImmediate, 0x38, fun a b => a.sshiftRight (b.toNat % 64)), (.minImmediate, 0x39, fun a b => if a.slt b then a else b),
   (.maxImmediate, 0x3A, fun a b => if a.slt b then b else a)]

/-- The FP32 operations of R154 and R155: constructors and opcodes of both forms, and result with flags. -/
def floatOps : List ((Tick → Nat → Instr) × Nat × (Tick → Nat → Instr) × Nat × (Nat → Nat → Nat × Nat)) :=
  [(.fadd, 0x1B, .faddImmediate, 0x3B, faddF), (.fmul, 0x1C, .fmulImmediate, 0x3C, fmulF),
   (.fmax, 0x1D, .fmaxImmediate, 0x3D, fun a b => (fmaxF a b, 0)),
   (.fmin, 0x1E, .fminImmediate, 0x3E, fun a b => (fminF a b, 0))]

/-- COND of BR (R145). -/
def brTaken (c : Nat) (a b : BitVec 64) : Prop :=
  match c with
  | 0 => a = b
  | 1 => a ≠ b
  | 2 => a.slt b = true
  | 3 => a.slt b = false
  | 4 => a.ult b = true
  | _ => a.ult b = false

/-- A token as an instruction of a cell passes it on: EPOCH is the cell's, SEQ comes later (R88, R143). -/
def Token.sent (t : Token) (e : Nat) : Token := { t with epoch := e, seq := 0 }

/-- A range of memory bytes holds these bytes, and every other byte is as before. -/
def StoredAt (s s' : State) (a : Nat) (l : List Byte) : Prop :=
  ∀ b, s'.byte b = if a ≤ b ∧ b < a + l.length then l.getD (b - a) 0 else s.byte b

/-- One fault has been recorded: its record has taken the next SEQ and, while the fault ring is off, waits on the chip and is
as `P` says. -/
def FaultRecorded (s s' : State) (P : FaultRec → Prop) : Prop :=
  s'.host.fltSeq = s.host.fltSeq + 1 ∧
  (s.ringOn 129 = false → s.host.faults.length < 64 →
    ∃ f, s'.host.faults = s.host.faults ++ [f] ∧ f.seq = s.host.fltSeq ∧ f.time = s.sn ∧ P f)

/-- One event has been posted: its record has taken the next SEQ and, while the event ring is off, waits on the chip with its code,
unit and count. -/
def EventPosted (s s' : State) (code unit : Nat) (count : Nat := 1) : Prop :=
  s'.host.evSeq = s.host.evSeq + 1 ∧
  (s.ringOn 128 = false → s.host.events.length < 32 →
    ∃ e, s'.host.events = s.host.events ++ [e] ∧ e.code = code ∧ e.unit = unit ∧ e.count = count ∧ e.seq = s.host.evSeq ∧
      e.time = s.sn)

/-- A plane has faulted with a code at its present address, CL_FAULT and one fault record say so, and no byte of memory
changes. -/
def PlaneFaulted (s s' : State) (n p code detail : Nat) : Prop :=
  (s'.pl n p).st = .faulted ∧ s'.reg (clB n + 0x40) = clFault code p (s.pl n p).pc detail ∧
  FaultRecorded s s' (fun f => f.code = code ∧ f.origin = 0 ∧ f.cell = some (n, p) ∧ f.bind = s.clBind n ∧
    f.epoch = s.clEpoch n ∧ f.pc = (s.pl n p).pc ∧ f.detail = detail) ∧
  ∀ a, s'.byte a = s.byte a

/-- Every queue of every cell but the queues `qs` of cell `n`. -/
def QueuesKeep (s s' : State) (n : Nat) (qs : List Nat) : Prop :=
  ∀ m q, ¬ (m = n ∧ q ∈ qs) → (s'.cell m).queue q = (s.cell m).queue q

/-- The request queues of every cell, and the requests that have left them. -/
def MqKeep (s s' : State) : Prop := ∀ m, (s'.cell m).outst = (s.cell m).outst ∧ ∀ i, (s'.cell m).mqq i = (s.cell m).mqq i

/-- The accumulators of every cell and their poison bit. -/
def AccKeep (s s' : State) : Prop := ∀ m, (s'.cell m).acc = (s.cell m).acc ∧ (s'.cell m).apsn = (s.cell m).apsn

/-- Every byte of memory. -/
def MemKeep (s s' : State) : Prop := ∀ a, s'.byte a = s.byte a

/-- The x registers of a plane but those in `ds`, and its counters. -/
def XKeep (v v' : Plane) (ds : List Nat) : Prop := (∀ i, i ∉ ds → v'.xb i = v.xb i) ∧ v'.k = v.k

/-- A token a cell makes. -/
def State.tok (s : State) (n kind payload : Nat) : Token :=
  { kind := kind, epoch := s.clEpoch n, seq := 0, payload := BitVec.ofNat 128 payload }

/-- The x registers of a pair that a destination operand names, if it names one. -/
def pairRegs (d : Nat) : List Nat := if isPair d then [2 * (d - 16), 2 * (d - 16) + 1] else []

/-- What DST of AOUT or ACT receives (R140, R141, R173): a pair takes the first result, or LASTKIND 4 while the
accumulators are poisoned; a queue takes the pending mark, then the results or poison, then the saturation mark. -/
def Emitted (s s' : State) (n p d : Nat) (toks : List Nat) (satmark : Bool) (flags : Nat) : Prop :=
  let c := s.cell n
  let v := s.pl n p
  let v' := s'.pl n p
  if isPair d then
    if c.apsn then XKeep v v' [] ∧ v'.mark = v.mark ∧ v'.flags = setFld v.flags 19 16 4
    else
      v'.pair (d - 16) = toks.headD 0 % 2 ^ 128 ∧ XKeep v v' (pairRegs d) ∧
      v'.flags = Nat.lor (setFld v.flags 19 16 0) flags ∧
      v'.mark = if satmark then some (v.mark.getD 0 ||| 1) else v.mark
  else
    (s'.cell n).queue (qoIdx d) = c.queue (qoIdx d) ++ (v.mark.toList.map fun m => s.tok n 3 m.toNat) ++
      (if c.apsn then [s.tok n 4 0]
       else toks.map (s.tok n 0) ++ if satmark then [s.tok n 3 1] else []) ∧
    XKeep v v' [] ∧ v'.mark = none ∧ v'.flags = if c.apsn then v.flags else Nat.lor v.flags flags

/-- DST of AOUT or ACT has room for all it is to receive. -/
abbrev emitRoom (s : State) (n p d k : Nat) : Prop :=
  isPair d = true ∨
  ((s.cell n).queue (qoIdx d)).length + (s.pl n p).mark.toList.length + (if (s.cell n).apsn then 1 else k) ≤ 16

/-- An incoming circuit of a cell accepts a token into queue `q` of the entry: the entry is valid and its sink is the
queue alone, CELL_RESET does not hold, and EPOCH and SEQ are as R88 asks. -/
abbrev State.accepts (s : State) (n port i q : Nat) (t : Token) : Prop :=
  bit ((s.cell n).inE port i) 0 = true ∧ fld ((s.cell n).inE port i) 2 1 = 0 ∧ fld ((s.cell n).inE port i) 5 3 = q ∧
  (s.cell n).resetHold = false ∧ ((s.cell n).queue q).length < 16 ∧ t.epoch = s.clEpoch n ∧
  ∀ l, Sparse.get (fun _ => none) (s.cell n).seqIn (port * 16 + i) = some l → (l + 1) % 16 = t.seq

/-! ### Engines -/

/-- The word of the present slot of a context. -/
def State.cxWord (s : State) (n : Nat) : Nat := s.slotWord n (s.cx n).slot

/-- The sequencer of a context can run the present slot, whose word has this opcode, names this context and breaks no rule of
R253: the context is live, at a ready slot, with no halt, reset or replay on it, and an engine instruction has its turn. -/
abbrev State.cxIssues (s : State) (n op : Nat) : Prop :=
  n < 100 ∧ s.engOn (engineOf n) = true ∧ s.cxLive n = true ∧ (s.cx n).phase = .ready ∧ (s.cx n).dbg = false ∧
  (s.cx n).stopReq = 0 ∧ s.rv.replay ≠ some n ∧ opE (s.cxWord n) = op ∧
  (op < 16 ∨ ((s.engine (engineOf n)).busy = none ∧ s.arbiter (engineOf n) = some n)) ∧ ctxE (s.cxWord n) = n ∧
  fld (s.cxWord n) 103 100 = 0 ∧ timedE (s.cxWord n) = false

/-- It can run the present slot, whose opcode is one that the engine of the context defines. -/
abbrev State.cxRuns (s : State) (n op : Nat) : Prop := s.cxIssues n op ∧ engDefines (engineOf n) op = true

/-- The sequencer has moved past its slot: to the next one, or past the last to where the command waits for its writes. -/
def CxAdvanced (s s' : State) (n : Nat) : Prop :=
  if ((s.cx n).slot + slots - s.cxHead n) % slots + 1 = (s.cx n).len then (s'.cx n).phase = .sealed
  else (s'.cx n).phase = .ready ∧ (s'.cx n).slot = ((s.cx n).slot + 1) % slots

/-- The sequencer waits at its slot. -/
def CxWaits (s s' : State) (n : Nat) : Prop :=
  s'.cxState n = 2 ∧ (s'.cx n).phase = .ready ∧ (s'.cx n).slot = (s.cx n).slot

/-- The instruction is in progress in the engine. -/
def CxBusy (s s' : State) (n : Nat) : Prop :=
  (s'.cx n).phase = .busy ∧ (s'.cx n).slot = (s.cx n).slot ∧ (s'.engine (engineOf n)).busy = some n

/-- A context has faulted at a slot: CX_STATUS, CX_FAULT and one fault record say so. -/
def CxFaulted (s s' : State) (n code : Nat) : Prop :=
  s'.cxState n = 4 ∧ s'.reg (cxB n + 0x28) = code + (s.cx n).slot % slots * 2 ^ 16 + 2 ^ 31 ∧
  FaultRecorded s s' (fun f => f.code = code ∧ f.ctx = some n ∧ f.bind = s.cxBind n ∧ f.epoch = s.cxEpoch n ∧
    f.pc = (s.cx n).slot % slots) ∧
  (s'.cx n).phase = .ready ∧ ∀ a, s'.byte a = s.byte a

/-- Consecutive addresses from `a` on. -/
def Consecutive : Nat → List MemReq → Prop
  | _, [] => True
  | a, r :: l => r.addr = a ∧ Consecutive (a + r.data.length) l

/-- Write requests of a context's present slot that carry these bytes to this address on. -/
def IsCut (s : State) (n : Nat) (poison : Bool) (p : Nat × List Byte) (rs : List MemReq) : Prop :=
  (rs.flatMap fun r => r.data) = p.2 ∧ Consecutive p.1 rs ∧
  ∀ r ∈ rs, r.write = true ∧ r.issuer = .ctx n (s.cx n).slot ∧ r.bind = s.cxBind n ∧ r.epoch = s.cxEpoch n ∧ r.poison = poison

/-- The writes of a list of pieces have been issued, in order, and nothing else. -/
def PiecesIssued (s s' : State) (n : Nat) (poison : Bool) (ps : List (Nat × List Byte)) : Prop :=
  ∃ rss : List (List MemReq), s'.mem.inflight = s.mem.inflight ++ rss.flatten ∧ rss.length = ps.length ∧
    ∀ x ∈ ps.zip rss, IsCut s n poison x.1 x.2

/-- The reader of the present instruction of a context. -/
def State.reader (s : State) (n : Nat) : Rd := { s := s.startTimeout n, n := n }

/-- The rows of a plain output as writes: each value in the element format of the tensor. -/
def TD.plainRows (t : TD) (satfp : Bool) (rows : List (List Num)) : List (Nat × List Byte) :=
  (rows.zip (List.range rows.length)).map fun r =>
    ((t.addr + r.2 * t.stride) % 2 ^ 64, packCodes t.ef.bits (r.1.map fun x => (t.ef.put satfp 0 x).1))

/-- The instructions of the vector engine: constructor, opcode, what they read and come to. -/
def vectorOps : List ((Tick → Nat → Instr) × Nat × (Rd → Nat → Rd × VxOut)) :=
  [(.vew, 0x20, Rd.vewOut), (.vred, 0x21, Rd.vredOut), (.softmax, 0x22, Rd.softmaxOut), (.normV, 0x23, Rd.normOut),
   (.vquant, 0x24, Rd.vquantOut)]

/-- The collectives: constructor, opcode, kind. -/
def collectiveOps : List ((Tick → Nat → Instr) × Nat × Nat) :=
  [(.allreduce, 0x40, 0), (.redscat, 0x41, 1), (.allgather, 0x42, 2), (.bcast, 0x43, 3)]

/-- The values a member of a collective at the root of its tree comes to, with every part at hand. -/
def State.rootResult (s : State) (c : Coll) (w : Nat) (own : List Nat) : List Nat :=
  match c.kind with
  | 0 => (s.combined c w own).1
  | 1 => c.slice c.rank (s.combined c w own).1
  | 2 => c.concat ((List.range c.p).map fun r =>
      if (r + c.p - c.root) % c.p = 0 then own else (s.partFull c ((r + c.p - c.root) % c.p) own.length).getD [])
  | _ => own

/-- The engine instructions that compute: constructor, opcode, meaning. -/
def engineOps : List ((Tick → Nat → Instr) × Nat × EngSem) :=
  [(.mat, 0x10, matSem), (.vew, 0x20, vewSem), (.vred, 0x21, vredSem), (.softmax, 0x22, softmaxSem), (.normV, 0x23, normSem),
   (.vquant, 0x24, vquantSem), (.tbuild, 0x30, tbuildSem), (.sampleTok, 0x38, sampleSem), (.allreduce, 0x40, collSem 0),
   (.redscat, 0x41, collSem 1), (.allgather, 0x42, collSem 2), (.bcast, 0x43, collSem 3), (.crc, 0x50, crcSem),
   (.ipsum, 0x51, ipsumSem), (.shake, 0x52, shakeSem), (.slhver, 0x53, slhverSem), (.slhsign, 0x54, slhsignSem),
   (.copyMem, 0x80, copySem), (.copy2d, 0x81, copy2dSem), (.gather, 0x82, gatherSem), (.scatter, 0x83, scatterSem),
   (.fillMem, 0x84, fillSem)]

/-! ### Nenath and memory -/

/-- A message leaves by a port: it waits while the port is not UP or has 64 flits to be acknowledged, and with credit and
nothing before it it becomes a DATA flit that the replay buffer keeps (R437, R446). -/
def Passes (s s' : State) (p : Nat) (m : Msg) : Prop :=
  let a := s.np p
  let b := s'.np p
  (s.npState p ≠ 2 ∨ 64 ≤ a.replay.length → b.tx = a.tx ++ [m] ∧ b.replay = a.replay ∧ b.credit = a.credit) ∧
  (s.npState p = 2 → a.replay.length < 64 → a.tx = [] → 1 + m.units ≤ Sparse.get (fun _ => 0) a.credit m.vc →
    b.tx = [] ∧ (∃ f, b.replay = a.replay ++ [f] ∧ f.seq = a.txSeq ∧ f.sent = s.clk.now) ∧ b.txSeq = (a.txSeq + 1) % 4096 ∧
    Sparse.get (fun _ => 0) b.credit m.vc = Sparse.get (fun _ => 0) a.credit m.vc - (1 + m.units))

/-- The commands that act on one message at a source, with the operation of the message. -/
def messageOps : List ((Tick → Nat → Instr) × Nat) :=
  [(.readMsg, 0), (.writeMsg, 1), (.readData, 2), (.writeAck, 3), (.epochMismatch, 4), (.unmappedAns, 5), (.noRouteAns, 6),
   (.recoveringAns, 7), (.probeMsg, 8), (.readyMsg, 9), (.collMsg, 10)]

/-- The answers that end a request, with operation and the code the master sees. -/
def answerOps : List ((Tick → Nat → Instr) × Nat × Nat) :=
  [(.readData, 2, 0), (.writeAck, 3, 0), (.epochMismatch, 4, Code.EPOCH_MISMATCH), (.unmappedAns, 5, Code.UNMAPPED),
   (.noRouteAns, 6, Code.NO_ROUTE)]

/-- The target holds plain bytes: DRAM, Shared Store, cell SRAM or host memory. -/
def Target.plain : Target → Bool
  | .dram _ => true
  | .store => true
  | .sram _ => true
  | .host => true
  | _ => false

/-- Every byte of a range of local offsets is plain. -/
def State.plainRange (s : State) (off n : Nat) : Prop := ∀ b, off ≤ b → b < off + n → (s.target b).plain = true

/-- The claimed frame of a port whose bad verdict has reached the composer first (R425). -/
def State.verdictNext (s : State) (port : Nat) : Option (Nat × PFrame) :=
  let ready (f : PFrame) : Bool :=
    f.port == port && !f.applied && match f.verdict with | some (bad, st) => bad && decide (st + paDelay ≤ s.sn) | none => false
  s.pa.ctxs.findSome? fun c => (c.2.frames.find? ready).map fun f => (c.1, f)

/-! ### Invariants -/

/-- The memory is in its canonical form. -/
def MemoryCanonical (s : State) : Prop := Memory.wf s.mem.bytes = true

/-- A part whose ZEROISED fuse is blown holds no identity seed and no derived key (R567). -/
def ZeroisedHolds (s : State) : Prop := s.fuse.zeroised = true → s.fuse.seed = false ∧ s.se.keys = false

end Sys2Proof.Machine
end

