-- ==== Sys2Proof/Certificates/Slice0/Obligations.lean ====
section
/-! DEFINITION. The statements for the provers: each formalises rules of the manual about the part or its commands. -/

open Sys2Proof Sys2Proof.Machine

/-! ### The queue of commands, and reset -/

/-- A step takes the command at the front of the queue and is that command's effect on the state that holds the rest; with
no command waiting the block idles, which is the model's own choice (log entry 1). -/
def Obligations.StepRunsFrontCommand : Prop :=
  (∀ (c : Instr) (rest : List Instr) (s : State), s.pending = c :: rest → step s = exec c { s with pending := rest }) ∧
  ∀ s : State, s.pending = [] → step s = .next s

/-- After reset every register reads the reset value of its table, cells, engines, channels, lanes, ports, rings, stages and memory
hold nothing and nothing has left the part, start-up is at phase 0 with PW00 on and every other domain off, the memory is in its
canonical form, and the rule of zeroisation holds (R13, R552, R556, R558, R567); the values that the manual does not give are the
model's choice (log entries 4 and 6). -/
def Obligations.ResetState : Prop :=
  (∀ o, State.reset.reg o = (regReset o).toNat) ∧ State.reset.bootPhase = 0 ∧ State.reset.ready = false ∧
  State.reset.rf (pwB 0 + 4) 1 0 = 2 ∧ (∀ d, d < 30 → d ≠ 0 → State.reset.domOn d = false) ∧
  (∀ n q, (State.reset.cell n).queue q = []) ∧ (∀ n, (State.reset.cx n).phase = .none) ∧ State.reset.lat = {} ∧
  State.reset.eng = {} ∧ State.reset.tg = {} ∧ State.reset.lanes = [] ∧ State.reset.eth = {} ∧ State.reset.pa = {} ∧
  State.reset.nen = {} ∧ State.reset.host = {} ∧ State.reset.stages = [] ∧ State.reset.out = [] ∧ State.reset.mem = {} ∧
  State.reset.pending = [] ∧
  MemoryCanonical State.reset ∧ ZeroisedHolds State.reset

/-- Every step keeps the memory in its canonical form: addresses strictly rising and no entry equal to what an unlisted
address reads as. -/
def Obligations.StepKeepsMemoryCanonical : Prop :=
  ∀ s s' : State, MemoryCanonical s → step s = .next s' → MemoryCanonical s'

/-- Every step keeps the rule of zeroisation: a part whose ZEROISED fuse is blown holds neither seed nor key (R567). -/
def Obligations.StepKeepsZeroised : Prop :=
  ∀ s s' : State, ZeroisedHolds s → step s = .next s' → ZeroisedHolds s'

/-! ### Cells: scalar, counter, flag and control instructions -/

/-- R150, in the register and the immediate forms, whose second operand is IMM sign-extended to 64 bits: xRD becomes the 64-bit
result; every other register, FLAGS, queue, accumulator and byte of memory is as before, and the address advances by one. -/
def Obligations.ScalarForms : Prop :=
  (∀ r ∈ scalarOps, CellRow r.1 r.2.1 (fun w => okS w true true true) fun s1 n p w v s' =>
    (s'.pl n p).xb (rdS w) = r.2.2 (v.xb (raS w)) (v.xb (rbS w)) ∧ PlaneFrameX v (s'.pl n p) (rdS w) ∧
    (s'.pl n p).flags = v.flags ∧ CellFrame s1 s') ∧
  ∀ r ∈ scalarImmOps, CellRow r.1 r.2.1 (fun w => okS w true true false) fun s1 n p w v s' =>
    (s'.pl n p).xb (rdS w) = r.2.2 (v.xb (raS w)) ((BitVec.ofNat 32 (immS w)).signExtend 64) ∧
    PlaneFrameX v (s'.pl n p) (rdS w) ∧ (s'.pl n p).flags = v.flags ∧ CellFrame s1 s'

/-- FADD, FMUL, FMAX and FMIN work on the low words and clear the high word; the immediate forms take IMM as FP32 bits;
the indications of the operation are added to FLAGS.  CVT converts by RB: INT32 to FP32, and FP32 to INT32. -/
def Obligations.FloatForms : Prop :=
  (∀ r ∈ floatOps,
    (CellRow r.1 r.2.1 (fun w => okS w true true true) fun s1 n p w v s' =>
      let x := r.2.2.2.2 ((v.xb (raS w)).toNat % 2 ^ 32) ((v.xb (rbS w)).toNat % 2 ^ 32)
      (s'.pl n p).xb (rdS w) = BitVec.ofNat 64 x.1 ∧ x.1 < 2 ^ 32 ∧ (s'.pl n p).flags = Nat.lor v.flags x.2 ∧
      PlaneFrameX v (s'.pl n p) (rdS w) ∧ CellFrame s1 s') ∧
    CellRow r.2.2.1 r.2.2.2.1 (fun w => okS w true true false) fun s1 n p w v s' =>
      let x := r.2.2.2.2 ((v.xb (raS w)).toNat % 2 ^ 32) (immS w)
      (s'.pl n p).xb (rdS w) = BitVec.ofNat 64 x.1 ∧ x.1 < 2 ^ 32 ∧ (s'.pl n p).flags = Nat.lor v.flags x.2 ∧
      PlaneFrameX v (s'.pl n p) (rdS w) ∧ CellFrame s1 s') ∧
  CellRow .cvt 0x1F (fun w => okS w true true true && decide (rbS w < 2)) fun s1 n p w v s' =>
    let a := (v.xb (raS w)).toNat
    let x := if rbS w = 0 then (cvtToF a, 0) else cvtToI (a % 2 ^ 32)
    (s'.pl n p).xb (rdS w) = BitVec.ofNat 64 x.1 ∧ (s'.pl n p).flags = Nat.lor v.flags x.2 ∧
    PlaneFrameX v (s'.pl n p) (rdS w) ∧ CellFrame s1 s'

/-- MOVI, MOVHI, RDT, RDFLG, KTOX and AMAX write an x register (RDT a pair), KSET and XTOK a counter, CLRFLG clears the
selected bits of FLAGS but APSN and LASTKIND; no other register of any plane, queue, accumulator, CL register or byte of memory
changes, and the address advances by one (R139, R149, R157, R160). -/
def Obligations.MoveCounterFlagForms : Prop :=
  (CellRow .movi 0x20 (fun w => okS w true false false) fun s1 n p w v s' =>
    (s'.pl n p).xb (rdS w) = (BitVec.ofNat 32 (immS w)).signExtend 64 ∧ PlaneFrameX v (s'.pl n p) (rdS w) ∧
    (s'.pl n p).flags = v.flags ∧ CellFrame s1 s') ∧
  (CellRow .movhi 0x21 (fun w => okS w true false false) fun s1 n p w v s' =>
    (s'.pl n p).xb (rdS w) = BitVec.ofNat 32 (immS w) ++ (v.xb (rdS w)).extractLsb' 0 32 ∧
    PlaneFrameX v (s'.pl n p) (rdS w) ∧ (s'.pl n p).flags = v.flags ∧ CellFrame s1 s') ∧
  (CellRow .rdt 0x22 (fun w => okS w true false false && rdS w % 2 == 0) fun s1 n p w v s' =>
    (s'.pl n p).pair (rdS w / 2) = pack96 s1.sn % 2 ^ 128 ∧ (∀ i, i ≠ rdS w → i ≠ rdS w + 1 → (s'.pl n p).xb i = v.xb i) ∧
    (s'.pl n p).k = v.k ∧ (s'.pl n p).flags = v.flags ∧ (s'.pl n p).mark = v.mark ∧ (s'.pl n p).pc = v.nextPc ∧
    CellFrame s1 s') ∧
  (CellRow .rdflg 0x09 (fun w => okS w true false false) fun s1 n p w v s' =>
    (s'.pl n p).xb (rdS w) = BitVec.ofNat 64 ((s1.cell n).flagsOf p) ∧ PlaneFrameX v (s'.pl n p) (rdS w) ∧
    (s'.pl n p).flags = v.flags ∧ CellFrame s1 s') ∧
  (CellRow .ktox 0x0C (fun w => okS w true true false && decide (raS w < 8)) fun s1 n p w v s' =>
    (s'.pl n p).xb (rdS w) = BitVec.ofNat 64 (v.kr (raS w)) ∧ PlaneFrameX v (s'.pl n p) (rdS w) ∧
    (s'.pl n p).flags = v.flags ∧ CellFrame s1 s') ∧
  (CellRow .amax 0x23 (fun w => okS w true false true && decide (rbS w < 2)) fun s1 n p w v s' =>
    let l := (List.range 16).map (s1.cell n).accr
    (s'.pl n p).xb (rdS w) = BitVec.ofNat 64 (if rbS w = 0 then amaxI l else amaxF l) ∧ PlaneFrameX v (s'.pl n p) (rdS w) ∧
    (s'.pl n p).flags = v.flags ∧ CellFrame s1 s') ∧
  (CellRow .kset 0x0B (fun w => okS w true false false && decide (rdS w < 8)) fun s1 n p w v s' =>
    (s'.pl n p).kr (rdS w) = immS w ∧ PlaneFrameK v (s'.pl n p) (rdS w) ∧ (s'.pl n p).pc = v.nextPc ∧ CellFrame s1 s') ∧
  (CellRow .xtok 0x0D (fun w => okS w true true false && decide (rdS w < 8)) fun s1 n p w v s' =>
    (s'.pl n p).kr (rdS w) = (v.xb (raS w)).toNat % 2 ^ 32 ∧ PlaneFrameK v (s'.pl n p) (rdS w) ∧
    (s'.pl n p).pc = v.nextPc ∧ CellFrame s1 s') ∧
  CellRow .clrflg 0x0A (fun w => okS w false false false) fun s1 n p w v s' =>
    (∀ i, (s'.pl n p).flags.testBit i = (v.flags.testBit i && !((immS w).testBit i && (decide (i ≤ 4) || i == 6)))) ∧
    (s'.pl n p).x = v.x ∧ (s'.pl n p).k = v.k ∧ (s'.pl n p).mark = v.mark ∧ (s'.pl n p).pc = v.nextPc ∧ CellFrame s1 s'

/-- NOP only advances; HALT halts the plane on the next address; ROT passes the turn; JMP, BR and BRF set the address by
their rule; LOOP and KCYC count and branch, and none of them changes another register of any plane, a queue, an accumulator, a CL
register or a byte of memory; a KCYC with IMM20 = 0 raises INVALID_FIELD (R113, R145, R149, R151 to R153). -/
def Obligations.ControlForms : Prop :=
  (CellRow .nop 0x00 (fun w => okB w false false) fun s1 n p _ v s' =>
    (s'.pl n p).pc = v.nextPc ∧ PlaneKeep v (s'.pl n p) ∧ CellFrame s1 s') ∧
  (CellRow .halt 0x01 (fun w => okB w false false) fun s1 n p _ v s' =>
    (s'.pl n p).st = .halted ∧ (s'.pl n p).pc = v.nextPc ∧ PlaneKeep v (s'.pl n p) ∧ CellFrame s1 s') ∧
  (CellRow .rot 0x02 (fun w => okB w false false) fun s1 n p _ v s' =>
    (s'.pl n p).pc = v.nextPc ∧ PlaneKeep v (s'.pl n p) ∧
    (s1.factor n ≠ 0 → v.step = false → (s'.cell n).turn = s1.nextPlane n p ∧ (s'.cell n).turnCnt = 0) ∧ CellFrame s1 s') ∧
  (CellRow .jmp 0x03 (fun w => okB w false false) fun s1 n p w v s' =>
    (s'.pl n p).pc = targetB w ∧ PlaneKeep v (s'.pl n p) ∧ CellFrame s1 s') ∧
  (CellRow .br 0x04 (fun w => okB w true false) fun s1 n p w v s' =>
    (brTaken (condB w) (v.xb (raB w)) (v.xb (rbB w)) → (s'.pl n p).pc = targetB w) ∧
    (¬ brTaken (condB w) (v.xb (raB w)) (v.xb (rbB w)) → (s'.pl n p).pc = v.nextPc) ∧ PlaneKeep v (s'.pl n p) ∧
    CellFrame s1 s') ∧
  (CellRow .brf 0x05 (fun w => okB w false false && decide (imm20B w < 128)) fun s1 n p w v s' =>
    (s'.pl n p).pc = (if (List.range 7).any (fun i => (imm20B w).testBit i && ((s1.cell n).flagsOf p).testBit i) then targetB w
      else v.nextPc) ∧
    PlaneKeep v (s'.pl n p) ∧ CellFrame s1 s') ∧
  (CellRow .loopI 0x06 (fun w => okB w false true) fun s1 n p w v s' =>
    (s'.pl n p).kr (kB w) = v.kr (kB w) - 1 ∧ (s'.pl n p).pc = (if v.kr (kB w) = 0 then v.nextPc else targetB w) ∧
    PlaneFrameK v (s'.pl n p) (kB w) ∧ CellFrame s1 s') ∧
  (CellRow .kcyc 0x07 (fun w => okB w false true && imm20B w != 0) fun s1 n p w v s' =>
    let k := (v.kr (kB w) + 1) % 2 ^ 32
    (s'.pl n p).kr (kB w) = (if imm20B w ≤ k then 0 else k) ∧
    (s'.pl n p).pc = (if imm20B w ≤ k then targetB w else v.nextPc) ∧ PlaneFrameK v (s'.pl n p) (kB w) ∧ CellFrame s1 s') ∧
  CellRow .kcyc 0x07 (fun w => okB w false true && imm20B w == 0) fun s1 n p _ _ s' =>
    PlaneFaulted s1 s' n p Code.INVALID_FIELD 0

/-- FAULT raises PROGRAM_FAULT, and a word whose opcode is not in the table raises INVALID_OPCODE: the plane faults at its
address, CL_FAULT and one fault record say so, and no memory changes (R127, R133, R135, R152). -/
def Obligations.FaultingForms : Prop :=
  (CellRow .faultI 0x08 (fun w => okS w false false false && decide (immS w < 2 ^ 16)) fun s1 n p _ _ s' =>
    PlaneFaulted s1 s' n p Code.PROGRAM_FAULT 0) ∧
  ∀ (t : Tick) (n : Nat) (s : State),
    let s1 := s.advanceTo t
    s1.canRun n = true → s1.turnOver n = false → definedOp (opF (s1.curWord n)) = false →
    Completes (.undefinedCellOpcode t n) s fun s' => PlaneFaulted s1 s' n (s1.cell n).turn Code.INVALID_OPCODE 0

/-! ### Cells: queues, SRAM, requests, the MAC slab, steering -/

/-- MOV moves one token or register pair, DROP consumes one token, WAITQ and WAITT complete once their condition holds; each
advances the address, and no other register of any plane, queue, request queue, accumulator, CL register or byte of memory changes
(R143, R158 to R160). -/
def Obligations.QueueForms : Prop :=
  ∀ (t : Tick) (n : Nat) (s : State),
    let s1 := s.advanceTo t
    let p := (s1.cell n).turn
    let w := s1.curWord n
    let a := srcaQ w
    let d := dstQ w
    let v := s1.pl n p
    (s1.issues n 0x40 → okQ w (isSrcQ a || isDstQ d) = true → isSrc a = true → isDst d = true →
      (if isPair a && isDstQ d then fmtQ w ≤ 4 else fmtQ w = 0) →
      ∀ k, s1.srcTok n p a = some k → k.kind < 5 → (isPair d = true ∨ ((s1.cell n).queue (qoIdx d)).length < 16) →
      Completes (.mov t n) s fun s' =>
        (isSrcQ a = true → (s'.cell n).queue a = ((s1.cell n).queue a).drop 1) ∧
        (isDstQ d = true → (s'.cell n).queue (qoIdx d) = (s1.cell n).queue (qoIdx d) ++
          [s1.tok n (if isPair a then fmtQ w else k.kind) k.payload.toNat]) ∧
        (isPair d = true → (s'.pl n p).pair (d - 16) = k.payload.toNat) ∧
        (s'.pl n p).flags = (if isSrcQ a && isPair d then setFld v.flags 19 16 k.kind else v.flags) ∧
        XKeep v (s'.pl n p) (pairRegs d) ∧ (s'.pl n p).mark = v.mark ∧ (s'.pl n p).pc = v.nextPc ∧
        QueuesKeep s1 s' n ((if isSrcQ a then [a] else []) ++ if isDstQ d then [qoIdx d] else []) ∧
        MqKeep s1 s' ∧ AccKeep s1 s' ∧ ClKeep s1 s' ∧ MemKeep s1 s' ∧ OthersKeep s1 s' n p) ∧
    (s1.issues n 0x41 → okQ w true = true → isSrcQ a = true → d = 24 → (s1.cell n).queue a ≠ [] →
      Completes (.dropTok t n) s fun s' =>
        (s'.cell n).queue a = ((s1.cell n).queue a).drop 1 ∧ QueuesKeep s1 s' n [a] ∧ (s'.pl n p).pc = v.nextPc ∧
        PlaneKeep v (s'.pl n p) ∧ MqKeep s1 s' ∧ AccKeep s1 s' ∧ ClKeep s1 s' ∧ MemKeep s1 s' ∧ OthersKeep s1 s' n p) ∧
    (s1.issues n 0x42 → okQ w true = true → ((a = 24 ∧ d ≤ 9) ∨ (d = 24 ∧ a ≤ 9)) →
      1 ≤ fld (modQ w) 5 0 → fld (modQ w) 5 0 ≤ (s1.waitqFill n w).2 →
      fld (modQ w) 5 0 ≤ (if a = 24 then (s1.waitqFill n w).2 - (s1.waitqFill n w).1 else (s1.waitqFill n w).1) →
      Completes (.waitq t n) s fun s' =>
        (s'.pl n p).pc = v.nextPc ∧ PlaneKeep v (s'.pl n p) ∧ CellFrame s1 s' ∧ OthersKeep s1 s' n p) ∧
    (s1.issues n 0x43 → okQ w true = true → isPair a = true → d = 24 → v.deadline = none →
      unpack96 (v.pair (a - 16) % 2 ^ 96) ≤ s1.sn →
      Completes (.waitt t n) s fun s' =>
        (s'.pl n p).pc = v.nextPc ∧ PlaneKeep v (s'.pl n p) ∧ CellFrame s1 s' ∧ OthersKeep s1 s' n p)

/-- MOV of an empty source queue, and LDS to a full queue, leave registers, queues, accumulators and memory as they are and wait at
their address from the instant at which they found it so (R93, R95, R132). -/
def Obligations.UnmetConditionsWait : Prop :=
  ∀ (t : Tick) (n : Nat) (s : State),
    let s1 := s.advanceTo t
    let p := (s1.cell n).turn
    let w := s1.curWord n
    let v := s1.pl n p
    let waits (s' : State) : Prop :=
      (s'.pl n p).st = .waiting ∧ (s'.pl n p).waitFrom = some (v.waitFrom.getD s1.sn) ∧ (s'.pl n p).pc = v.pc ∧
      PlaneKeep v (s'.pl n p) ∧ CellFrame s1 s' ∧ OthersKeep s1 s' n p
    (s1.issues n 0x40 → okQ w true = true → isSrcQ (srcaQ w) = true → isDst (dstQ w) = true → fmtQ w = 0 →
      (s1.cell n).queue (srcaQ w) = [] → Completes (.mov t n) s waits) ∧
    (s1.issues n 0x50 → okM w true false = true → isDstQ (opndM w) = true → v.addr w % 16 = 0 → v.addr w + 16 ≤ 49152 →
      16 ≤ ((s1.cell n).queue (qoIdx (opndM w))).length → Completes (.lds t n) s waits)

/-- The SRAM instructions with an aligned address inside the 48 KiB: LDS, LDX and ACCLD read the bytes from the address on;
STS (of a data token), STX and ACCST store them there and nowhere else; a queue operand is pushed or popped once; no other
register of any plane, queue, accumulator, CL register or byte of memory changes, and the address advances by one (R141, R161,
R162). -/
def Obligations.SramForms : Prop :=
  ∀ (t : Tick) (n : Nat) (s : State),
    let s1 := s.advanceTo t
    let p := (s1.cell n).turn
    let w := s1.curWord n
    let o := opndM w
    let v := s1.pl n p
    let a := v.addr w
    let at_ := sramAt n a
    (s1.issues n 0x50 → okM w (isDstQ o) false = true → isDst o = true → a % 16 = 0 → a + 16 ≤ 49152 →
      (isPair o = true ∨ ((s1.cell n).queue (qoIdx o)).length < 16) →
      Completes (.lds t n) s fun s' =>
        (isDstQ o = true → (s'.cell n).queue (qoIdx o) = (s1.cell n).queue (qoIdx o) ++ [s1.tok n 0 (s1.leMem at_ 16)]) ∧
        (isPair o = true → (s'.pl n p).pair (o - 16) = s1.leMem at_ 16) ∧
        XKeep v (s'.pl n p) (pairRegs o) ∧ (s'.pl n p).flags = v.flags ∧ (s'.pl n p).mark = v.mark ∧ (s'.pl n p).pc = v.nextPc ∧
        QueuesKeep s1 s' n (if isDstQ o then [qoIdx o] else []) ∧ MqKeep s1 s' ∧ AccKeep s1 s' ∧ ClKeep s1 s' ∧
        MemKeep s1 s' ∧ OthersKeep s1 s' n p) ∧
    (s1.issues n 0x51 → okM w (isSrcQ o) false = true → isSrc o = true → a % 16 = 0 → a + 16 ≤ 49152 →
      ∀ k, s1.srcTok n p o = some k → k.kind = 0 →
      Completes (.sts t n) s fun s' =>
        StoredAt s1 s' at_ (leBytes 16 k.payload.toNat) ∧
        (isSrcQ o = true → (s'.cell n).queue o = ((s1.cell n).queue o).drop 1) ∧
        PlaneKeep v (s'.pl n p) ∧ (s'.pl n p).pc = v.nextPc ∧ QueuesKeep s1 s' n (if isSrcQ o then [o] else []) ∧
        MqKeep s1 s' ∧ AccKeep s1 s' ∧ ClKeep s1 s' ∧ OthersKeep s1 s' n p) ∧
    (s1.issues n 0x52 → okM w false false = true → o < 16 → a % 8 = 0 → a + 8 ≤ 49152 →
      Completes (.ldx t n) s fun s' =>
        ((s'.pl n p).xb o).toNat = s1.leMem at_ 8 ∧ PlaneFrameX v (s'.pl n p) o ∧ (s'.pl n p).flags = v.flags ∧
        CellFrame s1 s' ∧ OthersKeep s1 s' n p) ∧
    (s1.issues n 0x53 → okM w false false = true → o < 16 → a % 8 = 0 → a + 8 ≤ 49152 →
      Completes (.stx t n) s fun s' =>
        StoredAt s1 s' at_ (leBytes 8 (v.xb o).toNat) ∧ PlaneKeep v (s'.pl n p) ∧ (s'.pl n p).pc = v.nextPc ∧
        QueuesKeep s1 s' n [] ∧ MqKeep s1 s' ∧ AccKeep s1 s' ∧ ClKeep s1 s' ∧ OthersKeep s1 s' n p) ∧
    (s1.issues n 0x54 → okM w false false = true → o = 24 → a % 64 = 0 → a + 64 ≤ 49152 →
      Completes (.accld t n) s fun s' =>
        (∀ i, i < 16 → (s'.cell n).accr i = s1.leMem (at_ + 4 * i) 4) ∧ (s'.cell n).apsn = false ∧
        (∀ m, m ≠ n → (s'.cell m).acc = (s1.cell m).acc ∧ (s'.cell m).apsn = (s1.cell m).apsn) ∧
        PlaneKeep v (s'.pl n p) ∧ (s'.pl n p).pc = v.nextPc ∧ QueuesKeep s1 s' n [] ∧ MqKeep s1 s' ∧ ClKeep s1 s' ∧
        MemKeep s1 s' ∧ OthersKeep s1 s' n p) ∧
    (s1.issues n 0x55 → okM w false false = true → o = 24 → a % 64 = 0 → a + 64 ≤ 49152 →
      Completes (.accst t n) s fun s' =>
        StoredAt s1 s' at_ ((List.range 16).flatMap fun i => leBytes 4 ((s1.cell n).accr i)) ∧
        PlaneKeep v (s'.pl n p) ∧ (s'.pl n p).pc = v.nextPc ∧ QueuesKeep s1 s' n [] ∧ MqKeep s1 s' ∧ AccKeep s1 s' ∧
        ClKeep s1 s' ∧ OthersKeep s1 s' n p)

/-- The SRAM instructions on an address that is not aligned to their access raise MISALIGNED, and on one that is but whose access
reaches past byte 49,151 ADDR_RANGE; SRAM, registers, accumulators and source queues stay as they were (R161). -/
def Obligations.SramAddressFaults : Prop :=
  ∀ (t : Tick) (n : Nat) (s : State),
    let s1 := s.advanceTo t
    let p := (s1.cell n).turn
    let w := s1.curWord n
    let o := opndM w
    let a := (s1.pl n p).addr w
    let faults (c : Instr) (code : Nat) : Prop := Completes c s fun s' =>
      PlaneFaulted s1 s' n p code 0 ∧ PlaneKeep (s1.pl n p) (s'.pl n p) ∧
      (∀ m q, q < 16 → (s'.cell m).queue q = (s1.cell m).queue q) ∧ AccKeep s1 s'
    let bounds (c : Instr) (len : Nat) : Prop :=
      (a % len ≠ 0 → faults c Code.MISALIGNED) ∧ (a % len = 0 → 49152 < a + len → faults c Code.ADDR_RANGE)
    (s1.issues n 0x50 → okM w (isDstQ o) false = true → isDst o = true → bounds (.lds t n) 16) ∧
    (s1.issues n 0x51 → okM w (isSrcQ o) false = true → isSrc o = true → bounds (.sts t n) 16) ∧
    (s1.issues n 0x52 → okM w false false = true → o < 16 → bounds (.ldx t n) 8) ∧
    (s1.issues n 0x53 → okM w false false = true → o < 16 → bounds (.stx t n) 8) ∧
    (s1.issues n 0x54 → okM w false false = true → o = 24 → bounds (.accld t n) 64) ∧
    (s1.issues n 0x55 → okM w false false = true → o = 24 → bounds (.accst t n) 64)

/-- MLD and MST with a 16-byte aligned address place one request in their request queue; MQ_REQUEST_ISSUE sends the
oldest; the answer to a read arrives as a data token of the response queue (R98, R163, R164, R464). -/
def Obligations.CellRequests : Prop :=
  ∀ (t : Tick) (n : Nat) (s : State),
    let s1 := s.advanceTo t
    let p := (s1.cell n).turn
    let w := s1.curWord n
    let v := s1.pl n p
    let entry (wr ans : Bool) (data : QWord) : MqEntry :=
      { write := wr, addr := v.addr w, data := data, answered := ans, plane := p, epoch := s1.clEpoch n, pc := v.pc }
    (s1.issues n 0x58 → okM w true false = true → opndM w = 24 → v.addr w % 16 = 0 →
      ((s1.cell n).mqq (mqM w)).length < 32 →
      Completes (.mld t n) s fun s' =>
        (s'.cell n).mqq (mqM w) = (s1.cell n).mqq (mqM w) ++ [entry false true 0] ∧
        (∀ m i, ¬ (m = n ∧ i = mqM w) → (s'.cell m).mqq i = (s1.cell m).mqq i) ∧ PlaneKeep v (s'.pl n p) ∧
        (s'.pl n p).pc = v.nextPc ∧ QueuesKeep s1 s' n [] ∧ AccKeep s1 s' ∧ ClKeep s1 s' ∧ MemKeep s1 s' ∧
        OthersKeep s1 s' n p) ∧
    (s1.issues n 0x59 → okM w true true = true → isSrc (opndM w) = true → v.addr w % 16 = 0 →
      ((s1.cell n).mqq (mqM w)).length < 32 → ∀ k, s1.srcTok n p (opndM w) = some k → k.kind = 0 →
      Completes (.mst t n) s fun s' =>
        (s'.cell n).mqq (mqM w) = (s1.cell n).mqq (mqM w) ++ [entry true (cM w) k.payload] ∧
        (∀ m i, ¬ (m = n ∧ i = mqM w) → (s'.cell m).mqq i = (s1.cell m).mqq i) ∧
        (isSrcQ (opndM w) = true → (s'.cell n).queue (opndM w) = ((s1.cell n).queue (opndM w)).drop 1) ∧
        QueuesKeep s1 s' n (if isSrcQ (opndM w) then [opndM w] else []) ∧ PlaneKeep v (s'.pl n p) ∧
        (s'.pl n p).pc = v.nextPc ∧ AccKeep s1 s' ∧ ClKeep s1 s' ∧ MemKeep s1 s' ∧ OthersKeep s1 s' n p) ∧
    (∀ mq e r, s1.cellOn n = true → (s1.cell n).mqq mq = e :: r →
      (e.answered = true → ((s1.cell n).queue (8 + mq)).length + (s1.cell n).reserved mq < 32) →
      Completes (.mqRequestIssue t n mq) s fun s' =>
        (s'.cell n).mqq mq = r ∧
        s'.mem.inflight = s1.mem.inflight ++
          [{ id := s1.mem.nextId, issuer := .cell n e.plane mq e.answered, addr := e.addr, write := e.write, len := 16
             data := if e.write then leBytes 16 e.data.toNat else [], bind := s1.clBind n, epoch := e.epoch }] ∧
        (s'.cell n).outst = (s1.cell n).outst ++ [{ mq := mq, id := s1.mem.nextId, answered := e.answered, pc := e.pc }] ∧
        (∀ m i, ¬ (m = n ∧ i = mq) → (s'.cell m).mqq i = (s1.cell m).mqq i) ∧
        (∀ m, m ≠ n → (s'.cell m).outst = (s1.cell m).outst) ∧ s'.regs = s1.regs ∧
        QueuesKeep s1 s' n [] ∧ AccKeep s1 s' ∧ ClKeep s1 s' ∧ MemKeep s1 s' ∧ PlanesKeep s1 s') ∧
    ∀ mq o a, s1.nextAnswer n mq = some (o, a) → o.dead = false → a.req.epoch = s1.clEpoch n → o.answered = true →
      a.code = 0 → a.poison = false → a.req.write = false →
      Completes (.memoryResponseArrive t n mq) s fun s' =>
        (s'.cell n).queue (8 + mq) = (s1.cell n).queue (8 + mq) ++ [s1.tok n 0 (ofLe a.data)] ∧
        (s'.cell n).outst = (s1.cell n).outst.filter (fun x => x.id != o.id) ∧
        (∀ m, m ≠ n → (s'.cell m).outst = (s1.cell m).outst) ∧ (∀ m i, (s'.cell m).mqq i = (s1.cell m).mqq i) ∧
        s'.mem.answers = s1.mem.answers.filter (fun x => x.req.id != o.id) ∧ s'.regs = s1.regs ∧ QueuesKeep s1 s' n [8 + mq] ∧
        AccKeep s1 s' ∧ ClKeep s1 s' ∧ MemKeep s1 s' ∧ PlanesKeep s1 s'

/-- WAVE and AADD in their integer formats: every accumulator becomes the sum limited to 32 bits, ASAT says whether one was
limited, and CLR starts from 0 and clears APSN (R165 to R167, R169); in the floating-point formats each accumulator and the
flags are those of the one sum of R168, or of FADD; the operand is consumed, and no other register, queue, accumulator or byte of
memory changes. -/
def Obligations.MacForms : Prop :=
  ∀ (t : Tick) (n : Nat) (s : State),
    let s1 := s.advanceTo t
    let p := (s1.cell n).turn
    let w := s1.curWord n
    let a := srcaQ w
    let m := modQ w
    let c := s1.cell n
    let v := s1.pl n p
    let keep (s' : State) : Prop :=
      (isSrcQ a = true → (s'.cell n).queue a = (c.queue a).drop 1) ∧
      QueuesKeep s1 s' n (if isSrcQ a then [a] else []) ∧ (s'.pl n p).x = v.x ∧ (s'.pl n p).k = v.k ∧
      (s'.pl n p).mark = v.mark ∧ (s'.pl n p).pc = v.nextPc ∧ MqKeep s1 s' ∧ ClKeep s1 s' ∧ MemKeep s1 s' ∧ OthersKeep s1 s' n p ∧
      ∀ x, x ≠ n → (s'.cell x).acc = (s1.cell x).acc ∧ (s'.cell x).apsn = (s1.cell x).apsn
    (s1.issues n 0x60 → okQ w (isSrcQ a) = true → isSrc a = true → dstQ w = 24 → fmtQ w ≤ 6 → m < 512 → m % 256 < 192 →
      ∀ k, s1.srcTok n p a = some k → k.kind = 0 →
      let tile := s1.bytesAt (sramAt n (m % 256 * 256)) 256
      let clr := bit m 8
      let sum (o : Nat) : Int := (if clr then 0 else signed 32 (c.accr o)) +
        ((List.range (if fmtQ w < 2 then 16 else 32)).map fun i => weightInt (fmtQ w) tile o i * actInt (fmtQ w) k.payload.toNat i).sum
      Completes (.wave t n) s fun s' =>
        (fmtQ w < 4 → ∀ o, o < 16 → signed 32 ((s'.cell n).accr o) = clamp (-(2 ^ 31)) (2 ^ 31 - 1) (sum o)) ∧
        (fmtQ w < 4 → (s'.pl n p).flags = Nat.lor v.flags
          (if ∃ o ∈ List.range 16, sum o < -(2 ^ 31) ∨ 2 ^ 31 - 1 < sum o then fASAT else 0)) ∧
        (4 ≤ fmtQ w → ∀ o, o < 16 → (s'.cell n).accr o = (waveOut (fmtQ w) k.payload.toNat tile clr (c.accr o) o).1) ∧
        (4 ≤ fmtQ w → (s'.pl n p).flags = ((List.range 16).map fun o =>
          (waveOut (fmtQ w) k.payload.toNat tile clr (c.accr o) o).2).foldl Nat.lor v.flags) ∧
        (s'.cell n).apsn = (c.apsn && !clr) ∧ keep s') ∧
    (s1.issues n 0x61 → okQ w (isSrcQ a) = true → isSrc a = true → dstQ w = 24 → fmtQ w ≤ 1 → m < 4 →
      ∀ k, s1.srcTok n p a = some k → k.kind = 0 →
      let sum (j : Nat) : Int := signed 32 (c.accr (4 * m + j)) + signed 32 (laneOf k.payload.toNat j)
      Completes (.aadd t n) s fun s' =>
        (∀ j, j < 4 → (s'.cell n).accr (4 * m + j) =
          (if fmtQ w = 0 then
             ofSigned 32 (clamp (-(2 ^ 31)) (2 ^ 31 - 1) (sum j))
           else (faddF (c.accr (4 * m + j)) (laneOf k.payload.toNat j)).1)) ∧
        (fmtQ w = 0 → (s'.pl n p).flags = Nat.lor v.flags
          (if ∃ j ∈ List.range 4, sum j < -(2 ^ 31) ∨ 2 ^ 31 - 1 < sum j then fASAT else 0)) ∧
        (fmtQ w = 1 → (s'.pl n p).flags = ((List.range 4).map fun j =>
          (faddF (c.accr (4 * m + j)) (laneOf k.payload.toNat j)).2).foldl Nat.lor v.flags) ∧
        (∀ i, i / 4 ≠ m → (s'.cell n).accr i = c.accr i) ∧ (s'.cell n).apsn = c.apsn ∧ keep s')

/-- AOUT gives the four accumulators of a group as one token; ACT gives the 16 outputs, each the product shifted to nearest
even and limited to its format's range or looked up, as one token of bytes or two of halfwords; OVF and UNDER say what was
limited or small (R140, R141, R169 to R173). -/
def Obligations.OutputForms : Prop :=
  ∀ (t : Tick) (n : Nat) (s : State),
    let s1 := s.advanceTo t
    let p := (s1.cell n).turn
    let w := s1.curWord n
    let d := dstQ w
    let m := modQ w
    let c := s1.cell n
    let v := s1.pl n p
    let keep (s' : State) : Prop :=
      QueuesKeep s1 s' n (if isPair d then [] else [qoIdx d]) ∧ (s'.pl n p).pc = v.nextPc ∧ MqKeep s1 s' ∧ AccKeep s1 s' ∧
      ClKeep s1 s' ∧ MemKeep s1 s' ∧ OthersKeep s1 s' n p
    (s1.issues n 0x62 → okQ w (isDstQ d) = true → isDst d = true → srcaQ w = 24 → fmtQ w ≤ 1 → m < 4 →
      emitRoom s1 n p d 1 →
      Completes (.aout t n) s fun s' =>
        Emitted s1 s' n p d [c.accr (4 * m) + c.accr (4 * m + 1) * 2 ^ 32 + c.accr (4 * m + 2) * 2 ^ 64 +
          c.accr (4 * m + 3) * 2 ^ 96] false 0 ∧ keep s') ∧
    (s1.issues n 0x63 → okQ w (isDstQ d) = true → isDst d = true → srcaQ w = 24 → fmtQ w ≤ 4 → m < 2 ^ 18 →
      (bit m 10 = true ∨ fmtQ w < 3) → (isDstQ d = true ∨ fmtQ w < 2) →
      (bit m 11 = true → v.xr (m % 16) % 64 = 0 ∧ v.xr (m % 16) + 64 ≤ 49152) →
      let rs := s1.actR n p m
      let g := actRange (fmtQ w) (bit m 10)
      let ovf := rs.any fun r => decide (r < g.1) || decide (g.2.1 < r)
      let es := rs.map fun r => c.actElem (fmtQ w) (bit m 10) (clamp g.1 g.2.1 r)
      let toks := if fmtQ w < 2 then [packElems 8 es] else [packElems 16 (es.take 8), packElems 16 (es.drop 8)]
      emitRoom s1 n p d (toks.length + b2n (ovf && bit m 17)) →
      Completes (.act t n) s fun s' =>
        Emitted s1 s' n p d toks (ovf && bit m 17)
          (b2n ovf * fOVF + b2n (actUnder rs (fld m 16 12) g.2.2) * fUNDER) ∧ keep s')

/-- Steering with a control token of kind data or control at the head of its queue, enough tokens and enough room: JOIN moves
COUNT tokens with the marks among them; ROUTE moves them to the output SEL picks and MERGE from the input SEL picks; GATE
passes or discards them; each consumes the control token; FIRST moves the head of the lowest-numbered input that holds a
token and is counted as a timing-dependent choice (R107 to R111, R174 to R176, R484). -/
def Obligations.SteeringForms : Prop :=
  ∀ (t : Tick) (n : Nat) (s : State),
    let s1 := s.advanceTo t
    let p := (s1.cell n).turn
    let w := s1.curWord n
    let cq := cqT w
    let oq := oqT w
    let c := s1.cell n
    let v := s1.pl n p
    let sent (l : List Token) : List Token := l.map fun x => x.sent (s1.clEpoch n)
    let rest (s' : State) : Prop :=
      (s'.pl n p).pc = v.nextPc ∧ PlaneKeep v (s'.pl n p) ∧ (s'.pl n p).left = none ∧ MqKeep s1 s' ∧ AccKeep s1 s' ∧ MemKeep s1 s' ∧
      OthersKeep s1 s' n p
    let moves (s' : State) (dq out : Nat) (pre : List Token) : Prop :=
      (s'.cell n).queue cq = (c.queue cq).drop 1 ∧ (s'.cell n).queue dq = (c.queue dq).drop pre.length ∧
      (s'.cell n).queue (qoIdx out) = c.queue (qoIdx out) ++ sent pre ∧ QueuesKeep s1 s' n [cq, dq, qoIdx out] ∧
      ClKeep s1 s' ∧ rest s'
    okT w = true →
    (∀ ct, (c.queue cq).head? = some ct → ct.kind < 2 →
    let left := v.left.getD (countC ct)
    (∀ pre h, s1.issues n 0x70 → listT w = 0 → cq ≠ dqT w → countC ct ≤ 16 → (c.queue (dqT w)).head? = some h → h.kind ≠ 3 →
      takeData (countC ct) (c.queue (dqT w)) = some pre → (∀ x ∈ pre, badData x = false) →
      (c.queue (qoIdx oq)).length + pre.length ≤ 16 →
      Completes (.joinI t n) s fun s' => moves s' (dqT w) oq pre) ∧
    (∀ pre o, s1.issues n 0x71 → oq = 0 → listT w ≠ 0 → cq ≠ dqT w → (listQ w)[selC ct]? = some o →
      takeData left (c.queue (dqT w)) = some pre → (∀ x ∈ pre, badData x = false) →
      (c.queue (qoIdx o)).length + pre.length ≤ 16 →
      Completes (.routeTok t n) s fun s' => moves s' (dqT w) o pre) ∧
    (∀ pre q, s1.issues n 0x73 → dqT w = 0 → listT w ≠ 0 → bit (listT w) cq = false → (listQ w)[selC ct]? = some q →
      takeData left (c.queue q) = some pre → (∀ x ∈ pre, badData x = false) →
      (c.queue (qoIdx oq)).length + pre.length ≤ 16 →
      Completes (.mergeTok t n) s fun s' => moves s' q oq pre) ∧
    (∀ pre, s1.issues n 0x72 → listT w = 0 → cq ≠ dqT w → left ≤ 256 →
      takeData left (c.queue (dqT w)) = some pre → (∀ x ∈ pre, badData x = false) →
      let out := if passC ct then pre else pre.filter fun x => x.kind == 3
      (c.queue (qoIdx oq)).length + out.length ≤ 16 →
      Completes (.gateTok t n) s fun s' =>
        (s'.cell n).queue cq = (c.queue cq).drop 1 ∧ (s'.cell n).queue (dqT w) = (c.queue (dqT w)).drop pre.length ∧
        (s'.cell n).queue (qoIdx oq) = c.queue (qoIdx oq) ++ sent out ∧ QueuesKeep s1 s' n [cq, dqT w, qoIdx oq] ∧
        ClKeep s1 s' ∧ rest s')) ∧
    ∀ q h, s1.issues n 0x74 → cq = 0 → dqT w = 0 → listT w ≠ 0 → s1.relaxed n = true →
      (listQ w).find? (fun q => !(c.queue q).isEmpty) = some q → (c.queue q).head? = some h → h.kind < 5 →
      (c.queue (qoIdx oq)).length < 16 →
      Completes (.firstTok t n) s fun s' =>
        (s'.cell n).queue q = (c.queue q).drop 1 ∧ (s'.cell n).queue (qoIdx oq) = c.queue (qoIdx oq) ++ sent [h] ∧
        s'.reg (clB n + 0x18) = (s1.reg (clB n + 0x18) + 1) % 2 ^ 32 ∧ s'.reg64 0x50 = (s1.reg64 0x50 + 1) % 2 ^ 64 ∧
        s'.reg64 (0x1000 + 8 * s1.clBind n) = (s1.reg64 (0x1000 + 8 * s1.clBind n) + 1) % 2 ^ 64 ∧
        QueuesKeep s1 s' n [q, qoIdx oq] ∧
        (∀ m, (s'.cell m).code = (s1.cell m).code ∧ (s'.cell m).lut = (s1.cell m).lut ∧ (s'.cell m).slotOut = (s1.cell m).slotOut ∧
          (s'.cell m).slotIn = (s1.cell m).slotIn) ∧
        (∀ o, 0x800000 ≤ o → o < 0xF06000 → o ≠ clB n + 0x18 → s'.reg o = s1.reg o) ∧ rest s'

/-- A handshake of a link moves one token: between cells the sending end of a circuit numbers it, and it joins the queue of
the receiving entry; from the west and the east edge unit it joins the queue of the edge cell; the pointer passes on (R88, R89,
R99, R101 to R106).  A wait bound that has run out faults the plane (R94, R95, R110), and an owed poison token goes out when its
queue has room (R92). -/
def Obligations.LinkAndBoundCommands : Prop :=
  ∀ (t : Tick) (s : State),
    let s1 := s.advanceTo t
    (∀ n port m tk r,
      let i := Sparse.get (fun _ => 0) (s1.cell n).ptr (portNum port)
      let e := (s1.cell n).outE (portNum port) i
      let sq := Sparse.get (fun _ => 0) (s1.cell n).seqOut (portNum port * 16 + i)
      let q := fld ((s1.cell m).inE (portNum (portOpp port)) i) 5 3
      let qo := qoIdx (fld e 7 5)
      s1.cellOn n = true → s1.cellOn m = true → s1.neighbour n port = some m → m ≠ n → s1.routeOpen n = false →
      s1.routeOpen m = false → i < 16 → bit e 0 = true → bit e 1 = false → (s1.cell n).queue qo = tk :: r →
      s1.accepts m (portNum (portOpp port)) i q { tk with seq := sq } →
      ¬ (s1.usableOf n = some 0 ∧ port = .w) → ¬ (s1.usableOf n = some 95 ∧ port = .e) →
      Completes (.linkHandshake t (.out n port)) s fun s' =>
        (s'.cell n).queue qo = r ∧ (s'.cell m).queue q = (s1.cell m).queue q ++ [{ tk with seq := sq }] ∧
        Sparse.get (fun _ => 0) (s'.cell n).seqOut (portNum port * 16 + i) = (sq + 1) % 16 ∧
        Sparse.get (fun _ => 0) (s'.cell n).ptr (portNum port) = (i + 1) % 16 ∧
        (∀ x y, ¬ (x = n ∧ y = qo) → ¬ (x = m ∧ y = q) → (s'.cell x).queue y = (s1.cell x).queue y) ∧
        MqKeep s1 s' ∧ AccKeep s1 s' ∧ TablesKeep s1 s' ∧ MemKeep s1 s' ∧ PlanesKeep s1 s') ∧
    (∀ row tk r,
      let n := s1.physOf row 0
      let i := (s1.west row).ptr
      let q := fld ((s1.cell n).inE 3 i) 5 3
      s1.cellOn n = true → s1.edgeStop n = false → s1.routeOpen n = false → i < 16 → s1.rb (tgOut row i) 0 = true →
      Sparse.get (fun _ => []) (s1.west row).out i = tk :: r → s1.accepts n 3 i q tk →
      Completes (.linkHandshake t (.westIn row)) s fun s' =>
        (s'.cell n).queue q = (s1.cell n).queue q ++ [tk] ∧ Sparse.get (fun _ => []) (s'.west row).out i = r ∧
        (s'.west row).ptr = (i + 1) % 16 ∧ (∀ r, r ≠ row → s'.west r = s1.west r) ∧ QueuesKeep s1 s' n [q] ∧ MqKeep s1 s' ∧
        AccKeep s1 s' ∧ TablesKeep s1 s' ∧ MemKeep s1 s' ∧ PlanesKeep s1 s') ∧
    (∀ row tk r,
      let n := s1.physOf row 95
      let i := (s1.east row).ptr
      let q := fld ((s1.cell n).inE 1 i) 5 3
      s1.cellOn n = true → s1.edgeStop n = false → s1.routeOpen n = false → i < 16 → s1.rb (paOut row i) 0 = true →
      Sparse.get (fun _ => []) (s1.east row).out i = tk :: r → s1.accepts n 1 i q tk →
      Completes (.linkHandshake t (.eastIn row)) s fun s' =>
        (s'.cell n).queue q = (s1.cell n).queue q ++ [tk] ∧ Sparse.get (fun _ => []) (s'.east row).out i = r ∧
        (s'.east row).ptr = (i + 1) % 16 ∧ (∀ r, r ≠ row → s'.east r = s1.east r) ∧ QueuesKeep s1 s' n [q] ∧ MqKeep s1 s' ∧
        AccKeep s1 s' ∧ TablesKeep s1 s' ∧ MemKeep s1 s' ∧ PlanesKeep s1 s') ∧
    (∀ n b sel code arg,
      let p := (s1.cell n).turn
      s1.canRun n = true → (s1.pl n p).waitFrom = some b → s1.unmet n = some (sel, code, arg) →
      ((s1.pl n p).step = true ∨ s1.isPaused (s1.clBind n) = false) → b + boundF (s1.curWord n) ≤ s1.sn →
      opF (s1.curWord n) ≠ 0x43 →
      Completes (.waitBoundExpiry t n) s fun s' =>
        PlaneFaulted s1 s' n p code sel ∧ PlanesKeep s1 s' ∧ MqKeep s1 s' ∧ AccKeep s1 s' ∧
        ∀ m q, q < 16 → (s'.cell m).queue q = (s1.cell m).queue q) ∧
    ∀ n p q, p < 4 → q < 8 → q ∈ (s1.pl n p).owed → (∀ p', p' < p → q ∉ (s1.pl n p').owed) →
      ((s1.cell n).queue (qoIdx q)).length < 16 →
      Completes (.poisonPushDeferred t n q) s fun s' =>
        (s'.cell n).queue (qoIdx q) = (s1.cell n).queue (qoIdx q) ++ [s1.tok n 4 0] ∧
        (s'.pl n p).owed = (s1.pl n p).owed.filter (fun x => x != q) ∧ QueuesKeep s1 s' n [qoIdx q] ∧ MqKeep s1 s' ∧
        AccKeep s1 s' ∧ ClKeep s1 s' ∧ MemKeep s1 s' ∧ PlanesKeep s1 s' ∧ s'.regs = s1.regs

/-- The register writes of a powered cell: RUN starts the planes in rotation that have not faulted and clearing it halts
them; EDGE_STOP is set or cleared; CELL_RESET empties queues, accumulators and request queues, halts the planes, counts the
discarded tokens (of the queues, which is the model's reading, log entry 16) and keeps code and memory; a new EPOCH discards every
token of another epoch; the indirect window writes the word its address names (R88, R116, R119, R121, R123, R129). -/
def Obligations.CellRegisterCommands : Prop :=
  ∀ (t : Tick) (n : Nat) (s : State),
    let s1 := s.advanceTo t
    let c := s1.cell n
    s1.cellOn n = true →
    (s1.running n = false → (s1.factor n = 0 ∨ s1.turnBound n ≠ 0) → c.throughBroken = false →
      Completes (.runWrite t n true) s fun s' =>
        s'.running n = true ∧ (∀ p, p ≤ s1.factor n → (s1.pl n p).st ≠ .faulted → (s'.pl n p).st = .running) ∧
        (s'.cell n).resetHold = false ∧ QueuesKeep s1 s' n [] ∧ MqKeep s1 s' ∧ AccKeep s1 s' ∧ MemKeep s1 s' ∧ PlanesKeep s1 s') ∧
    (s1.running n = true →
      Completes (.runWrite t n false) s fun s' =>
        s'.running n = false ∧
        (∀ p, (s1.pl n p).st = .running ∨ (s1.pl n p).st = .waiting → (s'.pl n p).st = .halted) ∧
        (∀ o, o ≠ clB n → s'.reg o = s1.reg o) ∧
        QueuesKeep s1 s' n [] ∧ MqKeep s1 s' ∧ AccKeep s1 s' ∧ MemKeep s1 s' ∧ PlanesKeep s1 s') ∧
    (∀ b, Completes (.edgeStopWrite t n b) s fun s' =>
      s'.edgeStop n = b ∧ s'.running n = s1.running n ∧ (∀ o, o ≠ clB n → s'.reg o = s1.reg o) ∧ s'.lat = s1.lat ∧
      MemKeep s1 s') ∧
    Completes (.cellReset t n) s (fun s' =>
      s'.running n = false ∧ (∀ q, (s'.cell n).queue q = []) ∧ (∀ i, (s'.cell n).mqq i = []) ∧
      (∀ i, (s'.cell n).accr i = 0) ∧ (s'.cell n).apsn = false ∧
      (∀ p, p < 4 → (s'.pl n p).st = .halted ∧ (s'.pl n p).pc = 0 ∧ (s'.pl n p).flags = 0 ∧ ∀ i, (s'.pl n p).xb i = 0) ∧
      s'.reg (clB n + 0x10) = (s1.reg (clB n + 0x10) + (c.q.map fun e => e.2.length).sum) % 2 ^ 32 ∧
      (s'.cell n).code = c.code ∧ (s'.cell n).lut = c.lut ∧ (s'.cell n).slotOut = c.slotOut ∧ (s'.cell n).slotIn = c.slotIn ∧
      (∀ m q, m ≠ n → (s'.cell m).queue q = (s1.cell m).queue q) ∧
      (∀ m i, m ≠ n → (s'.cell m).mqq i = (s1.cell m).mqq i ∧ (s'.cell m).accr i = (s1.cell m).accr i) ∧
      (∀ m q, m ≠ n → PlaneKeep (s1.pl m q) (s'.pl m q) ∧ (s'.pl m q).pc = (s1.pl m q).pc) ∧ MemKeep s1 s') ∧
    (∀ v : Word, s1.written (clB n + 8) v.toNat = (s1, v.toNat) →
      Completes (.clBindWrite t n v) s fun s' =>
        s'.reg (clB n + 8) = v.toNat % 2 ^ 19 ∧
        (v.toNat % 256 ≠ s1.clEpoch n → ∀ q, (s'.cell n).queue q = (c.queue q).filter fun x => x.epoch == v.toNat % 256) ∧
        (v.toNat % 256 = s1.clEpoch n → ∀ q, (s'.cell n).queue q = c.queue q) ∧
        (∀ m q, m ≠ n → (s'.cell m).queue q = (s1.cell m).queue q) ∧ MqKeep s1 s' ∧ AccKeep s1 s' ∧ MemKeep s1 s' ∧
        PlanesKeep s1 s') ∧
    ∀ (d : DWord) (p port i : Nat), s1.running n = false →
      let rest (s' : State) : Prop := s'.regs = s1.regs ∧ QueuesKeep s1 s' n [] ∧ MqKeep s1 s' ∧ MemKeep s1 s'
      let codes (s' : State) : Prop := ∀ m q j, ¬ (m = n ∧ q = p ∧ j = i) → j < 1024 → (s'.cell m).word q j = (s1.cell m).word q j
      let luts (s' : State) : Prop := ∀ m, (s'.cell m).lut = (s1.cell m).lut
      let codeAll (s' : State) : Prop := ∀ m, (s'.cell m).code = (s1.cell m).code
      let slotsAll (s' : State) : Prop := ∀ m, (s'.cell m).slotOut = (s1.cell m).slotOut ∧ (s'.cell m).slotIn = (s1.cell m).slotIn
      (s1.indAddr n = (0, p, port, i) → i < 1024 →
        Completes (.clIndDataWrite t n d) s fun s' =>
          (s'.cell n).word p i = d.toNat ∧ codes s' ∧ luts s' ∧ slotsAll s' ∧ AccKeep s1 s' ∧ PlanesKeep s1 s' ∧ rest s') ∧
      (s1.indAddr n = (1, p, port, i) → i < 16 →
        Completes (.clIndDataWrite t n d) s fun s' =>
          (s'.pl n p).xb i = d ∧ XKeep (s1.pl n p) (s'.pl n p) [i] ∧ (s'.pl n p).flags = (s1.pl n p).flags ∧
          (s'.pl n p).mark = (s1.pl n p).mark ∧ (s'.pl n p).pc = (s1.pl n p).pc ∧ OthersKeep s1 s' n p ∧ codeAll s' ∧ luts s' ∧
          slotsAll s' ∧ AccKeep s1 s' ∧ rest s') ∧
      (s1.indAddr n = (2, p, port, i) → i < 8 →
        Completes (.clIndDataWrite t n d) s fun s' =>
          (s'.pl n p).kr i = d.toNat % 2 ^ 32 ∧ PlaneFrameK (s1.pl n p) (s'.pl n p) i ∧ (s'.pl n p).pc = (s1.pl n p).pc ∧
          OthersKeep s1 s' n p ∧ codeAll s' ∧ luts s' ∧ slotsAll s' ∧ AccKeep s1 s' ∧ rest s') ∧
      (s1.indAddr n = (3, p, port, i) → i < 16 →
        Completes (.clIndDataWrite t n d) s fun s' =>
          (s'.cell n).accr i = d.toNat % 2 ^ 32 ∧ (∀ m j, ¬ (m = n ∧ j = i) → (s'.cell m).accr j = (s1.cell m).accr j) ∧
          (∀ m, (s'.cell m).apsn = (s1.cell m).apsn) ∧ codeAll s' ∧ luts s' ∧ slotsAll s' ∧ PlanesKeep s1 s' ∧ rest s') ∧
      (s1.indAddr n = (4, p, port, i) → i < 256 →
        Completes (.clIndDataWrite t n d) s fun s' =>
          Sparse.get (fun _ => 0) (s'.cell n).lut i = d.setWidth 16 ∧
          (∀ m j, ¬ (m = n ∧ j = i) → Sparse.get (fun _ => 0) (s'.cell m).lut j = Sparse.get (fun _ => 0) (s1.cell m).lut j) ∧
          codeAll s' ∧ slotsAll s' ∧ AccKeep s1 s' ∧ PlanesKeep s1 s' ∧ rest s')

/-- A slot entry that reads VALID is left as it is by a write of VALID = 1, which raises SLOT_COLLISION; a write that clears VALID
takes, and so does any write to an entry that is not valid, on a port that leads to a neighbour (R104). -/
def Obligations.SlotEntryWrites : Prop :=
  ∀ (t : Tick) (n : Nat) (d : DWord) (p port i : Nat) (s : State),
    let s1 := s.advanceTo t
    let c := s1.cell n
    s1.cellOn n = true → port < 5 → i < 16 →
    let collides : Prop := Completes (.clIndDataWrite t n d) s fun s' =>
      (s'.cell n).slotOut = c.slotOut ∧ (s'.cell n).slotIn = c.slotIn ∧
      s'.reg (clB n + 0x40) = clFault Code.SLOT_COLLISION 0 0 0 ∧
      FaultRecorded s1 s' (fun f => f.code = Code.SLOT_COLLISION ∧ f.origin = 3 ∧ f.cell = some (n, 0)) ∧
      QueuesKeep s1 s' n [] ∧ MemKeep s1 s'
    (s1.indAddr n = (5, p, port, i) → d.toNat < 512 → fld d.toNat 4 2 < 5 →
      (bit d.toNat 0 = true → bit (c.outE port i) 0 = true → collides) ∧
      ((bit d.toNat 0 = false ∨ (bit (c.outE port i) 0 = false ∧ port < 4)) →
        Completes (.clIndDataWrite t n d) s fun s' =>
          (s'.cell n).outE port i = d.toNat ∧ (s'.cell n).slotIn = c.slotIn ∧ s'.regs = s1.regs ∧ QueuesKeep s1 s' n [] ∧
          MemKeep s1 s')) ∧
    (s1.indAddr n = (6, p, port, i) → d.toNat < 64 → fld d.toNat 2 1 ≠ 3 →
      (bit d.toNat 0 = true → bit (c.inE port i) 0 = true → collides) ∧
      ((bit d.toNat 0 = false ∨ bit (c.inE port i) 0 = false) →
        Completes (.clIndDataWrite t n d) s fun s' =>
          (s'.cell n).inE port i = d.toNat ∧ (s'.cell n).slotOut = c.slotOut ∧ s'.regs = s1.regs ∧ QueuesKeep s1 s' n [] ∧
          MemKeep s1 s'))

/-- A drain of a binding: GO names the binding and BUSY reads 1; DONE clears BUSY when every cell of the binding is drained
within the bound; past the bound RUN is cleared in every cell of the binding, the undrained cells are counted, FAIL is set and
one event is posted (R118, R513). -/
def Obligations.DrainCommands : Prop :=
  ∀ (t : Tick) (s : State),
    let s1 := s.advanceTo t
    let b := s1.rf 0x30038 7 0
    (∀ x, x < 256 → s1.rb 0x30038 9 = false →
      Completes (.ldrainGo t x) s fun s' =>
        s'.rf 0x30038 7 0 = x ∧ s'.rb 0x30038 9 = true ∧ (∀ o, o ≠ 0x30038 → s'.reg o = s1.reg o) ∧ s'.lat = s1.lat ∧
        MemKeep s1 s') ∧
    (s1.rb 0x30038 9 = true → s1.clk.now ≤ s1.rv.drainFrom + s1.drainBound →
      (∀ n, n < 6400 → s1.clBind n = b → s1.drained n = true) →
      Completes (.ldrainDone t) s fun s' =>
        s'.rb 0x30038 9 = false ∧ s'.rf 0x30038 7 0 = b ∧ (∀ o, o ≠ 0x30038 → s'.reg o = s1.reg o) ∧ s'.lat = s1.lat ∧
        MemKeep s1 s') ∧
    (s1.rb 0x30038 9 = true → s1.rv.drainFrom + s1.drainBound ≤ s1.clk.now →
      (∃ n, n < 6400 ∧ s1.clBind n = b ∧ s1.drained n = false) →
      Completes (.ldrainBoundExpiry t) s fun s' =>
        (∀ n, n < 6400 → s1.clBind n = b → s'.running n = false) ∧ s'.rb 0x30038 9 = false ∧ s'.rb 0x30038 10 = true ∧
        s'.rf 0x30038 31 16 = ((List.range 6400).filter fun n => s1.clBind n == b && !s1.drained n).length ∧
        EventPosted s1 s' Code.LATTICE_DRAIN_FAIL b ∧ MemKeep s1 s')

/-! ### Register access -/

/-- Ordinary accesses of 4 bytes.  A write takes the writable bits from the value and keeps every other bit and register; bits
that clear by writing 1 clear where the value is 1; a register without either ignores the write (R13, R14).  A read answers the
present value and clears a register that clears on read, but for what it has counted in that very instant, which the next read
sees; of a 64-bit one, the read of the low word answers it, clears both words and latches the high word, which the read of the
high word answers (R15, R16). -/
def Obligations.RegisterAccesses : Prop :=
  ∀ (t : Tick) (off value : Nat) (s : State),
    let s1 := s.advanceTo t
    s1.pa.waiting = [] → value < 2 ^ 32 → off % 4 = 0 → s1.blockOn off = true →
    ∀ w, regWord off = some w →
    (w.act = 0 → Nat.land value w.dfn = value → tplOf off = none → s1.hidden off = false →
      (w.w1c = 0 → w.rw ≠ 0 →
        Completes (.registerWrite t off 4 value) s fun s' =>
          (∀ i, i < 32 → (s'.reg off).testBit i = if w.rw.testBit i then value.testBit i else (s1.reg off).testBit i) ∧
          (∀ o, o ≠ off → s'.reg o = s1.reg o) ∧ s'.mem = s1.mem ∧ s'.lat.cells = s1.lat.cells ∧ s'.eng = s1.eng) ∧
      (w.rw = 0 → w.w1c ≠ 0 →
        Completes (.registerWrite t off 4 value) s fun s' =>
          (∀ i, i < 32 → (s'.reg off).testBit i = ((s1.reg off).testBit i && !(w.w1c.testBit i && value.testBit i))) ∧
          (∀ o, o ≠ off → s'.reg o = s1.reg o) ∧ s'.mem = s1.mem ∧ s'.lat.cells = s1.lat.cells ∧ s'.eng = s1.eng) ∧
      (w.rw = 0 → w.w1c = 0 → Completes (.registerWrite t off 4 value) s fun s' => s' = s1)) ∧
    (w.first = off → s1.cloveAt off = false → s1.hidden off = false →
      let fresh (o : Nat) : Prop := Sparse.get (fun _ => none) s1.rcOld o = none
      (w.words = 1 → w.rc = false →
        Completes (.registerReadClear t off 4) s fun s' =>
          s'.bus = s1.view off % 2 ^ 32 ∧ s'.regs = s1.regs ∧ s'.mem = s1.mem ∧ s'.latch = s1.latch) ∧
      (w.words = 1 → w.rc = true →
        Completes (.registerReadClear t off 4) s fun s' =>
          s'.bus = s1.rcValue w % 2 ^ 32 ∧ s'.reg off = s1.rcFresh off 1 ∧
          (fresh off → s'.bus = s1.view off % 2 ^ 32 ∧ s'.reg off = 0) ∧
          (∀ o, o ≠ off → s'.reg o = s1.reg o) ∧ s'.mem = s1.mem) ∧
      (w.words = 2 → w.rc = true → regWord (off + 4) = some w →
        Completes (.registerReadClear t off 4) s fun s' =>
          s'.bus = s1.rcValue w % 2 ^ 32 ∧ s'.reg off = s1.rcFresh off 2 % 2 ^ 32 ∧ s'.reg (off + 4) = s1.rcFresh off 2 / 2 ^ 32 ∧
          (fresh off → fresh (off + 4) → s'.bus = s1.view off % 2 ^ 32 ∧ s'.reg off = 0 ∧ s'.reg (off + 4) = 0) ∧
          (∀ o, o ≠ off → o ≠ off + 4 → s'.reg o = s1.reg o) ∧ s'.mem = s1.mem ∧
          ∀ t', let s2 := s'.advanceTo t'
            s2.blockOn (off + 4) = true → s2.cloveAt (off + 4) = false → s2.hidden (off + 4) = false →
            Completes (.registerReadClear t' (off + 4) 4) s' fun s'' =>
              s''.bus = s1.rcValue w / 2 ^ 32 % 2 ^ 32 ∧ s''.regs = s'.regs ∧ s''.mem = s2.mem))

/-- An access that is not 4, 8 or 16 bytes wide or not aligned to its width reads zeros, or is discarded and raises one fault,
MISALIGNED with ORIGIN 3; an aligned 8-byte read of a 64-bit register answers both words and clears one that clears on read; an
offset of no register, and the block of a unit that is absent or not powered, reads 0 and ignores writes (R3, R527). -/
def Obligations.IrregularAccesses : Prop :=
  ∀ (t : Tick) (off width value : Nat) (s : State),
    let s1 := s.advanceTo t
    s1.pa.waiting = [] →
    (¬ ((width = 4 ∨ width = 8 ∨ width = 16) ∧ off % width = 0) →
      Completes (.registerReadClear t off width) s (fun s' => s'.bus = 0 ∧ s'.regs = s1.regs ∧ s'.mem = s1.mem) ∧
      Completes (.registerWrite t off width value) s fun s' =>
        (∀ o, ¬ (0x80000 ≤ o ∧ o < 0x90000) → o ≠ 0x30004 → s'.reg o = s1.reg o) ∧
        FaultRecorded s1 s' (fun f => f.code = Code.MISALIGNED ∧ f.origin = 3) ∧ MemKeep s1 s') ∧
    (∀ w, off % 8 = 0 → regWord off = some w → w.words = 2 → w.first = off → s1.blockOn off = true → s1.cloveAt off = false →
      s1.hidden off = false →
      Completes (.registerReadClear t off 8) s fun s' =>
        s'.mem = s1.mem ∧
        (w.rc = false → s'.bus = s1.view off % 2 ^ 32 + s1.view (off + 4) % 2 ^ 32 * 2 ^ 32 ∧ s'.regs = s1.regs) ∧
        (w.rc = true → s'.bus = s1.rcValue w % 2 ^ 64 ∧ s'.reg off = s1.rcFresh off 2 % 2 ^ 32 ∧
          s'.reg (off + 4) = s1.rcFresh off 2 / 2 ^ 32 ∧ ∀ o, o ≠ off → o ≠ off + 4 → s'.reg o = s1.reg o)) ∧
    ((width = 4 ∨ width = 8 ∨ width = 16) → off % width = 0 →
      (∀ i, i < width / 4 → regWord (off + 4 * i) = none ∨ s1.blockOn (off + 4 * i) = false) →
      Completes (.registerReadClear t off width) s (fun s' => s'.bus = 0 ∧ s'.regs = s1.regs ∧ s'.mem = s1.mem) ∧
      Completes (.registerWrite t off width value) s fun s' => s' = s1)

/-- RG_CFG of an entry: with VALID clear it stores its fields; VALID set on an entry whose range breaks no rule makes it valid;
a range that overlaps another valid entry is refused and REFUSED is set; while an entry is valid only EPOCH changes (R239,
R246, R247). -/
def Obligations.RegionConfiguration : Prop :=
  ∀ (t : Tick) (n : Nat) (v : Word) (s : State),
    let s1 := s.advanceTo t
    let o := rgB n + 0x10
    let keep (s' : State) (x : Nat) : Prop :=
      (∀ y, y ≠ x → s'.reg y = s1.reg y) ∧ s'.mem = s1.mem ∧ s'.lat = s1.lat ∧ s'.eng = s1.eng
    s1.domOn 17 = true → n < 64 → v.toNat &&& 0xFFFF07 = v.toNat →
    (bit v.toNat 0 = false → Completes (.rgCfgWrite t n v) s fun s' => s'.reg o &&& 0xFFFF07 = v.toNat ∧ keep s' o) ∧
    (bit v.toNat 0 = true → s1.rb o 0 = false → s1.rgBreaks n v.toNat = false →
      Completes (.rgCfgWrite t n v) s fun s' => s'.reg o &&& 0xFFFF07 = v.toNat ∧ keep s' o) ∧
    (∀ m, bit v.toNat 0 = true → s1.rb o 0 = false → m < 64 → m ≠ n → s1.rb (rgB m + 0x10) 0 = true →
      s1.reg64 (rgB n) < s1.reg64 (rgB m + 8) → s1.reg64 (rgB m) < s1.reg64 (rgB n + 8) →
      Completes (.rgCfgWrite t n v) s fun s' => s'.rb 0x6E0000 0 = true ∧ keep s' 0x6E0000) ∧
    (bit v.toNat 0 = true → s1.rb o 0 = true →
      Completes (.rgCfgWrite t n v) s fun s' =>
        s'.rf o 23 16 = fld v.toNat 23 16 ∧ s'.rf o 15 0 = s1.rf o 15 0 ∧ s'.rf o 31 24 = s1.rf o 31 24 ∧ keep s' o)

/-! ### Time base -/

/-- The servo of a domain: ENABLE takes an idle domain with a source to ACQUIRE, and off to FREERUN with no correction;
REACQUIRE is ignored for the selected domain; a measurement of its source is reported (of another it is ignored), and too large an offset keeps ACQUIRE waiting and
sends LOCKED to HOLDOVER; the eighth good one locks, and the first lock of the selected domain steps Saffron to it, once; a
silent source sends LOCKED to HOLDOVER (R44 to R48). -/
def Obligations.DomainCommands : Prop :=
  ∀ (t : Tick) (d : Dom) (s : State),
    let s1 := s.advanceTo t
    let lock : Int := Int.ofNat (s1.rf (domB d + 4) 15 0 * tns)
    let hold : Int := Int.ofNat (s1.rf (domB d + 4) 31 16 * tns)
    (s1.domSt d = 0 → s1.rf (domB d) 2 1 ≠ 0 →
      Completes (.domainEnable t d true) s fun s' =>
        s'.domSt d = 1 ∧ s'.rb (domB d) 0 = true ∧ s'.clk = s1.clk ∧ MemKeep s1 s' ∧
        ∀ o, o ≠ domB d → o ≠ 0x20004 → s'.reg o = s1.reg o) ∧
    Completes (.domainEnable t d false) s (fun s' =>
      s'.domSt d = 0 ∧ s'.rb (domB d) 0 = false ∧ s'.reg (domB d + 0x10) = 0 ∧ s'.clk.saf = s1.clk.saf ∧ MemKeep s1 s' ∧
      ∀ o, o ≠ domB d → o ≠ domB d + 0x10 → o ≠ 0x20004 → s'.reg o = s1.reg o) ∧
    (s1.selDom = d → Completes (.reacquire t d) s fun s' => s' = s1) ∧
    (s1.selDom ≠ d → s1.rb (domB d) 0 = true → s1.rf (domB d) 2 1 ≠ 0 →
      Completes (.reacquire t d) s fun s' =>
        s'.domSt d = 1 ∧ s'.reg (domB d + 0x10) = 0 ∧ s'.clk.saf = s1.clk.saf ∧ MemKeep s1 s') ∧
    (∀ src off, s1.sourceIs d src = true → s1.domSt d = 1 → lock ≤ Int.ofNat off.natAbs →
      Completes (.domainMeasurement t d ⟨src, off⟩) s fun s' =>
        s'.domSt d = 1 ∧ (s'.dom d).good = 0 ∧ s'.reg64 (domB d + 8) = (off % 2 ^ 64).toNat ∧ s'.clk.saf = s1.clk.saf ∧
        MemKeep s1 s') ∧
    (∀ src off, s1.sourceIs d src = true → s1.domSt d = 1 → Int.ofNat off.natAbs < lock → (s1.dom d).good < 7 →
      Completes (.domainMeasurement t d ⟨src, off⟩) s fun s' =>
        s'.domSt d = 1 ∧ (s'.dom d).good = (s1.dom d).good + 1 ∧ s'.reg64 (domB d + 8) = (off % 2 ^ 64).toNat ∧
        s'.clk.saf = s1.clk.saf ∧ MemKeep s1 s') ∧
    (∀ src off, s1.sourceIs d src = true → s1.domSt d = 1 → Int.ofNat off.natAbs < lock → (s1.dom d).good = 7 → s1.selDom = d →
      s1.rb 0x20004 6 = false →
      Completes (.domainMeasurement t d ⟨src, off⟩) s fun s' =>
        s'.domSt d = 2 ∧ s'.rb 0x20004 6 = true ∧
        (s'.dom d).time = (Int.ofNat (s1.dom d).time + off * Int.ofNat fine).toNat ∧ s'.clk.saf = (s'.dom d).time ∧
        MemKeep s1 s') ∧
    (∀ src off, s1.sourceIs d src = true → s1.domSt d = 2 → hold < Int.ofNat off.natAbs → s1.selDom ≠ d →
      Completes (.domainMeasurement t d ⟨src, off⟩) s fun s' =>
        s'.domSt d = 3 ∧ s'.reg (domB d + 0x10) = s1.reg (domB d + 0x10) ∧ s'.clk.saf = s1.clk.saf ∧ MemKeep s1 s') ∧
    (∀ src off, s1.sourceIs d src = false → Completes (.domainMeasurement t d ⟨src, off⟩) s fun s' => s' = s1) ∧
    (s1.domSt d = 2 → (s1.dom d).lastMeas + s1.silentAfter d ≤ s1.clk.now → s1.selDom ≠ d →
      Completes (.sourceSilentTimeout t d) s fun s' =>
        s'.domSt d = 3 ∧ s'.reg (domB d + 0x10) = s1.reg (domB d + 0x10) ∧ s'.clk.saf = s1.clk.saf ∧ MemKeep s1 s')

/-- After the first lock a switch to a LOCKED domain changes no instant: the difference becomes the residual to be slewed; a
request for a domain that is not LOCKED is refused with an event; the loss and the return of the reference are shown, and its
loss sends locked domains to HOLDOVER with an oscillator within 20 ppm (R53 to R55, R77, R603). -/
def Obligations.SaffronSelectionCommands : Prop :=
  ∀ (t : Tick) (s : State),
    let s1 := s.advanceTo t
    (∀ d, s1.selDom ≠ d → s1.domSt d = 2 → s1.rb 0x20004 6 = true →
      Completes (.selWrite t d) s fun s' =>
        s'.selDom = d ∧ s'.clk.saf = s1.clk.saf ∧ s'.clk.resid = Int.ofNat s1.clk.saf - Int.ofNat (s1.dom d).time ∧
        s'.rb 0x20004 5 = decide (s1.clk.saf ≠ (s1.dom d).time) ∧ s'.reg 0x20008 = (s1.reg 0x20008 + 1) % 2 ^ 32 ∧
        MemKeep s1 s') ∧
    (∀ d, s1.selDom ≠ d → s1.domSt d ≠ 2 →
      Completes (.selWrite t d) s fun s' =>
        s'.selDom = s1.selDom ∧ s'.clk = s1.clk ∧ EventPosted s1 s' Code.TB_SWITCH_REFUSED 0 ∧ MemKeep s1 s') ∧
    (s1.clk.resid = 0 →
      Completes (.slewComplete t) s fun s' =>
        s'.rb 0x20004 5 = false ∧ s'.clk = s1.clk ∧ (∀ o, o ≠ 0x20004 → s'.reg o = s1.reg o) ∧ MemKeep s1 s') ∧
    Completes (.refclkLoss t) s (fun s' =>
      s'.pin.refclk = false ∧ s'.rb 0x20004 7 = false ∧ (∀ d, s1.domSt d = 2 → s'.domSt d = 3) ∧
      -20480000 ≤ s'.clk.osc ∧ s'.clk.osc ≤ 20480000 ∧ s'.clk.saf = s1.clk.saf ∧ s'.free = s1.free + 1 ∧ MemKeep s1 s') ∧
    Completes (.refclkReturn t) s fun s' =>
      s'.pin.refclk = true ∧ s'.rb 0x20004 7 = true ∧ s'.clk.osc = 0 ∧ s'.clk.saf = s1.clk.saf ∧
      (∀ o, o ≠ 0x20004 → s'.reg o = s1.reg o) ∧ MemKeep s1 s'

/-- 1PPS: an input pulse is seen and sets the time of an acquiring domain that it feeds to the second announced; 1.1 s without
one is shown; the output rises at a Saffron whole second and falls after WIDTH (R51, R52, R77). -/
def Obligations.OnePpsCommands : Prop :=
  ∀ (t : Tick) (s : State),
    let s1 := s.advanceTo t
    (∀ d, s1.rb (domB d) 0 = true → s1.rf (domB d) 2 1 = 3 → s1.domSt d = 1 → s1.clk.ppsFresh = true →
      Completes (.ppsInPulse t) s fun s' =>
        s'.clk.ppsIn = some s1.clk.now ∧ s'.rb 0x20004 8 = true ∧ (s'.dom d).time = s1.reg64 0x200C8 * tsec * fine ∧
        s'.reg64 0x200C8 = s1.reg64 0x200C8 ∧ s'.clk.ppsFresh = false ∧ s'.clk.saf = s1.clk.saf ∧ MemKeep s1 s') ∧
    ((∀ d, s1.rf (domB d) 2 1 ≠ 3) →
      Completes (.ppsInPulse t) s fun s' =>
        s'.clk.ppsIn = some s1.clk.now ∧ s'.rb 0x20004 8 = true ∧ s'.clk.domA = s1.clk.domA ∧ s'.clk.domB = s1.clk.domB ∧
        (∀ o, o ≠ 0x20004 → s'.reg o = s1.reg o) ∧ MemKeep s1 s') ∧
    (∀ p, s1.clk.ppsIn = some p → p + 1100 * tms < s1.clk.now →
      Completes (.ppsInLoss t) s fun s' =>
        s'.rb 0x20004 8 = false ∧ s'.clk = s1.clk ∧ (∀ o, o ≠ 0x20004 → s'.reg o = s1.reg o) ∧ MemKeep s1 s') ∧
    (s1.rb 0x20000 2 = true → s1.clk.ppsOutSec < s1.sn / tsec → s1.holdsPins = false →
      Completes (.ppsOutRise t) s fun s' =>
        s'.pin.ppsOut = true ∧ s'.clk.ppsRose = s1.sn / tsec * tsec ∧ s'.clk.ppsOutSec = s1.sn / tsec ∧ s'.regs = s1.regs ∧
        s'.mem = s1.mem ∧ s'.out = { edge := 38, at_ := s1.sn / tsec * tsec, body := .pps } :: s1.out) ∧
    (s1.pin.ppsOut = true → s1.clk.ppsRose + s1.rf 0x200C0 19 0 * tus ≤ s1.sn →
      Completes (.ppsOutFall t) s fun s' =>
        s'.pin.ppsOut = false ∧ s'.regs = s1.regs ∧ s'.mem = s1.mem ∧ s'.clk = s1.clk)

/-- Refresh windows and quiet intervals: with no change of the interval called for, a window starts at the grid instant in
progress and ends 280 ns after its start; the end of a quiet interval posts what it counted as one event and starts another, or
ends it (R70 to R73, R620). -/
def Obligations.RefreshAndQuietCommands : Prop :=
  ∀ (t : Tick) (s : State),
    let s1 := s.advanceTo t
    let g := gridAt (s1.rb 0x20100 0) s1.sn
    (s1.clk.refOn = false → s1.clk.refNew = none → s1.clk.refStart + 280 * tns ≤ g → s1.sn < g + 280 * tns →
      Completes (.refreshWindowStart t) s fun s' =>
        s'.clk.refOn = true ∧ s'.clk.refStart = g ∧ s'.clk.saf = s1.clk.saf ∧ s'.regs = s1.regs ∧ s'.mem = s1.mem) ∧
    (s1.clk.refOn = true → s1.clk.refStart + 280 * tns ≤ s1.sn →
      Completes (.refreshWindowEnd t) s fun s' =>
        s'.clk.refOn = false ∧ s'.clk.refStart = s1.clk.refStart ∧ s'.regs = s1.regs ∧ s'.mem = s1.mem) ∧
    ∀ code unit q, quietOf code unit s1.host.quiets = some q → q.until_ ≤ s1.sn →
      (q.count = 0 → Completes (.eventQuietIntervalEnd t code unit) s fun s' =>
        quietOf code unit s'.host.quiets = none ∧ s'.host.evSeq = s1.host.evSeq ∧ s'.regs = s1.regs ∧ s'.mem = s1.mem) ∧
      (q.count ≠ 0 → q.code = code → q.unit = unit → Completes (.eventQuietIntervalEnd t code unit) s fun s' =>
        quietOf code unit s'.host.quiets = some { q with until_ := q.until_ + q.len, count := 0 } ∧
        EventPosted s1 s' code unit q.count ∧ MemKeep s1 s')

/-! ### Launch -/

/-- A holding stage: the first waiting result takes a free place in its order of entry (at a port that is up, as the frame the MAC
makes of it); a launched result leaves at its launch time when it can, and one that cannot under policy DROP is discarded and counted
late; an untimed result leaves at the first instant its edge is free (R21 to R23, R58 to R62, R394). -/
def Obligations.HoldingStageCommands : Prop :=
  ∀ (t : Tick) (e : Nat) (s : State),
    let s1 := s.advanceTo t
    let st := s1.stage e
    let near (h : Held) : Prop := h.launch = none ∨ (s1.inReplay h.bind = false ∧ ∀ l, h.launch = some l → l ≤ s1.sn + 2 ^ 32 * grain)
    let entered (h : Held) (rest : List Held) (s' : State) : Prop :=
      (s'.stage e).held = st.held ++ [{ h with entered := s1.snUp, entry := st.next }] ∧ (s'.stage e).wait = rest ∧
      (s'.stage e).next = st.next + 1 ∧ (∀ k, k ≠ e → s'.stage k = s1.stage k) ∧ s'.regs = s1.regs ∧ s'.mem = s1.mem
    (∀ h rest, st.wait = h :: rest → st.taken < stageCap e → near h → (∀ n, bit (s1.cx n).stopReq 1 = false) →
      (8 ≤ e → Completes (.resultEnterHold t e) s (entered h rest)) ∧
      (e < 8 → s1.linkOn e = true → h.macEntry.body.len ≤ s1.rf (emB e + 0xC) 13 0 →
        Completes (.resultEnterHold t e) s (entered h.macEntry rest))) ∧
    (e < 40 → (e < 8 → s1.rb (emB e + 4) 3 = false) → (∀ r ∈ s1.mem.inflight, r.due = none) →
      ∀ h l, firstLaunched st.held = some h → h.launch = some l → l - egress e ≤ s1.sn → ¬ (30 ≤ e ∧ s1.holdsPins = true) →
      (s1.departAt e h l = l →
        Completes (.holdRelease t e) s fun s' =>
          (e < 8 ∨ 28 ≤ e → s'.out = { edge := e, at_ := l, body := h.body, origin := h.origin } :: s1.out) ∧
          (s'.stage e).held = st.held.filter (fun x => x.entry != h.entry) ∧ s'.reg64 0x20140 = s1.reg64 0x20140 ∧ MemKeep s1 s') ∧
      (s1.departAt e h l ≠ l → h.drop = true → h.origin = .unit →
        Completes (.holdRelease t e) s fun s' =>
          s'.out = s1.out ∧ (s'.stage e).held = st.held.filter (fun x => x.entry != h.entry) ∧
          s'.reg64 0x20140 = (s1.reg64 0x20140 + 1) % 2 ^ 64 ∧ MemKeep s1 s')) ∧
    ∀ h, (28 ≤ e ∨ (e < 8 ∧ s1.rb (emB e + 4) 3 = false ∧ st.frag = none ∧ (s1.ep e).pause = [] ∧ ∀ x ∈ st.held, x.launch = none)) →
      firstUntimed st.held = some h →
      let d := s1.edgeReady e h (roundUp (max h.complete h.entered) grain + egress e)
      d - egress e ≤ s1.sn →
      Completes (.untimedRelease t e) s fun s' =>
        s'.out = { edge := e, at_ := d, body := h.body, origin := h.origin } :: s1.out ∧
        (s'.stage e).held = st.held.filter (fun x => x.entry != h.entry) ∧ MemKeep s1 s'

/-! ### Power and resets -/

/-- Domains: switching one on or off sets ON and shows SETTLING; a held domain is not switched off and REFUSED is set; when it
has settled it is on or off, and its cells' state, code and SRAM are lost; AUTO switches an unheld domain off
once something of it has been claimed, and does nothing before; RESET of an unbound domain resets its registers and keeps its
arrays (log entry 69; R549 to R552, R557). -/
def Obligations.PowerDomainCommands : Prop :=
  ∀ (t : Tick) (d : Nat) (s : State),
    let s1 := s.advanceTo t
    let keep (s' : State) : Prop :=
      (∀ o, o ≠ pwB d → o ≠ pwB d + 4 → s'.reg o = s1.reg o) ∧ s'.mem = s1.mem ∧ s'.lat = s1.lat ∧ s'.eng = s1.eng
    s1.domReal d = true →
    (d ≠ 18 → d ≠ 19 → s1.rf (pwB d + 4) 1 0 = 0 →
      Completes (.pwOnWrite t d true) s fun s' =>
        s'.rb (pwB d) 0 = true ∧ s'.rf (pwB d + 4) 1 0 = 1 ∧ s'.domOn d = false ∧ keep s') ∧
    (d ≠ 18 → d ≠ 19 → s1.rf (pwB d + 4) 1 0 = 2 → s1.domHeld d = false →
      (Completes (.pwOnWrite t d false) s fun s' =>
        s'.rb (pwB d) 0 = false ∧ s'.rf (pwB d + 4) 1 0 = 1 ∧ s'.domOn d = false ∧ keep s') ∧
      (s1.rb (pwB d) 1 = true → s1.rb (pwB d) 0 = true → d ∈ s1.pwr.claimed →
        Completes (.autoPowerOff t d) s fun s' =>
          s'.rb (pwB d) 0 = false ∧ s'.rf (pwB d + 4) 1 0 = 1 ∧ s'.domOn d = false ∧ keep s')) ∧
    (d ∉ s1.pwr.claimed → Completes (.autoPowerOff t d) s fun s' => s' = s1) ∧
    (s1.domHeld d = true →
      Completes (.pwOnWrite t d false) s fun s' =>
        s'.rb (pwB d + 4) 2 = true ∧ s'.rf (pwB d + 4) 1 0 = s1.rf (pwB d + 4) 1 0 ∧ keep s') ∧
    (s1.rf (pwB d + 4) 1 0 = 1 →
      Completes (.domainPowerSettled t d) s fun s' =>
        s'.rf (pwB d + 4) 1 0 = (if s1.rb (pwB d) 0 then 2 else 0) ∧
        (1 ≤ d → d ≤ 8 → ∀ n, n < 6400 → cellDom n = d →
          (s'.cell n).code = [] ∧ (∀ q, (s'.cell n).queue q = []) ∧ ∀ a, a < 0x10000 → s'.byte (sramAt n a) = memReset a)) ∧
    (9 ≤ d → d ≤ 16 → s1.rf (pwB d + 4) 1 0 = 2 → s1.domBound d = false → (∀ e ∈ s1.rv.queue, engDom e ≠ d) →
      Completes (.pwReset t d) s fun s' =>
        (∀ o, engB (d - 9) ≤ o → o < engB (d - 9) + 0x10000 → s'.reg o = (regReset o).toNat) ∧
        (∀ n, n < 100 → engineOf n = d - 9 → (s'.cx n).phase = .none ∧ (s'.cx n).present = (s1.cx n).present) ∧
        s'.rf (pwB d + 4) 1 0 = 2 ∧ MemKeep s1 s')

/-- The governor: a floor entry of 0 or 500 to 820 mV is stored and VDD_CORE is at least every entry; the limit is held to 100
to 1,250 W and is not set below the present power of a part without launched work; an interval's reading is shown, and power
above the limit, or of a group of domains above its budget, lowers VDD_CORE by 5 mV, never below the floor; margins good for 1 s let
the raised level go; AVSBus failing and answering again is shown (R25, R26, R38, R65 to R67, R553, R554, R602). -/
def Obligations.GovernorCommands : Prop :=
  ∀ (t : Tick) (s : State),
    let s1 := s.advanceTo t
    let power (domain ds : List Nat) : Nat :=
      (ds.map fun d => (domain[d]?).elim (s1.reg (pwB d + 0x10)) fun v => v % 2 ^ 32).sum
    (∀ b (v : Word), b < 256 → (v.toNat = 0 ∨ (500 ≤ v.toNat ∧ v.toNat ≤ 820)) → s1.pwr.raised ≤ 820 →
      Completes (.floorBindWrite t b v) s fun s' =>
        s'.reg (0x1F000 + 4 * b) = v.toNat ∧ (∀ x, x < 256 → s'.rf (0x1F000 + 4 * x) 9 0 ≤ s'.rf 0x1E000 19 10) ∧
        (s1.pwr.avsFail = false → s'.rf 0x1E000 19 10 ≤ s'.vdd) ∧
        (∀ o, o ≠ 0x1F000 + 4 * b → o ≠ 0x1E000 → o ≠ 0x80 → s'.reg o = s1.reg o) ∧ MemKeep s1 s') ∧
    (∀ v : Word,
      let w := max 100 (min 1250 v.toNat)
      v.toNat < 2048 → (s1.launchDoms ≠ [] ∨ s1.reg 0x1E004 ≤ w * 1000) →
      Completes (.pwLimitWrite t v) s fun s' =>
        s'.reg 0x1E008 = w ∧ (∀ o, o ≠ 0x1E008 → s'.reg o = s1.reg o) ∧ MemKeep s1 s') ∧
    (∀ total (domain : List Nat) slack,
      let above : Prop := 1000 * min 1250 (s1.reg 0x1E008) < total ∨ ∃ g ∈ groupBudgets, 1000 * g.2 < power domain g.1
      total < 2 ^ 32 → s1.launchDoms = [] → s1.pwr.avsFail = false → s1.vdd ≤ 1023 → above → s1.rf 0x1E000 19 10 < s1.vdd →
      Completes (.governorInterval t total domain slack) s fun s' =>
        s'.reg 0x1E004 = total ∧ s'.vdd = max (s1.rf 0x1E000 19 10) (s1.vdd - 5) ∧ MemKeep s1 s') ∧
    (∀ total (domain : List Nat) slack, total < 2 ^ 32 → s1.launchDoms = [] → total ≤ 1000 * min 1250 (s1.reg 0x1E008) →
      (∀ g ∈ groupBudgets, power domain g.1 ≤ 1000 * g.2) →
      Completes (.governorInterval t total domain slack) s fun s' =>
        s'.reg 0x1E004 = total ∧ s'.vdd = s1.vdd ∧ s'.rb 0x1E000 20 = false ∧ s'.rb 0x1E000 21 = false ∧ MemKeep s1 s') ∧
    (∀ t0, s1.pwr.goodFrom = some t0 → t0 + tsec ≤ s1.clk.now →
      Completes (.slackHoldExpiry t) s fun s' =>
        s'.pwr.raised = 0 ∧ (∀ x, x < 256 → s'.rf (0x1F000 + 4 * x) 9 0 ≤ s'.rf 0x1E000 19 10) ∧ MemKeep s1 s') ∧
    Completes (.avsTransactionFail t) s (fun s' =>
      s'.rb 0x80 2 = true ∧ s'.rb 0x80 1 = false ∧ s'.reg 0x84 = (s1.reg 0x84 + 1) % 2 ^ 32 ∧ s'.pwr.avsFail = true ∧
      s'.vdd = s1.vdd ∧ MemKeep s1 s') ∧
    (s1.pwr.avsFail = true →
      Completes (.avsRetry t true) s fun s' => s'.pwr.avsFail = false ∧ s'.rb 0x80 1 = true ∧ MemKeep s1 s')

/-- Junction temperatures: readings below the trip are shown by domain; above 105 °C some work is paced; at 115 °C the part
trips: thermtrip_n is driven, the part is held in reset with cause THERMAL beside any earlier cause of that instant, and every
register outside the lifetime log but the cause is at its reset value (R555, R599). -/
def Obligations.ThermalProtection : Prop :=
  ∀ (t : Tick) (temps : List Int) (s : State),
    let s1 := s.advanceTo t
    let on (d : Nat) (c : Int) : Prop := temps[d]? = some c ∧ 0 < d ∧ d < 30 ∧ s1.domOn d = true
    let why (c : Nat) : Nat := if s1.pwr.causeAt = some s1.clk.now then Nat.lor (s1.reg 0x74) c else c
    ((∀ d c, on d c → -128 ≤ c ∧ c < 115) →
      Completes (.thermalSample t temps) s fun s' =>
        (∀ d c, on d c → s'.reg (pwB d + 0xC) = (c % 256).toNat ∧ s'.rb (pwB d + 4) 4 = decide (105 < c)) ∧
        ((∃ d c, on d c ∧ 105 < c) → s'.rb 0x1E000 22 = true) ∧
        ((∃ d c, on d c) → (∀ d c, on d c → c ≤ 103) → s'.rb 0x1E000 22 = false) ∧ s'.pin = s1.pin ∧ MemKeep s1 s') ∧
    ((∃ d c, on d c ∧ 115 ≤ c) →
      Completes (.thermalSample t temps) s fun s' =>
        s'.pin.thermtrip = true ∧ s'.pin.heldReset = true ∧ s'.bootPhase = 0 ∧ s'.ready = false ∧
        (s1.inReset = false → s'.reg 0x74 = why 8) ∧ (∀ o, o < 0x1000000 → o ≠ 0x74 → s'.reg o = (regReset o).toNat) ∧
        (∀ n, s'.cell n = {}) ∧ ∀ o, 0x1000000 ≤ o → s'.reg o = s1.reg o)

/-- Resets: the fall of porst_n is a cold reset, which loses every register but the cause and the lifetime log and all memory of
the part; perst_n and GL_RESET are a warm reset, which switches the clocked domains off and keeps DRAM and the chip
identifier; the rise of porst_n starts a boot; a tamper sensor zeroises the part; losing VDD_AON keeps the
fuses; causes of one instant add up (R556, R558, R566, R567, R570, R598, R599). -/
def Obligations.ResetCommands : Prop :=
  ∀ (t : Tick) (s : State),
    let s1 := s.advanceTo t
    let cold (s' : State) : Prop :=
      (∀ o, o < 0x1000000 → o ≠ 0x74 → s'.reg o = (regReset o).toNat) ∧ (∀ o, 0x1000000 ≤ o → s'.reg o = s1.reg o) ∧
      (∀ a, a < 0x800000000000 → s'.byte a = memReset a) ∧ (∀ n, s'.cell n = {}) ∧ (∀ n, s'.cx n = {}) ∧
      s'.pending = s.pending
    let why (c : Nat) : Nat := if s1.pwr.causeAt = some s1.clk.now then Nat.lor (s1.reg 0x74) c else c
    let warm (s' : State) (cause : Nat) : Prop :=
      s'.reg 0x74 = why cause ∧ s'.reg 0x60 = s1.reg 0x60 ∧ (∀ d, (1 ≤ d ∧ d ≤ 17) ∨ (24 ≤ d ∧ d ≤ 29) → s'.domOn d = false) ∧
      (∀ n, n < 6400 → s'.cell n = {}) ∧ (∀ a, a < 0x2000000000 → s'.byte a = s1.byte a) ∧ s'.fuse = s1.fuse
    (s1.pin.porst = true → s1.inReset = false → ∀ g,
      Completes (.porst t false g) s fun s' => s'.pin.porst = false ∧ s'.reg 0x74 = why 1 ∧ s'.fuse = s1.fuse ∧ cold s') ∧
    (s1.pin.porst = false → s1.pin.pwrGood = true → s1.pin.aon = true →
      Completes (.porst t true true) s fun s' =>
        s'.inReset = false ∧ s'.pwr.bootFrom = s1.clk.now ∧ s'.regs = s1.regs ∧ s'.mem = s1.mem ∧ s'.fuse = s1.fuse) ∧
    (s1.fuse.hostless = false → s1.inReset = false → Completes (.perst t) s fun s' => warm s' 2) ∧
    (∀ v : Word, bit v.toNat 0 = true → fld v.toNat 15 1 = 0 → fld v.toNat 31 16 = 0x5157 → s1.inReset = false →
      Completes (.glResetWarm t v) s fun s' => warm s' 4) ∧
    (∀ n, n < 5 → s1.pin.aon = true → ¬ (n = 4 ∧ s1.holdsPins = true) → s1.fuse.zeroised = false →
      Completes (.tamperFire t n) s fun s' =>
        s'.fuse.zeroised = true ∧ s'.fuse.seed = false ∧ s'.fuse.tamper = 2 ^ n ∧ s'.se.keys = false ∧
        s'.pin.heldReset = true ∧ (s1.inReset = false → s'.reg 0x74 = why 16) ∧ cold s') ∧
    (s1.inReset = true → s1.pwr.causeAt = some s1.clk.now → s1.fuse.hostless = false →
      Completes (.perst t) s fun s' => s'.reg 0x74 = why 2 ∧ (∀ o, o ≠ 0x74 → s'.reg o = s1.reg o) ∧ s'.mem = s1.mem) ∧
    Completes (.vddAonLoss t) s (fun s' =>
      s'.pin.aon = false ∧ s'.pin.thermtrip = false ∧ s'.reg 0x74 = 0 ∧ s'.fuse = { s1.fuse with tripNew := 0 } ∧ cold s') ∧
    Completes (.vddAonRise t) s fun s' => s'.pin.aon = true ∧ s'.regs = s1.regs ∧ s'.mem = s1.mem ∧ s'.fuse = s1.fuse

/-! ### Engines and their contexts -/

/-- Stores to dispatch windows and commands: an aligned 16-byte store to an empty slot is kept and marks the slot present; one to a
present slot is an overrun; one with a stale epoch is counted and refused; a sealed run of present slots starts as a command, and
a command whose writes are visible completes: DONE and CONSUMED count, its slots are released and the context is idle (R255 to
R261). -/
def Obligations.DispatchAndCommands : Prop :=
  ∀ (t : Tick) (n : Nat) (s : State),
    let s1 := s.advanceTo t
    n < 100 → s1.engOn (engineOf n) = true →
    (∀ i data b e, i < 8192 → data.length = 16 → i ∉ (s1.cx n).present →
      ¬ (b = s1.cxBind n ∧ b ≠ 0 ∧ e ≠ s1.cxEpoch n) →
      Completes (.dispatchStore t n (16 * i) data b e) s fun s' =>
        StoredAt s1 s' (winAt n (16 * i)) data ∧ i ∈ (s'.cx n).present ∧ (∀ j ∈ (s1.cx n).present, j ∈ (s'.cx n).present) ∧
        ∀ m, m ≠ n → s'.cx m = s1.cx m) ∧
    (∀ i data b e, i < 8192 → data.length = 16 → i ∈ (s1.cx n).present →
      ¬ (b = s1.cxBind n ∧ b ≠ 0 ∧ e ≠ s1.cxEpoch n) →
      Completes (.dispatchStore t n (16 * i) data b e) s fun s' =>
        s'.rb (cxB n + 4) 3 = true ∧ EventPosted s1 s' Code.DISPATCH_OVERRUN n ∧ s'.eng = s1.eng ∧ MemKeep s1 s') ∧
    (∀ off data b e, off < 0x20000 → b = s1.cxBind n → b ≠ 0 → e ≠ s1.cxEpoch n →
      Completes (.dispatchStore t n off data b e) s fun s' =>
        s'.reg 0x6E0008 = (s1.reg 0x6E0008 + 1) % 2 ^ 32 ∧ FaultRecorded s1 s' (fun f => f.code = Code.STALE_TARGET) ∧ s'.eng = s1.eng ∧
        MemKeep s1 s') ∧
    (∀ k, s1.cxIdle n = true → s1.unsealed n = false → s1.cmdLen n (s1.cx n).present (s1.cxHead n) slots 0 = some k →
      Completes (.commandStart t n) s fun s' =>
        s'.cxState n = 1 ∧ (s'.cx n).phase = .ready ∧ (s'.cx n).slot = s1.cxHead n ∧ (s'.cx n).len = k ∧
        (s'.cx n).present = (s1.cx n).present ∧ MemKeep s1 s') ∧
    ((s1.cx n).phase = .sealed → s1.cxLive n = true → s1.cxState n ≠ 5 → (s1.cx n).dbg = false → (s1.cx n).stopReq = 0 →
      s1.cxWrites n = false → (s1.cx n).atEnd = [] → (s1.cx n).len ≤ 8192 →
      Completes (.commandComplete t n) s fun s' =>
        s'.cxState n = 0 ∧ (s'.cx n).phase = .none ∧ s'.reg (cxB n + 0x20) = (s1.reg (cxB n + 0x20) + 1) % 2 ^ 32 ∧
        s'.reg (cxB n + 0x1C) = (s1.reg (cxB n + 0x1C) + (s1.cx n).len) % 2 ^ 32 ∧
        s'.cxHead n = (s1.cxHead n + (s1.cx n).len) % 8192 ∧
        ((s'.cx n).present = (s1.cx n).present.filter fun i => decide ((s1.cx n).len ≤ (i + 8192 - s1.cxHead n) % 8192)) ∧
        MemKeep s1 s') ∧
    ((s1.cx n).phase = .busy → s1.cxLive n = true → (s1.cx n).stopReq = 0 → s1.rv.replay ≠ some n →
      Completes (.engineInstructionComplete t n) s fun s' =>
        CxAdvanced s1 s' n ∧ (s'.engine (engineOf n)).busy ≠ some n ∧ MemKeep s1 s')

/-- The sequencer's own instructions: NOP and SEAL pass; LOOP counts down and branches back until its counter is 0; WAITT passes at
its time and waits before it; WAITQ passes when the count of a context or of a word has been reached, polling the word; FENCE and
SIGNAL wait for the context's writes, and SIGNAL then issues its 16 bytes; SETREF sets CX_REF (R267 to R272). -/
def Obligations.SequencerForms : Prop :=
  ∀ (t : Tick) (n : Nat) (s : State),
    let s1 := s.advanceTo t
    let w := s1.cxWord n
    let c := s1.cx n
    (s1.cxIssues n 0x00 → Completes (.seqNop t n) s fun s' => CxAdvanced s1 s' n ∧ MemKeep s1 s') ∧
    (s1.cxIssues n 0x01 → Completes (.seal t n) s fun s' => CxAdvanced s1 s' n ∧ MemKeep s1 s') ∧
    (s1.cxIssues n 0x02 → fld w 12 0 ≠ 0 → fld w 12 0 ≤ (c.slot + slots - s1.cxHead n) % slots →
      let v := if (c.loop (fld w 15 14)).2 then (c.loop (fld w 15 14)).1 else fld w 47 16
      Completes (.seqLoop t n) s fun s' =>
        (v = 0 → CxAdvanced s1 s' n ∧ (s'.cx n).loop (fld w 15 14) = (0, false)) ∧
        (v ≠ 0 → (s'.cx n).phase = .ready ∧ (s'.cx n).slot = (c.slot + slots - fld w 12 0) % slots ∧
          (s'.cx n).loop (fld w 15 14) = (v - 1, true)) ∧ MemKeep s1 s') ∧
    (s1.cxIssues n 0x03 → c.deadline = none → s1.cxState n ≠ 5 →
      Completes (.seqWaitt t n) s fun s' =>
        (s1.nearTime (operE w) ≤ s1.sn → CxAdvanced s1 s' n) ∧
        (s1.sn < s1.nearTime (operE w) → CxWaits s1 s' n ∧ (s'.cx n).deadline = some (s1.nearTime (operE w))) ∧
        MemKeep s1 s') ∧
    (s1.cxIssues n 0x04 → bit (opfE w) 0 = true → fld w 7 0 < 100 → s1.cxState n ≠ 5 →
      Completes (.seqWaitq t n) s fun s' =>
        (reached (s1.reg (cxB (fld w 7 0) + 0x20)) (timeE w) = true → CxAdvanced s1 s' n) ∧
        (reached (s1.reg (cxB (fld w 7 0) + 0x20)) (timeE w) = false → CxWaits s1 s' n) ∧ MemKeep s1 s') ∧
    (let a := operE w
     let off := a % 2 ^ 48
     let v := ofLe (((s1.readMem (engineOf n) off 16).2.1).take 4)
     s1.cxIssues n 0x04 → a % 16 = 0 → s1.cxState n ≠ 5 → s1.isLocal a = true →
      s1.staleAt off (s1.cxBind n) (s1.cxEpoch n) = false → (s1.target off).noRead = false → (s1.target off) ≠ .regs (off - 0x2200000000) →
      (bit (opfE w) 0 = false → c.waitq = none →
        Completes (.seqWaitq t n) s fun s' =>
          (reached v (timeE w) = true → CxAdvanced s1 s' n) ∧ (reached v (timeE w) = false → CxWaits s1 s' n) ∧ MemKeep s1 s') ∧
      (∀ t0 k, c.waitq = some (t0, k) → t0 + (k + 1) * 100 * tns ≤ s1.clk.now →
        Completes (.waitqPoll t n) s fun s' =>
          (reached v (timeE w) = true → CxAdvanced s1 s' n) ∧
          (reached v (timeE w) = false → CxWaits s1 s' n ∧ (s'.cx n).waitq = some (t0, k + 1)) ∧ MemKeep s1 s')) ∧
    (s1.cxIssues n 0x05 → operE w % 16 = 0 → s1.cxWrites n = false →
      Completes (.signalStore t n) s fun s' =>
        CxAdvanced s1 s' n ∧ MemKeep s1 s' ∧
        ∃ r ∈ s'.mem.inflight, r.issuer = .ctx n c.slot ∧ r.write = true ∧ r.addr = operE w ∧
          r.data = leBytes 4 (s1.reg (cxB n + 0x20) + 1) ++ leBytes 1 n ++ leBytes 1 (s1.cxEpoch n) ++ [0, 0] ++ leBytes 8 (pack96 s1.sn)) ∧
    (s1.cxIssues n 0x06 → s1.cxState n ≠ 5 →
      Completes (.fence t n) s fun s' =>
        (s1.cxWrites n = false → CxAdvanced s1 s' n) ∧ (s1.cxWrites n = true → CxWaits s1 s' n) ∧ MemKeep s1 s') ∧
    (s1.cxIssues n 0x07 →
      Completes (.setref t n) s fun s' =>
        CxAdvanced s1 s' n ∧ MemKeep s1 s' ∧
        s'.reg96 (cxB n + 0x30) = pack96 (if bit (opfE w) 0 then s1.sn else s1.nearTime (operE w)) % 2 ^ 96)

/-- The tensor engines and the collectives: an instruction whose descriptors and operands are readable on this chip and break no
rule is taken by its engine, and its result has been issued as writes: MAT the rows of its outputs, TBUILD the table of each channel,
the vector engine its rows, SAMPLE the drawn token with its probability and the counter; a member at the root of a collective's tree
that has every part, its rows, after what it sends to its children.  Grouped outputs are taken likewise; for the free values of
outputs see log entry 2 (R220 to R225, R273 to R289). -/
def Obligations.TensorEngineResults : Prop :=
  ∀ (t : Tick) (n : Nat) (s : State),
    let s1 := s.advanceTo t
    let w := s1.cxWord n
    let a := operE w
    let rd := s1.reader n
    let taken (s' : State) : Prop := CxBusy s1 s' n ∧ MemKeep s1 s'
    (s1.cxRuns n 0x10 →
      let x := rd.matIn a
      let m := x.2.1
      x.1.ok = true →
      Completes (.mat t n) s fun s' => taken s' ∧
        (m.d.y.quant = false → PiecesIssued x.1.s s' n x.1.poison (m.d.y.plainRows (satfpE w)
          ((List.range m.d.x.rows).map fun i => (List.range m.d.w.rows).map fun o =>
            (m.output (fun k => (Config.freeValue (x.1.s.free + 1 + k)).toNat) i o).1)))) ∧
    (s1.cxRuns n 0x30 →
      let x := rd.tbIn a
      x.1.ok = true →
      Completes (.tbuild t n) s fun s' => taken s' ∧
        PiecesIssued x.1.s s' n x.1.poison (x.2.acts.map fun p =>
          ((x.2.tbl + 64 * p.2) % 2 ^ 64, packCodes 32 ((x.2.table p.1).map Prod.fst)))) ∧
    (∀ r ∈ vectorOps, s1.cxRuns n r.2.1 →
      let x := r.2.2 rd w
      x.1.ok = true →
      Completes (r.1 t n) s fun s' => taken s' ∧
        (x.2.y.quant = false → PiecesIssued x.1.s s' n x.1.poison
          (x.2.y.plainRows (satfpE w) (x.2.rows.map fun r => r.map fun v => fp32.decode v.1)))) ∧
    (s1.cxRuns n 0x38 →
      let x := rd.spIn a
      let c := x.1.s.reg (cxB n + 0x80)
      x.1.ok = true →
      Completes (.sampleTok t n) s fun s' => taken s' ∧ s'.reg (cxB n + 0x80) = (c + 1) % 2 ^ 32 ∧
        ∀ y, x.2.draw c = some y → PiecesIssued x.1.s s' n x.1.poison
          [(leAt x.2.d 8 8, leBytes 4 y.1 ++ leBytes 4 y.2.1 ++ leBytes 8 c)]) ∧
    ∀ r ∈ collectiveOps, s1.cxRuns n r.2.1 → s1.rv.replaying = [] →
      let d := rd.collD r.2.2 w
      let c := d.2
      let x := d.1.collOwn c
      let out := c.outBytes ((x.1.s.rootResult c w x.2).map fun v => (c.lower (decide (r.2.2 < 2)) (satfpE w) v).1)
      x.1.ok = true → c.q = 0 → c.log = false → (∀ p ∈ s1.eng.parts, s1.collOther c p = false) →
      (r.2.2 < 2 → ∀ k ∈ c.kids 0, (x.1.s.partFull c k x.2.length).isSome = true) →
      (r.2.2 = 2 → ∀ k ∈ c.subtree 0, k ≠ 0 → (x.1.s.partFull c k x.2.length).isSome = true) →
      Completes (r.1 t n) s fun s' => taken s' ∧
        ∃ sent rss, s'.mem.inflight = x.1.s.mem.inflight ++ sent ++ List.flatten rss ∧ (∀ m ∈ sent, m.coll = true) ∧
          rss.length = c.dst.rows ∧
          ∀ y ∈ ((List.range c.dst.rows).map fun i =>
              ((c.dst.addr + i * c.dst.stride) % 2 ^ 64, (out.drop (i * c.dst.bytes)).take c.dst.bytes)).zip rss,
            IsCut x.1.s n x.1.poison y.1 y.2

/-- An engine instruction whose operands break a rule faults its context with the rule's code, and an undefined opcode with
INVALID_OPCODE: CX_FAULT names code and slot, and one fault is recorded (R252, R264, R474). -/
def Obligations.EngineInstructionFaults : Prop :=
  (∀ r ∈ engineOps, ∀ (t : Tick) (n code : Nat) (a : Option Nat) (s s2 : State),
    let s1 := s.advanceTo t
    s1.cxRuns n r.2.1 → r.2.2 (s1.startTimeout n) n (s1.cxWord n) = .fault s2 code a → code < 2 ^ 16 →
    s2.cxState n ≠ 4 → s2.cxState n ≠ 5 → s2.rv.replay ≠ some n → (s2.cx n).stopReq = 0 →
    Completes (r.1 t n) s fun s' =>
      s'.cxState n = 4 ∧ s'.reg (cxB n + 0x28) = code + (s1.cx n).slot % 8192 * 2 ^ 16 + 2 ^ 31 ∧
      s'.host.fltSeq = s2.host.fltSeq + 1) ∧
  ∀ (t : Tick) (n : Nat) (s : State),
    let s1 := s.advanceTo t
    let op := opE (s1.cxWord n)
    s1.cxIssues n op → engDefines (engineOf n) op = false → s1.cxState n ≠ 5 →
    Completes (.undefinedEngineOpcode t n) s fun s' => CxFaulted s1 s' n Code.INVALID_OPCODE

/-- The check and crypto engine: with descriptor and data readable, the write issued to RESULT is the CRC by the descriptor's
polynomial, the Internet checksum, the SHAKE256 digest, whether the SLH-DSA signature verifies under the set that OPF selects, or the
deterministic signature of the identity key, which is zeros on a zeroised part; where key, message, signature and context string lie
the manual does not say (log entry 3; R293 to R295, R567). -/
def Obligations.CheckEngineResults : Prop :=
  ∀ (t : Tick) (n : Nat) (s : State),
    let s1 := s.advanceTo t
    let w := s1.cxWord n
    let a := operE w
    let rd (len : Nat) : Rd × List Byte := Rd.bytes { s := s1.startTimeout n, n := n } a len
    let x (len : Nat) : Rd × List Byte := (rd len).1.bytes (leAt (rd len).2 0 8) (leAt (rd len).2 8 4)
    let good (len : Nat) : Prop := a % 16 = 0 ∧ (rd len).1.ok = true ∧ (x len).1.ok = true
    let gives (len : Nat) (l : List Byte) (s' : State) : Prop :=
      CxBusy s1 s' n ∧ PiecesIssued (x len).1.s s' n (x len).1.poison [(leAt (rd len).2 0xC 8, l)]
    (s1.cxRuns n 0x50 → good 48 → 1 ≤ leAt (rd 48).2 0x2C 4 % 128 → leAt (rd 48).2 0x2C 4 % 128 ≤ 64 →
      let d := (rd 48).2
      let c := leAt d 0x2C 4
      Completes (.crc t n) s fun s' =>
        gives 48 (leBytes 8 (crcOf (c % 128) (leAt d 0x14 8) (leAt d 0x1C 8) (leAt d 0x24 8) (bit c 7) (bit c 8) (x 48).2)) s') ∧
    (s1.cxRuns n 0x51 → good 20 →
      Completes (.ipsum t n) s fun s' =>
        gives 20 (beBytes2 (if bit (opfE w) 0 then 65535 - ipSum (x 20).2 else ipSum (x 20).2)) s') ∧
    (s1.cxRuns n 0x52 → good 24 →
      Completes (.shake t n) s fun s' => gives 24 (shake256 (x 24).2 (leAt (rd 24).2 0x14 4)) s') ∧
    (s1.cxRuns n 0x53 → good 48 →
      let y := Config.slhInput ((rd 48).2 ++ (x 48).2)
      Completes (.slhver t n) s fun s' =>
        gives 48 (leBytes 4 (b2n (slhVerify (if bit (opfE w) 0 then slhF else slhS) y.1 y.2.1 y.2.2.1 y.2.2.2))) s') ∧
    (s1.cxRuns n 0x54 → good 20 →
      Completes (.slhsign t n) s fun s' =>
        gives 20 (if s1.fuse.zeroised then List.replicate 49856 0 else idSign (x 20).2 Config.slhContext) s')

/-- The data movers: with descriptor, list and source readable, COPY issues the write of LEN bytes, COPY2D that of each row,
GATHER that of each listed source to its place in a row of pieces, SCATTER that of each piece to its listed place, and FILL that
of the pattern (R296, R297). -/
def Obligations.MoverResults : Prop :=
  ∀ (t : Tick) (n : Nat) (s : State),
    let s1 := s.advanceTo t
    let a := operE (s1.cxWord n)
    let md := Rd.mvD { s := s1.startTimeout n, n := n } a
    let d := md.2
    a % 16 = 0 → md.1.ok = true →
    (s1.cxRuns n 0x80 → d.a ≠ 0 → ¬ (d.src / 2 ^ 48 = d.dst / 2 ^ 48 ∧ d.src < d.dst ∧ d.dst < d.src + d.a) →
      let y := md.1.bytes d.src d.a
      y.1.ok = true →
      Completes (.copyMem t n) s fun s' => CxBusy s1 s' n ∧ PiecesIssued y.1.s s' n y.1.poison [(d.dst, y.2)]) ∧
    (s1.cxRuns n 0x81 → d.a ≠ 0 →
      let y := Rd.each (fun r j => r.bytes (addAddr d.src (Int.ofNat j * d.ss)) d.a) md.1 (List.range d.b)
      y.1.ok = true →
      Completes (.copy2d t n) s fun s' =>
        CxBusy s1 s' n ∧ PiecesIssued y.1.s s' n y.1.poison
          (((List.range d.b).map fun j => addAddr d.dst (Int.ofNat j * d.ds)).zip y.2)) ∧
    (s1.cxRuns n 0x82 → listLen d.a = true →
      let l := md.1.bytes d.list (8 * d.b)
      let y := Rd.each (fun r j => r.bytes (leAt l.2 (8 * j) 8) d.a) l.1 (List.range d.b)
      l.1.ok = true → y.1.ok = true →
      Completes (.gather t n) s fun s' =>
        CxBusy s1 s' n ∧ PiecesIssued y.1.s s' n y.1.poison
          (((List.range d.b).map fun j => (d.dst + j * d.a) % 2 ^ 64).zip y.2)) ∧
    (s1.cxRuns n 0x83 → listLen d.a = true →
      let l := md.1.bytes d.list (8 * d.b)
      let y := Rd.each (fun r j => r.bytes (d.src + j * d.a) d.a) l.1 (List.range d.b)
      l.1.ok = true → y.1.ok = true →
      Completes (.scatter t n) s fun s' =>
        CxBusy s1 s' n ∧ PiecesIssued y.1.s s' n y.1.poison
          (((List.range d.b).map fun j => leAt l.2 (8 * j) 8).zip y.2)) ∧
    (s1.cxRuns n 0x84 → d.dst % 16 = 0 → d.a % 16 = 0 →
      Completes (.fillMem t n) s fun s' =>
        CxBusy s1 s' n ∧ PiecesIssued md.1.s s' n md.1.poison [(d.dst, (List.range (d.a / 16)).flatMap fun _ => d.pat)])

/-- CX_CTRL: HALT halts an active context at once when no instruction is in progress, and waits for the boundary when one is; GO
continues a halted one; SKIP of a faulted command releases its slots and leaves the context idle; RESET of a context without
writes in flight leaves it idle and empty (R301, R623). -/
def Obligations.ContextControl : Prop :=
  ∀ (t : Tick) (n : Nat) (s : State),
    let s1 := s.advanceTo t
    let c := s1.cx n
    s1.cxCtl n = true →
    (s1.cxView n ≤ 2 → c.phase ≠ .busy → c.phase ≠ .reading →
      Completes (.cxHalt t n) s fun s' =>
        s'.cxState n = 3 ∧ (s'.cx n).phase = c.phase ∧ (s'.cx n).slot = c.slot ∧ (s'.cx n).present = c.present ∧ MemKeep s1 s') ∧
    (s1.cxView n ≤ 2 → c.phase = .busy →
      Completes (.cxHalt t n) s fun s' =>
        s'.cxState n = s1.cxState n ∧ (s'.cx n).stopReq = Nat.lor c.stopReq 1 ∧ (s'.cx n).phase = .busy ∧ s'.regs = s1.regs ∧
        MemKeep s1 s') ∧
    (s1.cxState n = 3 →
      Completes (.cxGo t n) s fun s' =>
        s'.cxState n = (if c.phase = .none then 0 else 1) ∧ (s'.cx n).phase = c.phase ∧ MemKeep s1 s') ∧
    (s1.cxState n = 4 → c.dbg = false → c.phase ≠ .none →
      Completes (.cxSkip t n) s fun s' =>
        s'.cxState n = 0 ∧ (s'.cx n).phase = .none ∧ s'.cxHead n = (s1.cxHead n + c.len) % 8192 ∧
        s'.reg (cxB n + 0x1C) = (s1.reg (cxB n + 0x1C) + c.len) % 2 ^ 32 ∧ s'.reg (cxB n + 0x20) = s1.reg (cxB n + 0x20) ∧
        MemKeep s1 s') ∧
    (c.phase ≠ .busy → c.phase ≠ .reading → s1.cxWrites n = false →
      Completes (.cxReset t n) s fun s' =>
        s'.cxState n = 0 ∧ (s'.cx n).phase = .none ∧ (s'.cx n).present = [] ∧ s'.cxHead n = 0 ∧ s'.reg (cxB n + 0x1C) = 0 ∧
        s'.reg (cxB n + 0x20) = 0 ∧ s'.reg96 (cxB n + 0x30) = 0 ∧ MemKeep s1 s')

/-! ### Clove -/

/-- A hung engine: a command that exceeds its timeout faults and Clove takes its engine, keeping that record's SEQ; drained, it goes to replay, and past the
bound to isolation and an image; an unreadable unit is recorded; image, reset and check follow in their order; each active context
is replayed from its checkpoint; the release gives every context back and counts a hang that did not come again (R496 to R511). -/
def Obligations.HungEngineCommands : Prop :=
  ∀ (t : Tick) (s : State),
    let s1 := s.advanceTo t
    (∀ n, n < 100 → s1.overdue n = true → s1.rv.replay ≠ some n → s1.rv.chip = none →
      Completes (.cmdTimeout t n) s fun s' =>
        s'.reg (cxB n + 0x28) = (Code.CMD_TIMEOUT + (s1.cx n).slot * 2 ^ 16 + 2 ^ 31) % 2 ^ 32 ∧
        (∀ i, i < engCtxs (engineOf n) → s'.cxState (engFirst (engineOf n) + i) = 5) ∧
        s'.rv.queue = s1.rv.queue ++ [engineOf n] ∧ s'.rb (engB (engineOf n) + 4) 1 = true ∧
        s'.reg 0x30020 = (s1.reg 0x30020 + 1) % 2 ^ 32 ∧ s'.host.fltSeq = s1.host.fltSeq + 1 ∧
        (s1.rv.queue = [] → s'.rv.dumpSeq = s1.host.fltSeq) ∧ MemKeep s1 s') ∧
    (∀ e, s1.rvOn e 1 = true → s1.engDrained e = true → s1.rv.late = none →
      Completes (.engineDrainComplete t e) s fun s' =>
        s'.rvPhase = 3 ∧ s'.rv.queue = s1.rv.queue ∧
        (s1.rv.dumpReplay = false → e ≠ 9 → e ≠ 10 → s'.rv.suspects = (engList e).filter fun n => (s1.cx n).wasActive) ∧
        (∀ o, o ≠ 0x30004 → s'.reg o = s1.reg o) ∧ s'.mem = s1.mem) ∧
    (∀ e, s1.rvOn e 1 = true → s1.engDrained e = false → s1.rv.from_ + s1.drainBound ≤ s1.clk.now → s1.rv.late = none →
      Completes (.engineDrainBoundExpiry t e) s fun s' =>
        s'.rvPhase = 2 ∧ s'.rv.step = 1 ∧ (s'.mem.inflight = s1.mem.inflight.filter fun r => !engOwn e r.issuer) ∧
        MemKeep s1 s') ∧
    (∀ u, u < 65536 → s1.imaging = true → s1.rv.stepFrom + s1.rf 0x3000C 7 0 * tus ≤ s1.clk.now →
      (∀ x ∈ s1.rv.units, x.1 ≠ u) →
      Completes (.scanUnitTimeout t u) s fun s' =>
        s'.rv.units = s1.rv.units ++ [(u, none)] ∧ s'.regs = s1.regs ∧ s'.mem = s1.mem) ∧
    (∀ e q units, s1.rv.queue = e :: q → s1.rv.demand = none → s1.rv.step = 1 →
      Completes (.dumpImageComplete t units) s fun s' =>
        s'.rv.step = 2 ∧ s'.rv.stepFrom = s1.clk.now ∧ s'.rv.queue = s1.rv.queue ∧ MemKeep s1 s') ∧
    (∀ e, s1.rvOn e 2 = true → s1.rv.step = 2 → s1.rv.stepFrom + 50 * tus ≤ s1.clk.now →
      Completes (.scopeResetComplete t e) s fun s' =>
        s'.rv.step = 3 ∧ s'.engine e = {} ∧ s'.regs = s1.regs ∧ s'.mem = s1.mem) ∧
    (∀ e, s1.rvOn e 2 = true → s1.rv.step = 3 → s1.rv.stepFrom + 500 * tus ≤ s1.clk.now →
      (Completes (.scopeCheckComplete t e true) s fun s' => s'.rv.step = 4 ∧ s'.rvPhase = 2 ∧ s'.mem = s1.mem) ∧
      (s1.rv.chip = none →
        Completes (.scopeCheckComplete t e false) s fun s' => s'.rv.chip = some 1 ∧ s'.rvPhase = 4 ∧ MemKeep s1 s')) ∧
    (∀ e n rest k, s1.rvOn e 3 = true → s1.rv.replay = none → s1.rv.suspects = n :: rest → (s1.cx n).ckpt = some k →
      Completes (.contextReplayStart t e) s fun s' =>
        s'.rv.replay = some n ∧ s'.rv.suspects = rest ∧ (s'.cx n).phase = .ready ∧ (s'.cx n).slot = k.head ∧
        s'.cxHead n = k.head % 8192 ∧ s'.reg (cxB n + 0x1C) = k.consumed % 2 ^ 32 ∧ s'.reg (cxB n + 0x20) = k.done % 2 ^ 32 ∧
        MemKeep s1 s') ∧
    ∀ e, e < 15 → e ≠ 9 → e ≠ 10 → s1.rvOn e 3 = true → s1.rv.queue = [e] → s1.rv.replay = none → s1.rv.suspects = [] →
      s1.rv.late = none → s1.rv.guilty = false →
      Completes (.engineRelease t e) s fun s' =>
        s'.rv.queue = [] ∧ s'.reg 0x30004 = 0 ∧ s'.reg 0x30028 = (s1.reg 0x30028 + 1) % 2 ^ 32 ∧ s'.rb (engB e + 4) 1 = false ∧
        (∀ n ∈ engList e, (s1.cx n).wasActive = false → (s1.cx n).guilty = false → s'.cxState n = (s1.cx n).prior % 8) ∧
        (∀ n ∈ engList e, (s1.cx n).wasActive = true → (s1.cx n).guilty = false → (s1.cx n).prior ≠ 4 → (s1.cx n).stopReq = 0 →
          s'.cxState n = 0) ∧ MemKeep s1 s'

/-- Failed cells and the chip-level recovery: a cell that fails its pattern test is marked and reported, one that passes is not; the
recovery holds every context and shows its phase, its reset keeps memory, a failed step ends the attempt, and the last step shows
the time it took (R512, R518 to R520, R523). -/
def Obligations.CellTestAndChipRecovery : Prop :=
  ∀ (t : Tick) (s : State),
    let s1 := s.advanceTo t
    (∀ a b, a ∈ s1.rv.suspectCells → b ∈ s1.rv.suspectCells → a ≠ b →
      Completes (.cellPatternTest t a b false true) s fun s' =>
        s'.rb (clB a + 4) 2 = true ∧ s'.reg (clB b + 4) = s1.reg (clB b + 4) ∧ EventPosted s1 s' Code.CELL_SPARED a ∧
        (∀ x, x ∈ s'.rv.suspectCells ↔ x ∈ s1.rv.suspectCells ∧ x ≠ a ∧ x ≠ b) ∧ MemKeep s1 s') ∧
    (s1.rv.chip = none →
      Completes (.chipRecover t) s fun s' =>
        s'.rv.chip = some 1 ∧ s'.rvPhase = 4 ∧ s'.reg 0x3002C = (s1.reg 0x3002C + 1) % 2 ^ 32 ∧ s'.rb 0x540000 1 = true ∧
        (∀ n, n < 100 → s'.cxState n = 5) ∧ s'.rv.queue = [] ∧ MemKeep s1 s') ∧
    (s1.rv.chip = some 1 →
      Completes (.chipRecoveryPhaseComplete t true) s fun s' =>
        s'.rv.chip = some 2 ∧ (∀ n, n < 100 → s'.cxState n = 5) ∧ (∀ n q, n < 6400 → (s'.cell n).queue q = []) ∧ MemKeep s1 s') ∧
    (s1.rv.chip = some 2 →
      Completes (.chipRecoveryPhaseComplete t true) s fun s' => s'.rv.chip = some 3 ∧ s'.regs = s1.regs ∧ s'.mem = s1.mem) ∧
    (s1.rv.chip = some 6 → s1.rv.replaying = [] →
      Completes (.chipRecoveryPhaseComplete t true) s fun s' =>
        s'.rv.chip = none ∧ s'.reg 0x30004 = 0 ∧ s'.rb 0x540000 1 = false ∧
        s'.reg 0x30030 = ((s1.clk.now - s1.rv.chipFrom) / tus) % 2 ^ 32 ∧ MemKeep s1 s') ∧
    ∀ k, s1.rv.chip = some k → k < 8 →
      Completes (.chipRecoveryPhaseComplete t false) s fun s' => s'.rv.chip = some 8 ∧ s'.rvPhase = 0 ∧ s'.mem = s1.mem

/-! ### The trigger engine -/

/-- Channels: a presented group of one sub-channel gives its channel one sample with the channel's next index and the stamp SN_T0 +
index × SN_PERIOD, and its low comparator moves; a formed token enters its west-edge slot with the slot's next SEQ; a sample that
reaches the check point with its stream closed is dropped, in mode RAW it joins the record being formed, and in a mode that
records nothing it is only checked; EN starts a channel of legal WIDTH anew and stops it; REARM clears STOPPED (R302, R303, R305,
R306, R311, R312, R324, R327, R360, R363). -/
def Obligations.ChannelCommands : Prop :=
  ∀ (t : Tick) (s : State),
    let s1 := s.advanceTo t
    (∀ lane g rest, 192 ≤ lane → lane < 288 → s1.laneOn lane = true → s1.laneSt lane = 4 → s1.rb (lnB lane + 4) 6 = false →
      s1.rb (grpReg lane) 19 = true → s1.domOn 27 = true → 10 ∉ s1.rv.queue → (s1.lane lane).fifo = g :: rest →
      s1.presentAt lane g ≤ s1.sn → s1.nch lane = 1 →
      let c := 4 * (lane - 192)
      let k := s1.chan c
      let v := s1.groupSample lane 0 g
      s1.rb (snB c + 4) 0 = true → k.started = true →
      Completes (.samplePresent t lane) s fun s' =>
        (s'.lane lane).fifo = rest ∧ (s'.chan c).next = k.next + 1 ∧ s'.reg64 (snB c + 0x10) = k.next % 2 ^ 64 ∧
        (∃ x, (s'.chan c).line = k.line ++ [x] ∧ x.idx = k.next ∧ x.v = v ∧ x.stamp = s1.chT0 c + k.next * s1.chPeriod c ∧
          x.at_ = x.stamp) ∧
        (s'.chan c).lo =
          some (match k.lo with
            | some true => !decide (v < signed 32 (s1.reg (snB c + 0x28)) - Int.ofNat (s1.rf (snB c + 0x30) 15 0))
            | _ => decide (signed 32 (s1.reg (snB c + 0x28)) ≤ v)) ∧
        (∀ d, d ≠ c → s'.chan d = s1.chan d) ∧ MemKeep s1 s') ∧
    (∀ row slot f, s1.tg.formed.find? (fun f => f.row == row && f.slot == slot) = some f → s1.edgeStop (s1.physOf row 0) = false →
      let q (x : State) : List Token := Sparse.get (fun _ => []) (x.west row).out slot
      let k := Sparse.get (fun _ => 0) (s1.west row).seq slot
      Completes (.featureTokenSend t row slot) s fun s' =>
        q s' = q s1 ++ [{ kind := 0, epoch := s1.clEpoch (s1.physOf row 0), seq := k, payload := f.payload }] ∧
        Sparse.get (fun _ => 0) (s'.west row).seq slot = (k + 1) % 16 ∧ s'.tg.formed = s1.tg.formed.erase f ∧
        (∀ r, r ≠ row → s'.west r = s1.west r) ∧ s'.regs = s1.regs ∧ s'.mem = s1.mem) ∧
    (∀ c x rest, (s1.chan c).line = x :: rest → x.at_ + (s1.strm (s1.chStrm c)).delay * grain ≤ s1.sn →
      let k := s1.chan c
      (s1.strmOpen (s1.chStrm c) = false →
        Completes (.sampleReachCheckPoint t c) s fun s' =>
          (s'.chan c).line = rest ∧ (s'.chan c).run = none ∧ (s'.chan c).next = k.next ∧ s'.stages = s1.stages ∧
          s'.regs = s1.regs ∧ s'.mem = s1.mem) ∧
      (s1.strmOpen (s1.chStrm c) = true → k.mask = none → s1.rb (snB c + 4) 1 = false → x.drift = none →
        (s1.rf (snB c + 8) 10 8 = 0 → (∀ r, k.run = some r → r.last + 1 = x.idx ∧ r.vals.length + 1 < s1.recLen c 0) →
          1 < s1.recLen c 0 →
          Completes (.sampleReachCheckPoint t c) s fun s' =>
            (s'.chan c).line = rest ∧
            (∃ r, (s'.chan c).run = some r ∧ r.last = x.idx ∧ r.basis = x.at_ ∧
              r.vals = x.v :: (match k.run with | some y => y.vals | none => []) ∧
              r.first = (match k.run with | some y => y.first | none => x.idx)) ∧
            s'.stages = s1.stages ∧ s'.regs = s1.regs ∧ s'.mem = s1.mem) ∧
        (4 ≤ s1.rf (snB c + 8) 10 8 →
          Completes (.sampleReachCheckPoint t c) s fun s' =>
            (s'.chan c).line = rest ∧ (s'.chan c).run = k.run ∧ s'.stages = s1.stages ∧ s'.regs = s1.regs ∧ s'.mem = s1.mem))) ∧
    ∀ c, s1.chanOn c = true →
      (s1.rb (snB c) 0 = false → 8 ≤ s1.chWidth c → s1.chWidth c ≤ 16 →
        (∀ d ∈ laneChans (192 + c / 4), d ≠ c → s1.rb (snB d) 0 = true → s1.chPeriod d = s1.chPeriod c) →
        Completes (.snEnable t c true) s fun s' =>
          s'.rb (snB c) 0 = true ∧ s'.rb (snB c + 4) 2 = false ∧ (s'.chan c).enAt = s1.sn ∧ (s'.chan c).next = 0 ∧
          (s'.chan c).started = false ∧ (s'.chan c).lo = none ∧ (s'.chan c).hi = none ∧ (s'.chan c).mask = none ∧
          (∀ o, o ≠ snB c → o ≠ snB c + 4 → s'.reg o = s1.reg o) ∧ (∀ d, d ≠ c → s'.chan d = s1.chan d) ∧ s'.mem = s1.mem) ∧
      (s1.rb (snB c) 0 = false → (s1.chWidth c < 8 ∨ 16 < s1.chWidth c) →
        Completes (.snEnable t c true) s fun s' => s' = s1) ∧
      Completes (.snEnable t c false) s (fun s' =>
        s'.rb (snB c) 0 = false ∧ s'.rb (snB c + 4) 0 = false ∧ (s'.chan c).started = false ∧ (s'.chan c).line = (s1.chan c).line ∧
        (∀ o, o ≠ snB c → o ≠ snB c + 4 → s'.reg o = s1.reg o) ∧ (∀ d, d ≠ c → s'.chan d = s1.chan d) ∧ s'.mem = s1.mem) ∧
      Completes (.snRearm t c) s fun s' =>
        s'.rb (snB c + 4) 1 = false ∧ s'.rb (snB c + 4) 0 = s1.rb (snB c + 4) 0 ∧ s'.rb (snB c + 4) 2 = s1.rb (snB c + 4) 2 ∧
        (∀ o, o ≠ snB c + 4 → s'.reg o = s1.reg o) ∧ s'.tg = s1.tg ∧ s'.mem = s1.mem

/-- Combiners: an active edge of an LVDS input sends its event to every combiner with a slot that names it; an event in time joins
the combiner's events, one that is late is counted, and one for a disarmed combiner is dropped; at an instant whose time has come a
live combiner that does not coincide decides without a trigger, one that coincides accepts a trigger and forms its MARK record, and
a dead one counts what it suppresses; a dead interval over, its length is added up; a MARK record goes to its stream buffer; a data
token from a row's circuit is taken for its period, and one of another epoch is dropped and counted (R312, R313, R315 to R323, R345). -/
def Obligations.CombinerCommands : Prop :=
  ∀ (t : Tick) (s : State),
    let s1 := s.advanceTo t
    let unseen : Prop := ∀ b, b < 16 → s1.rf (bpB b) 2 0 ≠ 4
    (∀ i level, i < 8 → bit s1.pin.lvdsIn i = !level → bit (s1.rf 0x3C0100 (2 * i + 1) (2 * i)) (if level then 0 else 1) = true →
      (∀ p, Sparse.get (fun _ => none) s1.tg.lvdsLast i = some p → p + tns / 4 < s1.sn) → s1.domOn 27 = true →
      s1.holdsPins = false → unseen →
      Completes (.lvdsInputEdge t i level) s fun s' =>
        bit s'.pin.lvdsIn i = level ∧
        (∀ n, n < 64 → (s'.comb n).coming = (s1.comb n).coming ++
          if s1.combNames n (1536 + i) then [{ src := 1536 + i, stamp := s1.sn / 8192 * 8192 }] else []) ∧
        s'.regs = s1.regs ∧ s'.mem = s1.mem) ∧
    ∀ n, n < 64 →
      let k := s1.comb n
      let others (s' : State) : Prop := ∀ m, m ≠ n → s'.comb m = s1.comb m
      (∀ e rest, k.coming = e :: rest → s1.armed n = true → s1.combNames n e.src = true →
        Completes (.combinerEventReceive t n) s fun s' =>
          (s'.comb n).coming = rest ∧
          (s1.sn ≤ e.stamp + s1.combAlign n → (s'.comb n).evs = k.evs ++ [e] ∧ s'.regs = s1.regs) ∧
          (e.stamp + s1.combAlign n < s1.sn →
            (s'.comb n).evs = k.evs ∧ s'.reg (combB n + 0x18) = (s1.reg (combB n + 0x18) + 1) % 2 ^ 32) ∧
          others s' ∧ MemKeep s1 s') ∧
      (∀ e rest, k.coming = e :: rest → s1.armed n = false →
        Completes (.combinerEventReceive t n) s fun s' =>
          (s'.comb n).coming = rest ∧ (s'.comb n).evs = k.evs ∧ others s' ∧ s'.regs = s1.regs ∧ s'.mem = s1.mem) ∧
      (∀ u, s1.armed n = true → 10 ∉ s1.rv.queue → k.nextStamp = some u → u + s1.combAlign n ≤ s1.sn →
        (k.deadFrom = none → s1.coincides n (s1.termsAt n u) = false →
          Completes (.combinerDecide t n) s fun s' =>
            (s'.comb n).decided = some u ∧ (s'.comb n).deadFrom = none ∧ (s'.comb n).marks = k.marks ∧ others s' ∧
            s'.regs = s1.regs ∧ s'.stages = s1.stages ∧ s'.mem = s1.mem) ∧
        (k.deadFrom = none → s1.coincides n (s1.termsAt n u) = true →
          Completes (.combinerDecide t n) s fun s' =>
            (s'.comb n).decided = some u ∧ (s'.comb n).deadFrom = some u ∧ (s'.comb n).supp = 0 ∧
            (s'.comb n).trigs = k.trigs + 1 ∧ s'.reg (combB n + 0x10) = (s1.reg (combB n + 0x10) + 1) % 2 ^ 32 ∧
            s'.reg96 (combB n + 0x40) = pack96 u % 2 ^ 96 ∧
            (s'.comb n).marks = k.marks ++ [(u + s1.combAlign n + former, u,
              (s1.setComb n { k with trigs := k.trigs + 1 }).markBytes n u (s1.termsAt n u)
                (s1.slotsOf n fun e => e.stamp == u))] ∧
            (∀ m, m ≠ n → (s'.comb m).evs = (s1.comb m).evs ∧ (s'.comb m).marks = (s1.comb m).marks) ∧ MemKeep s1 s') ∧
        (∀ T, k.deadFrom = some T → s1.deadEnd n T = none →
          let m := (k.evs.filter fun e => e.stamp == u).length
          Completes (.combinerDecide t n) s fun s' =>
            (s'.comb n).decided = some u ∧ (s'.comb n).deadFrom = some T ∧ (s'.comb n).supp = k.supp + m ∧
            s'.reg (combB n + 0x14) = (s1.reg (combB n + 0x14) + m) % 2 ^ 32 ∧ (s'.comb n).marks = k.marks ∧ others s' ∧
            s'.stages = s1.stages ∧ s'.mem = s1.mem)) ∧
      (∀ T e, k.deadFrom = some T → s1.deadEnd n T = some e → k.nextStamp = none →
        Completes (.deadTimeEnd t n) s fun s' =>
          (s'.comb n).deadFrom = none ∧ (s'.comb n).supp = 0 ∧
          (s'.comb n).report = (min (2 ^ 32 - 1) ((e - T) / grain), min (2 ^ 32 - 1) k.supp) ∧
          s'.reg64 (combB n + 0x20) = (s1.reg64 (combB n + 0x20) + min (2 ^ 32 - 1) ((e - T) / grain)) % 2 ^ 64 ∧
          (∀ o, o ≠ combB n + 0x20 → o ≠ combB n + 0x24 → s'.reg o = s1.reg o) ∧ others s' ∧ s'.mem = s1.mem) ∧
      (∀ a b m rest, k.marks = (a, b, m) :: rest → a ≤ s1.sn → s1.strmOpen (s1.combStrm n) = true →
        let j := s1.combStrm n
        Completes (.markRecordDeliver t n) s fun s' =>
          (s'.comb n).marks = rest ∧ (s'.strm j).fill = (s1.strm j).fill + m.length ∧
          (s'.stage (40 + j)).wait = (s1.stage (40 + j)).wait ++
            [{ launch := some (roundUp (b + (s1.strm j).offset * grain) grain), complete := s1.snUp, origin := .stream j
               body := .records [m] }] ∧
          (s'.stage (40 + j)).held = (s1.stage (40 + j)).held ∧ others s' ∧ s'.regs = s1.regs ∧ s'.mem = s1.mem) ∧
      (∀ row slot tok rest, (s1.west row).inq = (slot, tok) :: rest → tok.epoch ≠ s1.clEpoch (s1.physOf row 0) →
        let x := clB (s1.physOf row 0) + 0x10
        Completes (.tgEdgeTokenReceive t row) s fun s' =>
          (s'.west row).inq = rest ∧ s'.reg x = (s1.reg x + 1) % 2 ^ 32 ∧ s'.comb n = k ∧ s'.stages = s1.stages ∧
          (∀ o, o ≠ x → s'.reg o = s1.reg o) ∧ s'.mem = s1.mem) ∧
      ∀ row slot tok rest, (s1.west row).inq = (slot, tok) :: rest → tok.kind = 0 →
        let key := row * 16 + slot
        let e := s1.reg (tgIn row slot)
        let c := fld e 17 8
        let o := s1.netOut key
        let p := s1.periodBase c row + o.count
        o.gen = (s1.cell (s1.physOf row 0)).gen → c < 384 → tok.epoch = s1.clEpoch (s1.physOf row 0) →
        (p < periodsIn (s1.stride c) (s1.chan c).next → bit e 7 = false → unseen →
          Completes (.tgEdgeTokenReceive t row) s fun s' =>
            (s'.west row).inq = rest ∧ (s'.netOut key).count = o.count + 1 ∧ s'.regs = s1.regs ∧
            (s'.comb n).coming = k.coming ++ (if bit tok.payload.toNat 0 && s1.combNames n (1544 + fld e 6 1) then
              [{ src := 1544 + fld e 6 1, stamp := s1.stampOf c (15 + p * s1.stride c) }] else []) ∧
            s'.mem = s1.mem) ∧
        (periodsIn (s1.stride c) (s1.chan c).next ≤ p →
          Completes (.tgEdgeTokenReceive t row) s fun s' =>
            (s'.west row).inq = rest ∧ s'.reg 0x3C0104 = (s1.reg 0x3C0104 + 1) % 2 ^ 32 ∧ s'.netOut key = o ∧
            s'.comb n = k ∧ EventPosted s1 s' Code.TG_EDGE_EXTRA 0 ∧ MemKeep s1 s')

/-- Streams and the instructions of the trigger engine: TSTART starts its context's stream from the descriptor, with TG_ST_SEQ 0 and a
TIME record; TSTOP disarms the stream's combiners, waits while a record is on its way, and ends the stream; TARM and TDISARM arm and
disarm the listed combiners of the stream, and fault on any other; TREARM clears STOPPED of a channel of the stream; TSOFT sends its
event to a combiner of the stream; a stream into memory polls its reader's count; SEC[15:0] wrapping makes a TIME record (R327 to
R329, R339 to R341). -/
def Obligations.StreamCommands : Prop :=
  ∀ (t : Tick) (k : Nat) (s : State),
    let s1 := s.advanceTo t
    let n := 64 + k
    let w := s1.cxWord n
    let a := operE w
    let st := s1.strm k
    k < 4 →
    (let rd : Rd × List Byte := Rd.bytes { s := s1.startTimeout n, n := n } a 64
     let l := rd.2
     s1.cxIssues n 0x70 → a % 16 = 0 → rd.1.ok = true → descOk l = true → leAt l 0 1 % 2 = 0 → st.running = false →
      (s1.stage (40 + k)).held = [] → (s1.stage (40 + k)).wait = [] →
      Completes (.tstart t n) s fun s' =>
        CxBusy s1 s' n ∧ (s'.strm k).running = true ∧ (s'.strm k).stopping = false ∧ (s'.strm k).kind = 0 ∧
        (s'.strm k).ring = leAt l 0 1 / 2 ∧ (s'.strm k).offset = leAt l 0x14 4 ∧ (s'.strm k).delay = leAt l 0x28 4 ∧
        (s'.strm k).written = 0 ∧ (s'.strm k).bp = none ∧ s'.reg (strmB k + 8) = 0 ∧ s'.rb (strmB k) 2 = false ∧
        (∃ r, (s'.stage (40 + k)).wait =
          [{ launch := some (roundUp (s1.sn + leAt l 0x14 4 * grain) grain), complete := s1.snUp, origin := .stream k
             body := .records [r] }] ∧ r.length = 64) ∧ MemKeep s1 s') ∧
    (s1.cxIssues n 0x71 → st.stopping = false →
      Completes (.tstop t n) s fun s' =>
        (∀ c, c < 64 → s1.combStrm c = k → s'.armed c = false) ∧ (∀ c, s1.combStrm c ≠ k → s'.comb c = s1.comb c) ∧
        (st.running = false → CxBusy s1 s' n ∧ s'.strm k = st) ∧ (st.running = true →
        (s1.strmBusy k = false → CxBusy s1 s' n ∧ (s'.strm k).running = false) ∧
        (s1.strmBusy k = true → (s'.cx n).phase = .reading ∧ (s'.strm k).running = true ∧ (s'.strm k).stopping = true)) ∧
        s'.mem = s1.mem) ∧
    ((∀ c, c < 64 → bit a c = true → s1.combStrm c = k) →
      (s1.cxIssues n 0x72 → Completes (.tarm t n) s fun s' =>
        CxBusy s1 s' n ∧
        (∀ c, c < 64 → bit a c = true →
          s'.armed c = true ∧ (s'.comb c).evs = [] ∧ (s'.comb c).deadFrom = none ∧ (s'.comb c).trigs = 0 ∧
          (s'.comb c).marks = (s1.comb c).marks) ∧
        (∀ c, bit a c = false → s'.comb c = s1.comb c ∧ s'.armed c = s1.armed c) ∧ s'.mem = s1.mem) ∧
      (s1.cxIssues n 0x73 → Completes (.tdisarm t n) s fun s' =>
        CxBusy s1 s' n ∧
        (∀ c, c < 64 → bit a c = true →
          s'.armed c = false ∧ (s'.comb c).evs = [] ∧ (s'.comb c).deadFrom = none ∧ (s'.comb c).marks = (s1.comb c).marks) ∧
        (∀ c, bit a c = false → s'.comb c = s1.comb c ∧ s'.armed c = s1.armed c) ∧ s'.mem = s1.mem)) ∧
    (∀ c, c < 64 → bit a c = true → s1.combStrm c ≠ k → s1.cxState n ≠ 5 →
      (s1.cxIssues n 0x72 → Completes (.tarm t n) s fun s' => CxFaulted s1 s' n Code.INVALID_FIELD ∧ s'.tg = s1.tg) ∧
      (s1.cxIssues n 0x73 → Completes (.tdisarm t n) s fun s' => CxFaulted s1 s' n Code.INVALID_FIELD ∧ s'.tg = s1.tg)) ∧
    (s1.cxIssues n 0x74 → fld w 8 0 < 384 → s1.chStrm (fld w 8 0) = k →
      let o := snB (fld w 8 0) + 4
      Completes (.trearm t n) s fun s' =>
        CxBusy s1 s' n ∧ s'.rb o 1 = false ∧ (∀ x, x ≠ o → s'.reg x = s1.reg x) ∧ s'.tg = s1.tg ∧ s'.mem = s1.mem) ∧
    (s1.cxIssues n 0x75 → s1.combStrm (fld w 5 0) = k → (∀ b, b < 16 → s1.rf (bpB b) 2 0 ≠ 4) →
      let c := fld w 5 0
      Completes (.tsoft t n) s fun s' =>
        CxBusy s1 s' n ∧ (s'.comb c).coming = (s1.comb c).coming ++ [{ src := 1672, stamp := (s1.sn / grain + 1) * grain }] ∧
        (∀ m, m ≠ c → s'.comb m = s1.comb m) ∧ s'.regs = s1.regs ∧ s'.mem = s1.mem) ∧
    (st.running = true → st.kind ≠ 0 → st.from_ + (st.polls + 1) * tus ≤ s1.clk.now →
      Completes (.streamHeadPoll t k) s fun s' =>
        (s'.strm k).polls = st.polls + 1 ∧
        s'.mem.inflight = s1.mem.inflight ++ [{ id := s1.mem.nextId, issuer := .stream k, addr := st.head, write := false, len := 8
                                                bind := s1.cxBind n, epoch := s1.cxEpoch n }] ∧
        s'.mem.bytes = s1.mem.bytes ∧ s'.regs = s1.regs) ∧
    (s1.strmOpen k = true → st.wrapSec < s1.sn / tsec / 65536 * 65536 →
      let b := s1.sn / tsec / 65536 * 65536
      Completes (.streamTimeWrap t k) s fun s' =>
        (s'.strm k).wrapSec = b ∧ (s'.strm k).fill = st.fill + 64 ∧
        (s'.stage (40 + k)).wait = (s1.stage (40 + k)).wait ++
          [{ launch := some (roundUp (b * tsec + st.offset * grain) grain), complete := s1.snUp, origin := .stream k
             body := .records [s1.timeRecord (srcStrm k) 4 (b * tsec) 0 0 (s1.residAt (b * tsec))] }] ∧
        s'.regs = s1.regs ∧ s'.mem = s1.mem)

/-! ### Serial lanes -/

/-- States of a lane: EN starts training with the preset asked for, or SLEEP, and stops it; RETRAIN trains anew; the sleeps take
each half to sleep and back, and a port's lane whose transmit half sleeps leaves the port until it is awake; lock takes ACQUIRE to
EQUALISE (not on a front lane that does not train), MEASURE or UP and its loss takes UP, and no other state, to ACQUIRE; a lane that
has not trained within 280 ms fails, and one that has not relocked trains anew; loss of signal takes the lane to ACQUIRE (R348,
R349, R353, R369, R370, R374, R375, R378, R380, R434). -/
def Obligations.LaneStateCommands : Prop :=
  ∀ (t : Tick) (n : Nat) (s : State),
    let s1 := s.advanceTo t
    let l := s1.lane n
    let goes (v : Nat) (s' : State) : Prop :=
      s'.laneSt n = v ∧ (∀ m, m < 288 → m ≠ n → s'.laneSt m = s1.laneSt m ∧ s'.lane m = s1.lane m) ∧ MemKeep s1 s'
    let carried (s' : State) : Prop := n < 160 → s1.npOn (n / 8) = true → s1.npState (n / 8) = 2 →
      s'.rf (nfB (n / 8) + 4) 9 2 = s'.upMask (n / 8)
    let fresh (s' : State) : Prop := (s'.lane n).req = 0x40 ∧ (s'.lane n).trained = false ∧ (s'.lane n).from_ = s1.clk.now
    s1.laneOn n = true →
    (s1.rb (lnB n) 0 = false → (isFront n = true → s1.frontUsed n = true) →
      (isSensor n = true → 2500 ≤ s1.rf (lnB n + 8) 14 0 ∧ s1.rf (lnB n + 8) 14 0 ≤ 32000) →
      Completes (.laneEnable t n true) s fun s' =>
        goes (if s1.rb (lnB n) 3 then 5 else 1) s' ∧ s'.rb (lnB n) 0 = true ∧ fresh s') ∧
    Completes (.laneEnable t n false) s (fun s' => goes 0 s' ∧ s'.rb (lnB n) 0 = false ∧ s'.lane n = { grpOff := l.grpOff }) ∧
    (s1.laneSt n ≠ 0 → s1.laneSt n ≠ 5 → s1.rb (lnB n) 3 = false →
      Completes (.retrain t n) s fun s' => goes 1 s' ∧ fresh s') ∧
    ∀ b,
    (isFront n = false →
      Completes (.txSleep t n b) s fun s' =>
        goes (s1.laneSt n) s' ∧ s'.rb (lnB n) 2 = b ∧ (b = true → s'.rb (lnB n + 4) 3 = false) ∧ carried s' ∧
        (160 ≤ n → ∀ o, o ≠ lnB n → o ≠ lnB n + 4 → s'.reg o = s1.reg o)) ∧
    (isFront n = true →
      Completes (.txSleep t n b) s (fun s' => s' = s1) ∧ Completes (.rxSleep t n b) s fun s' => s' = s1) ∧
    (isFront n = false → s1.laneSt n ≠ 0 →
      Completes (.rxSleep t n true) s fun s' => goes 5 s' ∧ s'.rb (lnB n) 3 = true) ∧
    (isFront n = false → s1.laneSt n = 5 →
      Completes (.rxSleep t n false) s fun s' =>
        goes 1 s' ∧ s'.rb (lnB n) 3 = false ∧ (l.trained = false → fresh s') ∧
        (l.trained = true → (s'.lane n).trained = true ∧ (s'.lane n).relock = true)) ∧
    (s1.txUsable n = true →
      Completes (.txHalfAwake t n) s fun s' =>
        goes (s1.laneSt n) s' ∧ s'.rb (lnB n + 4) 3 = true ∧ (s'.lane n).txWaking = false ∧ carried s' ∧
        (160 ≤ n → ∀ o, o ≠ lnB n + 4 → s'.reg o = s1.reg o)) ∧
    (s1.laneSt n = 1 → s1.rb (lnB n + 4) 4 = false →
      Completes (.laneLock t n) s fun s' =>
        goes (if l.trained = false ∧ s1.untrained n = false then 2 else if isSensor n && s1.flm n then 3 else 4) s' ∧
        (l.trained = true → isSensor n = true → s1.flm n = false → s'.reg (lnB n + 0x30) = 0)) ∧
    (s1.laneSt n = 4 → Completes (.laneLockLoss t n) s fun s' => goes 1 s' ∧ (s'.lane n).relock = l.trained) ∧
    (s1.laneSt n ≠ 4 → Completes (.laneLockLoss t n) s fun s' => s' = s1) ∧
    (s1.laneSt n = 1 ∨ s1.laneSt n = 2 → s1.rb (lnB n + 4) 4 = false → l.from_ + 280 * tms ≤ s1.clk.now →
      (¬ (s1.laneSt n = 1 ∧ l.relock = true) →
        Completes (.laneTrainTimeout t n) s fun s' =>
          goes 6 s' ∧ s'.rb (lnB n + 4) 7 = true ∧ s1.host.evSeq < s'.host.evSeq) ∧
      (s1.laneSt n = 1 → l.relock = true → Completes (.laneTrainTimeout t n) s fun s' => goes 2 s' ∧ fresh s')) ∧
    (s1.laneSt n = 1 ∨ s1.laneSt n = 2 ∨ s1.laneSt n = 3 ∨ s1.laneSt n = 4 →
      Completes (.signalLoss t n) s fun s' => goes 1 s' ∧ s'.rb (lnB n + 4) 4 = true) ∧
    (s1.rb (lnB n + 4) 4 = true →
      Completes (.signalReturn t n) s fun s' =>
        goes (s1.laneSt n) s' ∧ s'.rb (lnB n + 4) 4 = false ∧ ∀ o, o ≠ lnB n + 4 → s'.reg o = s1.reg o)

/-- What a lane receives: a far request moves the taps and is answered; an answered request is withdrawn; a measured eye is shown,
and ends training on a lane with no far receiver; the latency measurement ends in UP; codewords are counted as good, corrected or
uncorrectable, their payload goes to the port, and 16 uncorrectable ones in a row lose lock; those of an Ethernet port are counted;
characters of a sensor lane fill the group in progress, invalid ones are counted, and three commas lock; FIX sets SN_OFF of every
lane of a group, or reports that it cannot (R350 to R357, R361, R362, R368, R371, R403). -/
def Obligations.LaneReceiveCommands : Prop :=
  ∀ (t : Tick) (n : Nat) (s : State),
    let s1 := s.advanceTo t
    let l := s1.lane n
    let sat (o : Nat) (s' : State) : Prop := s'.reg o = min (2 ^ 32 - 1) (s1.reg o + 1)
    (s1.laneOn n = true →
      (∀ req status, isSensor n = false → s1.laneSt n = 2 → req % 128 ≠ 0 → l.status % 128 = 0 →
        Completes (.trainingFrameReceive t n req req status status) s fun s' =>
          s'.reg (lnB n + 0xC) = (tapRequest (s1.reg (lnB n + 0xC)) (req % 256)).1 % 2 ^ 32 ∧
          (s'.lane n).status = (tapRequest (s1.reg (lnB n + 0xC)) (req % 256)).2 ∧
          (l.done = false → s'.laneSt n = 2) ∧ MemKeep s1 s') ∧
      (∀ req req2 status, 192 ≤ n → s1.laneSt n = 2 → l.req ≠ 0 → answered l.req (status % 256) = true →
        Completes (.trainingFrameReceive t n req req2 status status) s fun s' => (s'.lane n).req = 0 ∧ MemKeep s1 s') ∧
      (∀ w h, s1.laneSt n = 4 →
        Completes (.eyeMeasure t n w h) s fun s' =>
          s'.reg (lnB n + 0x18) = w % 256 + h % 256 * 65536 ∧ s'.laneSt n = 4 ∧
          (∀ o, o ≠ lnB n + 0x18 → s'.reg o = s1.reg o) ∧ s'.mem = s1.mem) ∧
      (∀ w h, 160 ≤ n → s1.laneSt n = 2 → s1.rf (lnB n + 0x1C) 7 0 ≤ w % 256 → s1.rf (lnB n + 0x1C) 23 16 ≤ h % 256 →
        Completes (.eyeMeasure t n w h) s fun s' =>
          s'.laneSt n = 1 ∧ (s'.lane n).trained = true ∧ s'.reg (lnB n + 0x18) = w % 256 + h % 256 * 65536 ∧
          s'.reg (lnB n + 0x14) = (s1.clk.now - l.from_) / tus % 2 ^ 32 ∧ s'.free = s1.free + 1 ∧ s'.mem = s1.mem) ∧
      (∀ lat, isSensor n = true → s1.laneSt n = 3 →
        Completes (.measureDone t n lat) s fun s' =>
          s'.laneSt n = 4 ∧ s'.reg (lnB n + 0x30) = lat % 2 ^ 32 ∧
          (s1.rb (grpReg n) 19 = true →
            (s1.lane (if n < 240 then 192 else 240)).grpOff < lat + s1.rf (grpReg n) 17 10 * grain → s'.rb (lnB n + 4) 6 = true) ∧
          (s1.rb (grpReg n) 19 = false → s'.rb (lnB n + 4) 6 = s1.rb (lnB n + 4) 6) ∧ s'.mem = s1.mem) ∧
      (∀ (bytes : List Byte), n < 160 → bytes.length = 34 →
        let w := if s1.rb (lnB n + 8) 15 then bytes.map flipPam else bytes
        let word (bad : Bool) (s' : State) : Prop := (s'.lane n).word = some (payloadOf w, bad)
        (s1.laneSt n = 4 → codewordFate w = 0 →
          Completes (.codewordReceive t n bytes) s fun s' =>
            word false s' ∧ (s'.lane n).badRun = 0 ∧ s'.regs = s1.regs ∧ s'.mem = s1.mem) ∧
        (s1.laneSt n = 4 → codewordFate w = 1 →
          Completes (.codewordReceive t n bytes) s fun s' =>
            word false s' ∧ (s'.lane n).badRun = 0 ∧ sat (lnB n + 0x20) s' ∧ (∀ o, o ≠ lnB n + 0x20 → s'.reg o = s1.reg o) ∧
            s'.mem = s1.mem) ∧
        (s1.laneSt n = 4 → codewordFate w = 2 →
          Completes (.codewordReceive t n bytes) s fun s' =>
            word true s' ∧ sat (lnB n + 0x24) s' ∧ s'.laneSt n = (if 16 ≤ l.badRun + 1 then 1 else 4) ∧
            (l.badRun + 1 < 16 → (s'.lane n).badRun = l.badRun + 1) ∧ MemKeep s1 s') ∧
        (s1.laneSt n = 1 → codewordFate w = 0 → s1.rb (lnB n + 4) 4 = false → l.goodRun = 63 →
          Completes (.codewordReceive t n bytes) s fun s' => s'.laneSt n = (if l.trained then 4 else 2) ∧ MemKeep s1 s')) ∧
      (∀ (bytes : List Byte), isFront n = true → bytes.length = 680 → s1.laneSt n = 4 → s1.rb (emB (s1.epOf n)) 0 = true →
        let b := emB (s1.epOf n)
        (fecFate bytes = 0 → Completes (.codewordReceive t n bytes) s fun s' => s' = s1) ∧
        (∀ o, (fecFate bytes = 1 ∧ o = b + 0x1B0) ∨ (fecFate bytes = 2 ∧ o = b + 0x1B8) →
          Completes (.codewordReceive t n bytes) s fun s' =>
            s'.reg64 o = min (2 ^ 64 - 1) (s1.reg64 o + 1) ∧ (∀ x, x ≠ o → x ≠ o + 4 → s'.reg x = s1.reg x) ∧ s'.mem = s1.mem)) ∧
      (∀ code,
        let bits := if s1.rb (lnB n + 8) 15 then 1023 - code % 1024 else code % 1024
        let d := decode10 bits l.rdPos
        isSensor n = true →
        (∀ b j, s1.laneSt n = 4 → d = (Chr.d b, false) → l.block = some j → j < s1.blockLen n → s1.nch n ≠ 0 →
          l.grp.length + 1 < s1.groupLen n → (((false :: l.viol).take 16).filter id).length < 4 →
          Completes (.sensorCharacterReceive t n code) s fun s' =>
            (s'.lane n).grp = BitVec.ofNat 8 b :: l.grp ∧ (s'.lane n).block = some j ∧ (s'.lane n).fifo = l.fifo ∧
            (s'.lane n).rdPos = rdNext bits l.rdPos ∧ s'.laneSt n = 4 ∧ s'.regs = s1.regs ∧ s'.mem = s1.mem) ∧
        (s1.laneSt n = 4 → d.1 = Chr.bad →
          Completes (.sensorCharacterReceive t n code) s fun s' => sat (lnB n + 0x20) s' ∧ MemKeep s1 s') ∧
        (s1.laneSt n = 1 → d.1 = Chr.k 0xBC → 2 ≤ l.commas → s1.rb (lnB n + 4) 4 = false → l.trained = false →
          Completes (.sensorCharacterReceive t n code) s fun s' => s'.laneSt n = 2 ∧ s'.mem = s1.mem))) ∧
    ∀ g top, g < 2 →
      let lo := 192 + 48 * g
      let r := s1.reg (lnB lo + 0x80)
      let off := roundUp (max (fld r 9 0 * grain) (top + fld r 17 10 * grain)) grain
      s1.laneOn lo = true → (∀ c, 192 * g ≤ c → c < 192 * g + 192 → s1.rb (snB c) 0 = false) →
      (∀ m, lo ≤ m → m < lo + 48 → s1.laneSt m = 4 → s1.reg (lnB m + 0x30) ≤ top) →
      (top = 0 ∨ ∃ m, lo ≤ m ∧ m < lo + 48 ∧ s1.laneSt m = 4 ∧ s1.reg (lnB m + 0x30) = top) →
      (off ≤ 400 * tns →
        Completes (.groupFix t g) s fun s' =>
          s'.rb (lnB lo + 0x80) 19 = true ∧
          (∀ m j, lo ≤ m → m < lo + 48 → j < 4 →
            s'.reg (snB (4 * (m - 192) + j) + 0x24) = (if s1.flm m then off else 0) ∧ s'.rb (lnB m + 4) 6 = false) ∧
          (s'.lane lo).grpOff = off ∧ (∀ m, m ≠ lo → s'.lane m = s1.lane m) ∧ s'.mem = s1.mem) ∧
      (400 * tns < off →
        Completes (.groupFix t g) s fun s' =>
          s'.rb (lnB lo + 0x80) 19 = s1.rb (lnB lo + 0x80) 19 ∧ EventPosted s1 s' Code.LANE_DESKEW_RANGE lo ∧ s'.lanes = s1.lanes ∧
          MemKeep s1 s')

/-! ### The Nenath fabric -/

/-- Life of a port: EN starts training and ends the port, RETRAIN trains its lanes anew, exchanged identities bring it UP, too few
lanes or a RECOVER flit take it to RECOVERING and a RESUMED flit back, and 280 ms of training or RECOVERY_GRACE in RECOVERING take
it DOWN (R433, R434, R437, R450, R454). -/
def Obligations.PortLife : Prop :=
  ∀ (t : Tick) (p : Nat) (s : State),
    let s1 := s.advanceTo t
    let n := s1.np p
    let down (s' : State) : Prop :=
      s'.npState p = 0 ∧ s'.reg (nfB p + 8) = 0 ∧ (s'.np p).tx = [] ∧ (s'.np p).replay = [] ∧ (s'.np p).rx = n.rx ∧
      EventPosted s1 s' Code.NP_DOWN p ∧ MemKeep s1 s'
    s1.npOn p = true →
    (s1.npState p = 0 → (∃ i, i < 8 ∧ 1 ≤ s1.laneSt (8 * p + i) ∧ s1.laneSt (8 * p + i) ≤ 4) →
      Completes (.nfEnable t p true) s fun s' =>
        s'.npState p = 1 ∧ s'.rb (nfB p) 0 = true ∧ (s'.np p).trainFrom = s1.clk.now ∧
        (∀ o, o ≠ nfB p → o ≠ nfB p + 4 → s'.reg o = s1.reg o) ∧ s'.mem = s1.mem) ∧
    (s1.npState p ≠ 0 → Completes (.nfEnable t p false) s fun s' => down s' ∧ s'.rb (nfB p) 0 = false) ∧
    (∀ i, i < 8 → s1.laneSt (8 * p + i) ≠ 0 → s1.laneSt (8 * p + i) ≠ 5 → s1.rb (lnB (8 * p + i)) 3 = false →
      Completes (.nfRetrain t p) s fun s' =>
        s'.laneSt (8 * p + i) = 1 ∧ (s'.lane (8 * p + i)).req = 0x40 ∧ (s'.lane (8 * p + i)).trained = false ∧
        (∀ m, m < 288 → m / 8 ≠ p → s'.laneSt m = s1.laneSt m) ∧ MemKeep s1 s') ∧
    (∀ peer pp, s1.enoughLanes p = true → s1.npState p = 1 →
      Completes (.portUp t p peer pp) s fun s' =>
        s'.npState p = 2 ∧ s'.reg (nfB p + 8) = peer % 65536 + pp % 32 * 65536 + 2 ^ 31 ∧ s'.rf (nfB p + 4) 9 2 = s1.upMask p ∧
        (s'.np p).txSeq = 0 ∧ (s'.np p).rxSeq = 4095 ∧ (s'.np p).replay = [] ∧ (s'.np p).tx = n.tx ∧ s'.free = s1.free + 5 ∧
        s'.mem = s1.mem) ∧
    (∀ peer pp, s1.enoughLanes p = true → s1.npState p = 3 → n.resuming = false →
      Completes (.portUp t p peer pp) s fun s' =>
        s'.npState p = 3 ∧ (s'.np p).resuming = true ∧ s'.regs = s1.regs ∧ s'.mem = s1.mem ∧
        ∃ l ln, s'.out = { edge := 8 + p, at_ := s1.sn, body := .flit l, line := ln } :: s1.out ∧ flitType l = 2 ∧ flitCtrl l = 2) ∧
    (s1.npState p = 1 → n.trainFrom + 280 * tms ≤ s1.clk.now → Completes (.portTrainTimeout t p) s down) ∧
    (s1.npState p = 2 → s1.enoughLanes p = false →
      Completes (.lanesBelowMin t p) s fun s' =>
        s'.npState p = 3 ∧ (s'.np p).recFrom = s1.clk.now ∧ (s'.np p).replay = n.replay ∧ (s'.np p).tx = n.tx ∧
        (∀ o, o ≠ nfB p + 4 → s'.reg o = s1.reg o) ∧ s'.mem = s1.mem) ∧
    (s1.npState p = 3 → n.recFrom + s1.reg 0x540004 * tms ≤ s1.clk.now → Completes (.portGraceExpiry t p) s down) ∧
    ∀ l, flitType l = 2 → flitOk l = true →
      (flitCtrl l = 1 → s1.npState p = 2 →
        Completes (.recoverFlit t p l) s fun s' =>
          s'.npState p = 3 ∧ (s'.np p).recFrom = s1.clk.now ∧ (s'.np p).replay = n.replay ∧
          (∀ o, o ≠ nfB p + 4 → s'.reg o = s1.reg o) ∧ s'.mem = s1.mem) ∧
      (flitCtrl l = 2 → s1.npState p = 3 → s1.enoughLanes p = true →
        Completes (.resumedFlit t p l) s fun s' =>
          s'.npState p = 2 ∧ s'.rf (nfB p + 4) 9 2 = s1.upMask p ∧ (s'.np p).rx = n.rx ∧ s'.mem = s1.mem) ∧
      (flitCtrl l = 3 → s1.npState p = 2 → s1.rf (nfB p + 4) 9 2 ≠ flitMask l →
        Completes (.laneMap t p l) s fun s' =>
          s'.npState p = 2 ∧ s'.rf (nfB p + 4) 9 2 = flitMask l ∧ s'.reg (nfB p + 0x38) = (s1.reg (nfB p + 0x38) + 1) % 2 ^ 32 ∧
          EventPosted s1 s' Code.LANE_REMAP p ∧ MemKeep s1 s')

/-- Flits at a port that is UP: a flit whose CRC is bad is counted and nothing of it is used; a good one frees what it acknowledges
and adds its credit, and a NAK has every unacknowledged flit sent again; a DATA flit with the next SEQ is accepted and the message
it holds is received, and one with another SEQ is not; TIME flits carry the stamps from which the receiver computes delay and
offset (R435 to R437, R449). -/
def Obligations.FlitCommands : Prop :=
  ∀ (t : Tick) (p : Nat) (l : List Byte) (s : State),
    let s1 := s.advanceTo t
    let n := s1.np p
    s1.npOn p = true → s1.npState p = 2 →
    (flitType l = 0 → flitOk l = false →
      Completes (.idleFlitReceive t p l) s fun s' =>
        s'.reg (nfB p + 0x30) = (s1.reg (nfB p + 0x30) + 1) % 2 ^ 32 ∧ (∀ o, o ≠ nfB p + 0x30 → s'.reg o = s1.reg o) ∧
        s'.nen = s1.nen ∧ s'.mem = s1.mem) ∧
    (flitType l = 0 → flitOk l = true → flitNak l = false → n.tx = [] →
      (∀ a f b, flitAckValid l = true → n.replay = a ++ f :: b → (∀ g ∈ a, g.seq ≠ flitAck l) → f.seq = flitAck l →
        Completes (.idleFlitReceive t p l) s fun s' =>
          (s'.np p).replay = b ∧ s'.reg (nfB p + 0xC) = (s1.clk.now - f.sent) / tns % 2 ^ 32 ∧ (s'.np p).rx = n.rx ∧
          (∀ vc, vc < 4 → Sparse.get (fun _ => 0) (s'.np p).credit vc = Sparse.get (fun _ => 0) n.credit vc + flitCredit l vc) ∧
          s'.mem = s1.mem) ∧
      (flitAckValid l = false →
        Completes (.idleFlitReceive t p l) s fun s' =>
          (s'.np p).replay = n.replay ∧ s'.regs = s1.regs ∧ (s'.np p).rx = n.rx ∧
          (∀ vc, vc < 4 → Sparse.get (fun _ => 0) (s'.np p).credit vc = Sparse.get (fun _ => 0) n.credit vc + flitCredit l vc) ∧
          s'.mem = s1.mem)) ∧
    (flitType l = 0 → flitOk l = true → flitNak l = true → flitAckValid l = false → n.tx = [] →
      Completes (.idleFlitReceive t p l) s fun s' =>
        (s'.np p).replay = n.replay ∧ s'.reg (nfB p + 0x34) = (s1.reg (nfB p + 0x34) + n.replay.length) % 2 ^ 32 ∧
        s'.out.length = s1.out.length + n.replay.length ∧ s'.mem = s1.mem) ∧
    (flitType l = 1 → flitOk l = false →
      Completes (.dataFlitReceive t p l) s fun s' =>
        s'.reg (nfB p + 0x30) = (s1.reg (nfB p + 0x30) + 1) % 2 ^ 32 ∧ (s'.np p).rx = n.rx ∧ (s'.np p).rxSeq = n.rxSeq ∧
        (∃ b ln, s'.out = { edge := 8 + p, at_ := s1.sn, body := .flit b, line := ln } :: s1.out ∧ flitType b = 0 ∧ flitNak b = true) ∧
        s'.mem = s1.mem) ∧
    (flitType l = 1 → flitOk l = true → flitSeq l = (n.rxSeq + 1) % 4096 →
      ∀ k, k < 30 → headUnits (flitUnit l 0) = k → flitDir l 0 = 1 → (∀ u, 1 ≤ u → u ≤ k → flitDir l u = 2) →
        (∀ u, k < u → u < 30 → flitDir l u = 0) →
        let m := msgOf (flitUnit l 0) ((List.range k).flatMap fun u => flitUnit l (u + 1))
        Completes (.dataFlitReceive t p l) s fun s' =>
          (s'.np p).rx = n.rx ++ (if m.op ≤ Op.COLL then [m] else []) ∧
          (s'.np p).rxSeq = flitSeq l ∧ (s'.np p).rxAny = true ∧
          s'.reg64 (nfB p + 0x28) = (s1.reg64 (nfB p + 0x28) + 1) % 2 ^ 64 ∧ s'.mem = s1.mem) ∧
    (flitType l = 1 → flitOk l = true → flitSeq l ≠ (n.rxSeq + 1) % 4096 →
      Completes (.dataFlitReceive t p l) s fun s' =>
        (s'.np p).rx = n.rx ∧ (s'.np p).rxSeq = n.rxSeq ∧ s'.mem = s1.mem) ∧
    (s1.rb (nfB p) 1 = true → (n.timeSent = 0 ∨ n.timeSent + s1.rf (nfB p + 0x18) 15 0 * tus ≤ s1.clk.now) →
      Completes (.timeFlitSend t p) s fun s' =>
        (s'.np p).timeSent = s1.clk.now ∧ s'.regs = s1.regs ∧ s'.mem = s1.mem ∧
        ∃ b ln, s'.out = { edge := 8 + p, at_ := s1.sn, body := .flit b, line := ln } :: s1.out ∧ flitType b = 3 ∧
          flitUnit b 2 = stampUnit s1.sn ∧
          (∀ t1 t2, n.peerTime = some (t1, t2) → flitUnit b 0 = stampUnit t1 ∧ flitUnit b 1 = stampUnit t2)) ∧
    (flitType l = 3 → flitOk l = true →
      let t1 : Int := Int.ofNat (unitStamp (flitUnit l 0))
      let t2 : Int := Int.ofNat (unitStamp (flitUnit l 1))
      let t3 : Int := Int.ofNat (unitStamp (flitUnit l 2))
      (t1 ≠ 0 ∨ t2 ≠ 0) → (∀ d, ¬ (s1.rf (domB d) 2 1 = 2 ∧ s1.rf (domB d) 7 3 = p)) →
      Completes (.timeFlitReceive t p l) s fun s' =>
        (s'.np p).peerTime = some (unitStamp (flitUnit l 2), s1.sn) ∧
        s'.reg (nfB p + 0x10) = ofSigned 32 (halfRne (t2 - t1 + (Int.ofNat s1.sn - t3))) % 2 ^ 32 ∧ s'.clk = s1.clk ∧
        s'.mem = s1.mem) ∧
    (flitType l = 3 → flitOk l = false →
      Completes (.timeFlitReceive t p l) s fun s' =>
        s'.reg (nfB p + 0x30) = (s1.reg (nfB p + 0x30) + 1) % 2 ^ 32 ∧ s'.reg (nfB p + 0x40) = (s1.reg (nfB p + 0x40) + 1) % 2 ^ 32 ∧
        s'.nen = s1.nen ∧ s'.mem = s1.mem)

/-- Messages: each is forwarded by the route table of its source, and one without a route is dropped or answered NO_ROUTE; at this
chip a READ or WRITE becomes a request, an answer ends the request it names and reaches its master, a PROBE is answered READY, a
collective message is kept and acknowledged, RECOVERING holds the request and marks the destination, and READY frees it; while
LOCAL_RECOVERING is set every request is answered RECOVERING (R438 to R445, R450, R451). -/
def Obligations.MessageCommands : Prop :=
  ∀ (t : Tick) (src : Nat) (m : Msg) (s s2 : State),
    let s1 := s.advanceTo t
    s1.nenTake src = some (m, s2) →
    let here : Prop := 21 ≤ src ∨ s2.routeOf src m = .here
    let own (op : Nat) : Msg := { m with op := op, data := [], vc := 2, timed := false, mirror := false }
    (∀ r ∈ messageOps, m.op = r.2 → src < 21 →
      (∀ p vc, s2.routeOf src m = .port p vc →
        Completes (r.1 t src) s fun s' => Passes s2 s' p { m with vc := vc } ∧ s'.mem = s1.mem) ∧
      (s2.routeOf src m = .none → m.isReq = false →
        Completes (r.1 t src) s fun s' =>
          s'.reg 0x540024 = (s1.reg 0x540024 + 1) % 2 ^ 32 ∧ s'.nen = s2.nen ∧ s'.mem = s1.mem) ∧
      (s2.routeOf src m = .none → m.isReq = true → m.src = s1.chip →
        Completes (r.1 t src) s fun s' =>
          s'.reg 0x540020 = (s1.reg 0x540020 + 1) % 2 ^ 32 ∧ s'.nen.self = s2.nen.self ++ [own 6] ∧ s'.mem = s1.mem)) ∧
    (here → s1.rb 0x540000 1 = true → ∀ r ∈ messageOps, m.op = r.2 → m.isReq = true →
      (m.src = s1.chip → Completes (r.1 t src) s fun s' => s'.nen.self = s2.nen.self ++ [own 7] ∧ s'.mem = s1.mem) ∧
      (∀ p vc, m.src ≠ s1.chip → s2.routeOf 20 (own 7) = .port p vc →
        Completes (r.1 t src) s fun s' => Passes s2 s' p { own 7 with vc := vc } ∧ s'.mem = s1.mem)) ∧
    (here → s1.rb 0x540000 1 = false →
      (m.op = 0 → Completes (.readMsg t src) s fun s' =>
        s'.nen = s2.nen ∧ s'.mem.bytes = s1.mem.bytes ∧
        s'.mem.inflight = s1.mem.inflight ++
          [{ id := s1.mem.nextId, issuer := .peer src m, addr := s1.global m.addr, write := false, len := 16 * (m.tag / 4096 + 1)
             bind := m.bind, epoch := m.epoch, timed := m.timed }]) ∧
      (m.op = 1 → Completes (.writeMsg t src) s fun s' =>
        s'.nen = s2.nen ∧ s'.mem.bytes = s1.mem.bytes ∧
        s'.mem.inflight = s1.mem.inflight ++
          [{ id := s1.mem.nextId, issuer := .peer src m, addr := s1.global m.addr, write := true, data := m.data
             bind := m.bind, epoch := m.epoch, timed := m.timed }]) ∧
      (∀ r ∈ answerOps, m.op = r.2.1 →
        (∀ o, s2.nen.outst.find? (fun o => o.tag == m.tag) = some o → o.msg.op ≠ 8 →
          ((∃ a b c d, o.req.issuer = .cell a b c d) ∨ o.req.issuer = .debug) →
          Completes (r.1 t src) s fun s' =>
            s'.nen.outst = s2.nen.outst.filter (fun x => x.tag != m.tag) ∧ s'.mem.bytes = s1.mem.bytes ∧
            s'.mem.answers = s1.mem.answers ++
              [{ req := o.req, code := r.2.2, data := (m.data.drop (o.req.addr % 16)).take o.req.len }]) ∧
        (s2.nen.outst.find? (fun o => o.tag == m.tag) = none → Completes (r.1 t src) s fun s' => s' = s2)) ∧
      (∀ o, m.op = 7 → s2.nen.outst.find? (fun o => o.tag == m.tag) = some o → o.msg.op ≠ 8 → s1.destSt o.msg.dest = 0 →
        Completes (.recoveringAns t src) s fun s' =>
          s'.destSt o.msg.dest = 1 ∧ s'.reg 0x540014 = (s1.reg 0x540014 + 1) % 2 ^ 32 ∧
          EventPosted s1 s' Code.PEER_RECOVERING (o.msg.dest % 4096) ∧
          Sparse.get (fun _ => none) s'.nen.dests (o.msg.dest % 4096) = some { from_ := s1.clk.now, probed := s1.clk.now } ∧
          s'.nen.outst = s2.nen.outst.map (fun x => if x.tag = m.tag then { x with held := true } else x) ∧ MemKeep s1 s') ∧
      (m.op = 8 → s1.rv.takeover = false →
        (m.src = s1.chip → Completes (.probeMsg t src) s fun s' => s'.nen.self = s2.nen.self ++ [own 9] ∧ s'.mem = s1.mem) ∧
        (∀ p vc, m.src ≠ s1.chip → s2.routeOf 20 (own 9) = .port p vc →
          Completes (.probeMsg t src) s fun s' => Passes s2 s' p { own 9 with vc := vc } ∧ s'.mem = s1.mem)) ∧
      (∀ r, m.op = 9 →
        let d := m.addr / 2 ^ 48 % 4096
        Sparse.get (fun _ => none) s2.nen.dests d = some r → s1.destSt d = 1 →
        Completes (.readyMsg t src) s fun s' =>
          s'.destSt d = 0 ∧ Sparse.get (fun _ => none) s'.nen.dests d = none ∧
          s'.reg64 0x540018 = (s1.reg64 0x540018 + nsBetween r.from_ s1.clk.now) % 2 ^ 64 ∧
          EventPosted s1 s' Code.PEER_RESUMED d ∧
          (s1.rb 0x540000 0 = false → ∀ o ∈ s'.nen.outst, o.msg.dest % 4096 = d → o.held = false) ∧ MemKeep s1 s') ∧
      (m.op = 10 → m.src = s1.chip →
        let off := m.addr % 2 ^ 48
        let b := leAt m.data 0 8
        let pos := leAt m.data 8 2
        s1.staleAt off m.bind m.epoch = false → (s1.target off).noRead = false → leAt m.data 10 4 = 0 →
        partFind s1.eng.parts off b pos = none → s1.collPast off b = false →
        (∀ n, 52 ≤ n → n < 56 → (s1.cx n).phase ≠ .reading) →
        Completes (.collMsg t src) s fun s' =>
          s'.eng.parts = s1.eng.parts ++ [{ buf := off, step := b, pos := pos, data := m.data.drop 16, at_ := s1.clk.now }] ∧
          s'.nen.self = s2.nen.self ++ [own 3] ∧ MemKeep s1 s'))

/-- Destinations: a RECOVERING one is probed, and after its grace it is LOST, its held requests end, and the regions mirrored there
are DEGRADED; a written 0 makes a LOST one READY again; INJECT_HOLD and LOCAL_RECOVERING take their values, and the end of the hold
sends the held requests to READY destinations (R245, R447, R450, R451, R453, R455). -/
def Obligations.DestinationCommands : Prop :=
  ∀ (t : Tick) (d : Nat) (s : State),
    let s1 := s.advanceTo t
    d < 4096 →
    (∀ r, Sparse.get (fun _ => none) s1.nen.dests d = some r → s1.destSt d = 1 →
      (s1.canSend = true → r.probed + s1.reg 0x540008 * tus ≤ s1.clk.now →
        Completes (.probeSend t d) s fun s' =>
          Sparse.get (fun _ => none) s'.nen.dests d = some { r with probed := s1.clk.now } ∧ s'.regs = s1.regs ∧ s'.mem = s1.mem ∧
          ∃ o, s'.nen.outst = s1.nen.outst ++ [o] ∧ s'.nen.own = s1.nen.own ++ [o.msg] ∧ o.held = false ∧ o.msg.op = 8 ∧
            o.msg.dest % 4096 = d ∧ o.msg.src = s1.chip) ∧
      (r.from_ + s1.grace ≤ s1.clk.now →
        Completes (.destGraceExpiry t d) s fun s' =>
          s'.destSt d = 2 ∧ Sparse.get (fun _ => none) s'.nen.dests d = none ∧
          s'.reg 0x540028 = (s1.reg 0x540028 + 1) % 2 ^ 32 ∧
          s'.nen.outst = s1.nen.outst.filter (fun o => !(o.held && o.msg.dest % 4096 == d)) ∧
          (∀ n, n < 64 → s1.rb (rgB n + 0x10) 0 = true → s1.rf (rgB n + 0x10) 2 1 = 1 → s1.reg64 (rgB n) < 0x2000000000 →
            s1.rf (rgB n + 0x18) 11 0 = d → s'.rb (rgB n + 0x1C) 0 = true) ∧ MemKeep s1 s')) ∧
    (s1.destSt d = 2 →
      Completes (.nfDestWrite t d 0) s fun s' =>
        s'.destSt d = 0 ∧ (∀ o, o ≠ destR d → s'.reg o = s1.reg o) ∧ s'.nen = s1.nen ∧ s'.mem = s1.mem) ∧
    (s1.destSt d ≠ 2 → Completes (.nfDestWrite t d 0) s fun s' => s' = s1) ∧
    Completes (.injectHold t true) s (fun s' =>
      s'.rb 0x540000 0 = true ∧ s'.rb 0x540000 1 = s1.rb 0x540000 1 ∧ s'.nen = s1.nen ∧
      (∀ o, o ≠ 0x540000 → s'.reg o = s1.reg o) ∧ s'.mem = s1.mem) ∧
    Completes (.injectHold t false) s (fun s' =>
      s'.rb 0x540000 0 = false ∧ (∀ o ∈ s'.nen.outst, s1.destSt o.msg.dest = 0 → o.held = false) ∧
      s'.nen.outst.length = s1.nen.outst.length ∧ MemKeep s1 s') ∧
    ∀ on, Completes (.localRecovering t on) s fun s' =>
      s'.rb 0x540000 1 = on ∧ s'.rb 0x540000 0 = s1.rb 0x540000 0 ∧ s'.nen = s1.nen ∧
      (∀ o, o ≠ 0x540000 → s'.reg o = s1.reg o) ∧ s'.mem = s1.mem

/-! ### Memory and remote access -/

/-- A memory request at its target: a stale epoch is counted and answered EPOCH_MISMATCH, an unmapped address is counted and
answered UNMAPPED; a read answers the bytes there and changes none; a write stores its bytes and is answered, and in a MIRRORED
region its duplicate sets out to the buddy first; a DRAM access in a refresh window waits and is counted once in each stack it
touches; a request to another chip goes into the outstanding store; a host's access to BAR4 is performed at the DRAM it maps, and
one beyond it is unmapped (R71, R226, R227, R231, R237, R239, R240, R242, R244, R439, R526). -/
def Obligations.MemoryRequests : Prop :=
  (∀ (t : Tick) (id : Nat) (r : MemReq) (s : State),
    let s1 := s.advanceTo t
    let off := r.addr % 2 ^ 48
    let rest := s1.mem.inflight.filter fun e => e.id != id
    let asked : Prop := ∃ a b c d, r.issuer = .cell a b c d
    let answered (code : Nat) (l : List Byte) (s' : State) : Prop :=
      ∃ x, s'.mem.answers = s1.mem.answers ++ [x] ∧ x.req = r ∧ x.code = code ∧ x.data = l
    s1.mem.inflight.find? (fun e => e.id == id) = some r → asked →
    (s1.mayPerform r = false → Completes (.memoryRequestPerform t (.waiting id)) s fun s' => s' = s1) ∧
    (s1.mayPerform r = true → s1.isLocal r.addr = true → r.coll = false → r.enable = none →
      ((∀ k, s1.target off ≠ .dram k) ∨ s1.inRefresh = false) → s1.mem.justNow = [] →
      (s1.staleAt off r.bind r.epoch = true →
        Completes (.memoryRequestPerform t (.waiting id)) s fun s' =>
          answered Code.EPOCH_MISMATCH [] s' ∧ s'.mem.inflight = rest ∧ s'.mem.bytes = s1.mem.bytes ∧
          s'.reg 0x6E0008 = (s1.reg 0x6E0008 + 1) % 2 ^ 32 ∧ ∀ o, o ≠ 0x6E0008 → s'.reg o = s1.reg o) ∧
      (s1.staleAt off r.bind r.epoch = false → s1.target off = .unmapped →
        Completes (.memoryRequestPerform t (.waiting id)) s fun s' =>
          (∃ l, answered Code.UNMAPPED l s') ∧ s'.mem.inflight = rest ∧ s'.mem.bytes = s1.mem.bytes ∧
          s'.reg 0x6E0004 = (s1.reg 0x6E0004 + 1) % 2 ^ 32 ∧ ∀ o, o ≠ 0x6E0004 → s'.reg o = s1.reg o) ∧
      (s1.staleAt off r.bind r.epoch = false → r.write = false → 0 < r.len → s1.plainRange off r.len →
        Completes (.memoryRequestPerform t (.waiting id)) s fun s' => answered 0 (s1.bytesAt off r.len) s' ∧ MemKeep s1 s') ∧
      (s1.staleAt off r.bind r.epoch = false → r.write = true → 0 < r.data.length → s1.plainRange off r.data.length →
        (s1.classAt off ≠ 1 ∨ s1.buddyOf off = none →
          Completes (.memoryRequestPerform t (.waiting id)) s fun s' => answered 0 [] s' ∧ StoredAt s1 s' off r.data) ∧
        (∀ b, s1.classAt off = 1 → s1.buddyOf off = some b → off % 16 = 0 → r.data.length % 16 = 0 →
          off % 256 + r.data.length ≤ 256 →
          Completes (.memoryRequestPerform t (.waiting id)) s fun s' =>
            StoredAt s1 s' off r.data ∧ s'.mem.answers = s1.mem.answers ∧
            ∃ x ∈ s'.mem.inflight, x.issuer = .mirror r.issuer r.id ∧ x.addr = b * 2 ^ 48 + off ∧ x.write = true ∧ x.data = r.data))) ∧
    (∀ k, s1.mayPerform r = true → s1.isLocal r.addr = true → s1.target off = .dram k → s1.inRefresh = true → r.waited = false →
      Completes (.memoryRequestPerform t (.waiting id)) s fun s' =>
        (∀ j, j < 16 → s'.reg (dmB j + 0x20) =
          if j ∈ s1.stacksOf off (max 1 (if r.write then r.data.length else r.len)) then (s1.reg (dmB j + 0x20) + 1) % 2 ^ 32
          else s1.reg (dmB j + 0x20)) ∧
        s'.mem.inflight.find? (fun e => e.id == id) = some { r with waited := true } ∧ s'.mem.answers = s1.mem.answers ∧
        s'.mem.bytes = s1.mem.bytes) ∧
    (s1.mayPerform r = true → s1.isLocal r.addr = false → s1.inReplay r.bind = false → s1.canSend = true → r.enable = none →
      r.coll = false → r.addr % 16 = 0 → r.data.length % 16 = 0 → s1.destSt (r.addr / 2 ^ 48 % 65536) = 0 →
      Completes (.memoryRequestPerform t (.waiting id)) s fun s' =>
        s'.mem.inflight = rest ∧ s'.mem.bytes = s1.mem.bytes ∧ s'.regs = s1.regs ∧
        ∃ o, s'.nen.outst = s1.nen.outst ++ [o] ∧ s'.nen.own = s1.nen.own ++ [o.msg] ∧ o.req = r ∧ o.held = false ∧
          o.msg.addr = r.addr ∧ o.msg.op = (if r.write then 1 else 0) ∧ o.msg.data = r.data ∧ o.msg.bind = r.bind ∧
          o.msg.epoch = r.epoch ∧ o.msg.src = s1.chip)) ∧
  ∀ (t : Tick) (off : Nat) (s : State),
    let s1 := s.advanceTo t
    let a := (s1.reg64 0x80008 + off) % 2 ^ 48
    let mapped (n : Nat) : Prop := (∃ k, s1.target a = .dram k) ∧ (∃ k, s1.target (a + n - 1) = .dram k) ∧ s1.plainRange a n
    s1.rb 0x80000 0 = true → s1.domOn 28 = true → s1.mem.inflight = [] → s1.nen.outst = [] →
    (∀ len, 0 < len → mapped len → s1.inRefresh = false →
      Completes (.memoryRequestPerform t (.barRead off len)) s fun s' => s'.bus = ofLe (s1.bytesAt a len) ∧ MemKeep s1 s') ∧
    (∀ data, 0 < data.length → mapped data.length → s1.inRefresh = false → s1.classAt a ≠ 1 →
      Completes (.memoryRequestPerform t (.barWrite off data)) s (StoredAt s1 · a data)) ∧
    ((∀ k, s1.target a ≠ .dram k) → ∀ (len : Nat) (data : List Byte) (r : ReqOf), r = .barRead off len ∨ r = .barWrite off data →
      Completes (.memoryRequestPerform t r) s fun s' =>
        s'.reg 0x6E0004 = (s1.reg 0x6E0004 + 1) % 2 ^ 32 ∧ FaultRecorded s1 s' (fun f => f.code = Code.ADDR_RANGE ∧ f.origin = 3) ∧
        MemKeep s1 s')

/-- Patrol scrub corrects a single-bit error and counts it, and counts and reports a double-bit error; a temperature sample is
shown by stack, asks for the short refresh interval above 85 °C, reports a stack that reaches 95 °C, and trips the part at 100 °C;
a remote access request is counted, one that breaks a rule is answered with STATUS 2, and a read of this chip with its data (R72,
R235, R236, R544, R555). -/
def Obligations.StackAndRemoteCommands : Prop :=
  ∀ (t : Tick) (s : State),
    let s1 := s.advanceTo t
    (∀ k a, s1.rb (dmB k + 0x18) 0 = true → s1.inRefresh = false → k < 16 → s1.target (a / 8 * 8) = .dram k →
      let d := s1.eccAt (a / 8 * 8)
      (d = none → Completes (.patrolScrub t k a) s fun s' => s' = s1) ∧
      (d = some false → Completes (.patrolScrub t k a) s fun s' =>
        s'.eccAt (a / 8 * 8) = none ∧ s'.reg (dmB k + 8) = (s1.reg (dmB k + 8) + 1) % 2 ^ 32 ∧
        (∀ o, o ≠ dmB k + 8 → s'.reg o = s1.reg o) ∧ s'.mem.bytes = s1.mem.bytes) ∧
      (d = some true → Completes (.patrolScrub t k a) s fun s' =>
        s'.eccAt (a / 8 * 8) = some true ∧ s'.reg (dmB k + 0xC) = (s1.reg (dmB k + 0xC) + 1) % 2 ^ 32 ∧
        s'.reg64 (dmB k + 0x10) = a / 8 * 8 % 2 ^ 64 ∧ EventPosted s1 s' Code.DRAM_UE k ∧ MemKeep s1 s')) ∧
    (∀ (temps : List Nat) (t0 : Tick), s1.pwr.tempFrom = some t0 → s1.inReset = false → t0 + s1.pwr.tempCnt * tms ≤ s1.clk.now →
      ((∀ (k v : Nat), temps[k]? = some v → v < 95) →
        Completes (.dramTempSample t temps) s fun s' =>
          (∀ (k v : Nat), k < 16 → temps[k]? = some v → s1.stackOn k = true →
            s'.rf (dmB k + 4) 7 0 = v ∧ s'.rb (dmB k) 2 = decide (85 < v) ∧ s'.rb (dmB k) 3 = false) ∧
          (s1.rb 0x20100 0 = false → s1.clk.refNew = none → (∃ k v : Nat, temps[k]? = some v ∧ s1.stackOn k = true ∧ 85 < v) →
            s'.clk.refNew = some (true, s1.sn)) ∧
          s'.pwr.tempCnt = (s1.clk.now - t0) / tms + 1 ∧ s'.pin = s1.pin ∧ s'.mem = s1.mem) ∧
      (∀ k v : Nat, k < 16 → temps[k]? = some v → 95 ≤ v → v < 100 → s1.stackOn k = true → s1.rb (dmB k) 3 = false →
        (∀ j u : Nat, j ≠ k → temps[j]? = some u → u < 95) →
        Completes (.dramTempSample t temps) s fun s' =>
          s'.rf (dmB k + 4) 7 0 = v ∧ s'.rb (dmB k) 3 = true ∧ EventPosted s1 s' Code.DRAM_OVERTEMP k ∧ s'.pin = s1.pin ∧
          MemKeep s1 s') ∧
      ((∃ k v : Nat, temps[k]? = some v ∧ s1.stackOn k = true ∧ 100 ≤ v % 256) →
        Completes (.dramTempSample t temps) s fun s' =>
          s'.pin.thermtrip = true ∧ s'.pin.heldReset = true ∧ s'.bootPhase = 0 ∧
          s'.reg 0x74 = if s1.pwr.causeAt = some s1.clk.now then Nat.lor (s1.reg 0x74) 8 else 8)) ∧
    ∀ l, s1.rb 0x80030 0 = true → s1.rb 0x80030 4 = true → s1.domOn 29 = true → s1.rb 0x180000 0 = true → 16 ≤ l.length →
      let n := leAt l 2 2
      let a := leAt l 8 8
      let q (op status : Nat) : RaReq := { op := op, tag := leAt l 4 4, len := n, addr := a, status := status, parts := [] }
      s1.host.ra = [] →
      (∀ op, op = 1 ∨ op = 2 → byteAt l 0 = op → (n % 16 ≠ 0 ∨ n < 16 ∨ 1024 < n ∨ a % 16 ≠ 0) →
        Completes (.raRequest t l) s fun s' =>
          s'.host.raAns = raAnswer (q op 2) [] :: s1.host.raAns ∧ s'.host.ra = [] ∧
          s'.reg 0x80034 = (s1.reg 0x80034 + 1) % 2 ^ 32 ∧ (∀ o, o ≠ 0x80034 → s'.reg o = s1.reg o) ∧ s'.mem = s1.mem) ∧
      (byteAt l 0 = 1 → n = 16 → a % 16 = 0 → s1.isLocal a = true → s1.target (a % 2 ^ 48) = .store →
        s1.staleAt (a % 2 ^ 48) 0 0 = false → s1.mem.inflight = [] → s1.nen.outst = [] → s1.mem.justNow = [] →
        Completes (.raRequest t l) s fun s' =>
          s'.host.raAns = raAnswer (q 1 0) (s1.bytesAt (a % 2 ^ 48) 16) :: s1.host.raAns ∧ s'.host.ra = [] ∧
          s'.reg 0x80034 = (s1.reg 0x80034 + 1) % 2 ^ 32 ∧ MemKeep s1 s')

/-! ### Ethernet and the slow-control port -/

/-- A port and its link: EN sets the rate in force and switches its lanes on, and off with the link; auto-negotiation starts anew; the
link comes up with the agreed wake times, and down with every held frame discarded; verification ends well or badly; the
transmitter enters low-power idle and wakes in time, and the partner's idle is shown; an AUTO_RATE interval steps the rate down or
up (R378 to R381, R391, R393, R398, R399, R403, R405). -/
def Obligations.EthernetPortCommands : Prop :=
  ∀ (t : Tick) (n : Nat) (s : State),
    let s1 := s.advanceTo t
    let b := emB n
    let p := s1.ep n
    let rate := s1.rf (b + 8) 2 0
    s1.epThere n = true →
    (s1.rb b 0 = false → (rate ≤ 3 ∨ (rate = 4 ∧ n % 2 = 0 ∧ s1.rb (emB (n + 1)) 0 = false)) →
      Completes (.emEnable t n true) s fun s' =>
        s'.rb b 0 = true ∧ s'.epRate n = rate ∧ (∀ l ∈ epLanes n rate, s'.rb (lnB l) 0 = true) ∧ s'.mem = s1.mem) ∧
    (s1.rb b 0 = false → (4 < rate ∨ (rate = 4 ∧ n % 2 = 1)) → Completes (.emEnable t n true) s fun s' => s' = s1) ∧
    Completes (.emEnable t n false) s (fun s' =>
      s'.rb b 0 = false ∧ s'.linkOn n = false ∧ s'.epRate n = 0 ∧
      (s1.rb b 0 = true → ∀ l ∈ epLanes n (s1.epRate n), s'.rb (lnB l) 0 = false ∧ s'.laneSt l = 0) ∧ MemKeep s1 s') ∧
    (s1.rb b 0 = true → s1.rb (b + 8) 3 = false →
      Completes (.restartAn t n) s fun s' => s'.linkOn n = false ∧ s'.rb (b + 4) 2 = false ∧ s'.rb b 0 = true ∧ MemKeep s1 s') ∧
    (∀ twTx twRx, s1.rb b 0 = true → s1.linkOn n = false →
      Completes (.linkUp t n twTx twRx) s fun s' =>
        s'.linkOn n = true ∧ s'.rb (b + 4) 2 = !s1.rb (b + 8) 3 ∧
        (s1.rb (b + 8) 4 = true → s1.rb (b + 8) 5 = false → s'.reg (b + 0x2C) = agreedTw twTx + agreedTw twRx * 2 ^ 16) ∧
        (s1.rb (b + 0x10) 0 = true → s1.rb (b + 0x10) 1 = false → s'.rf (b + 0x10) 26 24 = 1) ∧
        (∀ o, o ≠ b + 4 → o ≠ b + 0x10 → o ≠ b + 0x2C → s'.reg o = s1.reg o) ∧ s'.mem = s1.mem) ∧
    (s1.linkOn n = true →
      Completes (.linkDown t n) s fun s' =>
        s'.linkOn n = false ∧ s'.rb (b + 4) 2 = false ∧ s'.rf (b + 0x10) 26 24 = 0 ∧ (s'.stage n).held = [] ∧
        s'.reg64 (b + 0x188) = min (2 ^ 64 - 1) (s1.reg64 (b + 0x188) + (s1.stage n).held.length) ∧ (s'.ep n).pause = [] ∧
        MemKeep s1 s') ∧
    (∀ ok, s1.rf (b + 0x10) 26 24 = 1 →
      Completes (.preemptVerify t n ok) s fun s' =>
        s'.rf (b + 0x10) 26 24 = (if ok then 2 else 3) ∧ (∀ o, o ≠ b + 0x10 → s'.reg o = s1.reg o) ∧ s'.mem = s1.mem) ∧
    (s1.linkOn n = true → s1.rb (b + 8) 4 = true → s1.rb (b + 8) 5 = false → s1.rb (b + 4) 3 = false →
      (s1.stage n).held = [] → (s1.stage n).wait = [] → max (s1.lineIdle n) p.wakeAt + s1.rf (b + 0x28) 15 0 * tus ≤ s1.sn →
      Completes (.lpiEnter t n) s fun s' =>
        s'.rb (b + 4) 3 = true ∧ (s'.ep n).lpiTx = some s1.clk.now ∧ (∀ o, o ≠ b + 4 → s'.reg o = s1.reg o) ∧ s'.mem = s1.mem) ∧
    (∀ h, s1.rb (b + 4) 3 = true → (s1.stage n).held = [h] → h.launch = none → h.entered ≤ s1.sn →
      Completes (.lpiWake t n) s fun s' =>
        s'.rb (b + 4) 3 = false ∧ (s'.ep n).wakeAt = h.entered + s1.rf (b + 0x2C) 15 0 * tns ∧ (s'.ep n).lpiTx = none ∧
        (∀ o, o ≠ b + 4 → o ≠ b + 0x1A0 → o ≠ b + 0x1A4 → s'.reg o = s1.reg o) ∧ s'.stages = s1.stages ∧ s'.mem = s1.mem) ∧
    (∀ idle, s1.linkOn n = true → s1.rb (b + 4) 4 = !idle →
      Completes (.partnerLowPowerIdle t n idle) s fun s' =>
        s'.rb (b + 4) 4 = idle ∧ (idle = true → (s'.ep n).lpiRx = some s1.clk.now) ∧ (idle = false → (s'.ep n).lpiRx = none) ∧
        (∀ o, o ≠ b + 4 → o ≠ b + 0x1A8 → o ≠ b + 0x1AC → s'.reg o = s1.reg o) ∧ s'.mem = s1.mem) ∧
    ∀ tx rx,
      let u := max tx rx
      let lo := s1.rf (b + 0x30) 6 0
      let hi := s1.rf (b + 0x30) 14 8
      let now := s1.epRate n
      s1.linkOn n = true → s1.rb (b + 8) 5 = true → s1.rb (b + 8) 3 = false →
      p.rateFrom + s1.rf (b + 0x30) 31 16 * tms ≤ s1.clk.now →
      (lo ≤ u → u ≤ hi →
        Completes (.autoRateInterval t n tx rx) s fun s' =>
          s'.epRate n = now ∧ (s'.ep n).rateFrom = s1.clk.now ∧ s'.regs = s1.regs ∧ s'.mem = s1.mem) ∧
      (u < lo → 0 < now →
        Completes (.autoRateInterval t n tx rx) s fun s' =>
          s'.epRate n = now - 1 ∧ s'.linkOn n = false ∧ (s'.ep n).rateFrom = s1.clk.now ∧
          s'.reg64 (b + 0x1C0) = min (2 ^ 64 - 1) (s1.reg64 (b + 0x1C0) + 1) ∧ MemKeep s1 s') ∧
      (lo ≤ u → hi < u → now < rate →
        Completes (.autoRateInterval t n tx rx) s fun s' =>
          s'.epRate n = now + 1 ∧ s'.linkOn n = false ∧ (s'.ep n).rateFrom = s1.clk.now ∧
          s'.reg64 (b + 0x1C0) = min (2 ^ 64 - 1) (s1.reg64 (b + 0x1C0) + 1) ∧ MemKeep s1 s')

/-- Frames at a port and at SC0: a frame is counted by its verdict, and a good one goes to the host path with its stamp and priority;
a PFC frame pauses and resumes priorities, and a pause ends; a received frame is written to its ring's buffer; PFC frames are held for
the line as the owned counts fall, and again at half the pause time; SC0 counts what it receives, sends its frames in order, retries after
a collision and drops a late one; an MDIO access completes (R382 to R388, R392, R401, R406, R532, R535). -/
def Obligations.EthernetFrameCommands : Prop :=
  ∀ (t : Tick) (s : State),
    let s1 := s.advanceTo t
    let sat (o k : Nat) (s' : State) : Prop := s'.reg64 o = min (2 ^ 64 - 1) (s1.reg64 o + k)
    (∀ n, s1.epThere n = true → s1.linkOn n = true →
      let b := emB n
      let p := s1.ep n
      (∀ first l later assyAt, s1.rb b 0 = true → s1.claimedFrame n first = none →
        let a : Arrival := { first := first, later := later }
        let v := verdictOf (s1.rf (b + 0xC) 13 0) (Option.isSome assyAt) l
        (v ≠ .good →
          Completes (.frameReceive t n first l later assyAt) s fun s' =>
            sat (verdictReg n v) 1 s' ∧ sat (b + 0x150) (if later = [] then 0 else later.length + 1) s' ∧ s'.eth = s1.eth ∧
            s'.mem = s1.mem) ∧
        (let prio := framePrio l (s1.rf (b + 8) 10 8)
         v = .good → be16 l 12 ≠ 0x8808 → s1.forService false n l = false → (s1.rxRing n prio).isSome = true →
          (p.rx.map fun f => f.bytes.length).sum + l.length ≤ 65536 →
          Completes (.frameReceive t n first l later assyAt) s fun s' =>
            sat (b + 0x100) 1 s' ∧ sat (b + 0x108) l.length s' ∧ s'.mem = s1.mem ∧
            ∃ f, (s'.ep n).rx = p.rx ++ [f] ∧ f.bytes = l ∧ f.prio = prio ∧ f.stamp = s1.byteStamp n a 0)) ∧
      (∀ q quanta, q < 8 → s1.rb (b + 0x14) q = true →
        Completes (.pfcFrameReceive t n [(q, quanta)]) s fun s' =>
          Sparse.get (fun _ => 0) (s'.ep n).pause q =
            (if quanta = 0 then 0 else s1.sn + quanta * 64 * byteTime (s1.epRate n) / 25) ∧
          (∀ x, x ≠ q → Sparse.get (fun _ => 0) (s'.ep n).pause x = Sparse.get (fun _ => 0) p.pause x) ∧
          sat (b + 0x100) 1 s' ∧ sat (b + 0x108) 64 s' ∧ sat (b + 0x148) 1 s' ∧ s'.mem = s1.mem) ∧
      (∀ q c, q < 8 → s1.pfcCount n q = some c →
        let quanta := s1.rf (b + 0x14) 31 16
        let sent (s' : State) : Prop :=
          (∃ h l, (s'.stage n).held = (s1.stage n).held ++ [h] ∧ (s'.stage n).wait = (s1.stage n).wait ∧
            (s'.stage n).next = (s1.stage n).next + 1 ∧ h.entry = (s1.stage n).next ∧ h.ctl = true ∧ h.launch = none ∧
            h.complete = s1.snUp ∧ h.entered = s1.snUp ∧ h.body = .frame l true false false ∧ l.length = 64 ∧
            be16 l 12 = 0x8808 ∧ be16 l 14 = 0x0101 ∧ be16 l (18 + 2 * q) = quanta) ∧
          (q, s1.sn) ∈ (s'.ep n).xoff ∧ s'.free = s1.free + 1 ∧ s'.regs = s1.regs ∧ s'.mem = s1.mem
        (c < s1.rf (b + 0x18) 15 0 → (∀ x ∈ p.xoff, x.1 ≠ q) → Completes (.pfcFrameSend t n) s sent) ∧
        (∀ x, c < s1.rf (b + 0x18) 31 16 → (q, x) ∈ p.xoff → x + quanta * 64 * byteTime (s1.epRate n) / 50 ≤ s1.sn →
          Completes (.pfcRepeat t n) s sent))) ∧
    (∀ n q, Sparse.get (fun _ => 0) (s1.ep n).pause q ≤ s1.sn →
      Completes (.pfcPauseExpiry t n q) s fun s' =>
        Sparse.get (fun _ => 0) (s'.ep n).pause q = 0 ∧ s'.regs = s1.regs ∧ s'.mem = s1.mem) ∧
    (∀ n f rest, (s1.ep n).rx = f :: rest →
      (s1.rxRing n f.prio = none →
        Completes (.hostPathFrameWrite t n) s fun s' => (s'.ep n).rx = rest ∧ sat (emB n + 0x138) 1 s' ∧ s'.mem = s1.mem) ∧
      ∀ r d ds, s1.rxRing n f.prio = some r → s1.ringOn r = true → s1.ringRecv r = true → (s1.ring r).descs = d :: ds →
        (s1.rf (ringB r + 0x18) 19 16 = 0 ∨ s1.rf (ringB r + 0x18) 19 16 = n + 1) → n < 8 →
        let l := if s1.rb (emB n + 8) 7 then f.bytes.take (f.bytes.length - 4) else f.bytes
        let a := leAt d 0 8
        0 < l.length → l.length ≤ leAt d 8 4 → s1.isLocal a = true → a % 4096 + l.length ≤ 4096 →
        Completes (.hostPathFrameWrite t n) s fun s' =>
          (s'.ep n).rx = rest ∧ (s'.ring r).descs = ds ∧ s'.rf (ringB r + 0x18) 19 16 = n + 1 ∧
          s'.rf (ringB r + 0xC) 15 0 = (s1.rf (ringB r + 0xC) 15 0 + 1) % s1.ringSize r ∧
          (∃ x ∈ s'.mem.inflight, x.issuer = .ring r ∧ x.write = true ∧ x.addr = a ∧ x.data = l) ∧ MemKeep s1 s') ∧
    (s1.domOn 29 = true → s1.rb 0x180000 0 = true →
      (∀ l, verdictOf (s1.rf 0x180004 10 0) false l = .runt →
        Completes (.scFrameReceive t l) s fun s' => sat 0x180108 1 s' ∧ s'.mem = s1.mem) ∧
      (∀ l, verdictOf (s1.rf 0x180004 10 0) false l = .fcs →
        Completes (.scFrameReceive t l) s fun s' => sat 0x180118 1 s' ∧ s'.mem = s1.mem) ∧
      (∀ l, verdictOf (s1.rf 0x180004 10 0) false l = .good → s1.forService true 0 l = false →
        Completes (.scFrameReceive t l) s fun s' =>
          sat 0x180100 1 s' ∧ s'.free = s1.free + 1 ∧ MemKeep s1 s' ∧
          (s1.ringOn (s1.rf 0x180004 17 11) = false → sat 0x180120 1 s')) ∧
      (∀ r i l rest, s1.eth.sc.tx = (r, i, l) :: rest →
        Completes (.scFrameTransmit t) s (fun s' =>
          s'.out = { edge := 256, at_ := s1.sn, body := .frame l true false false } :: s1.out ∧ s'.eth.sc.tx = rest ∧
          s'.eth.sc.tries = 0 ∧ sat 0x180128 1 s' ∧ MemKeep s1 s') ∧
        (∀ sent, sent < 64 → s1.eth.sc.tries < 15 →
          Completes (.scCollision t sent) s fun s' =>
            s'.eth.sc.tx = s1.eth.sc.tx ∧ s'.eth.sc.tries = s1.eth.sc.tries + 1 ∧ sat 0x180130 1 s' ∧ s'.mem = s1.mem) ∧
        (∀ sent, 64 ≤ sent →
          Completes (.scCollision t sent) s fun s' =>
            s'.eth.sc.tx = rest ∧ sat 0x180130 1 s' ∧ sat 0x180140 1 s' ∧ s'.free = s1.free + 1 ∧ MemKeep s1 s'))) ∧
    (s1.domOn 29 = true → ∀ (v : Word) (phy : Nat), v.toNat < 2 ^ 28 →
      (bit v.toNat 27 = true → bit v.toNat 26 = false →
        Completes (.mdioGo t v phy) s fun s' =>
          s'.rf 0x180008 15 0 = phy % 65536 ∧ s'.rb 0x180008 27 = false ∧ s'.rf 0x180008 26 16 = fld v.toNat 26 16 ∧
          (∀ o, o ≠ 0x180008 → s'.reg o = s1.reg o) ∧ s'.mem = s1.mem) ∧
      (bit v.toNat 27 = true → bit v.toNat 26 = true →
        Completes (.mdioGo t v phy) s fun s' => s'.reg 0x180008 = v.toNat % 2 ^ 27 ∧ s'.mem = s1.mem))

/-! ### Host rings and the host link -/

/-- Rings: a poll reads descriptors, and those owned are at hand; a transmit frame is handed to its port in its turn; a record buffer is
returned when COAL has passed, and a ring disabled lets its buffer go and its owner; the holdoff over, one message goes out; a
vector unmasked sends what was pending; the link up and down are shown (R227, R530, R533, R536 to R538, R542, R547). -/
def Obligations.HostRingCommands : Prop :=
  ∀ (t : Tick) (s : State),
    let s1 := s.advanceTo t
    (∀ r, r < 128 → s1.ringOn r = true → (s1.ring r).poll = [] →
      ((s1.ring r).polled = 0 ∨ (s1.ring r).polled + s1.reg (ringB r + 0x10) * tns ≤ s1.clk.now) →
      (∀ (a : Nat), s1.descAddr r 0 = a → s1.isLocal a = true → s1.target (a % 2 ^ 48) = .host →
        s1.target ((a + 32 * s1.ringSize r - 1) % 2 ^ 48) = .host → a % 16 = 0 → s1.staleAt (a % 2 ^ 48) 0 0 = false →
        (∀ x, s1.staleAt x 0 0 = false) → s1.prefetch r = 1 → s1.rf (ringB r + 0xC) 15 0 < s1.ringSize r →
        s1.returning r (s1.rf (ringB r + 0xC) 15 0) = false →
        let d := s1.bytesAt ((a + 32 * s1.rf (ringB r + 0xC) 15 0) % 2 ^ 48) 32
        Completes (.ringPoll t r) s fun s' =>
          (s'.ring r).descs = (if bit (byteAt d 31) 7 then [d] else []) ∧ (s'.ring r).polled = s1.clk.now ∧
          (s'.ring r).poll = [] ∧ s'.regs = s1.regs ∧ s'.mem = s1.mem) ∧
      (s1.isLocal (s1.descAddr r 0) = false → s1.descAddr r 0 % 256 = 0 → s1.prefetch r = 1 →
        s1.rf (ringB r + 0xC) 15 0 < s1.ringSize r →
        Completes (.ringPoll t r) s fun s' =>
          (s'.ring r).poll = [(s1.mem.nextId, none)] ∧ (s'.ring r).descs = (s1.ring r).descs ∧
          s'.mem.inflight = s1.mem.inflight ++
            [{ id := s1.mem.nextId, issuer := .ring r, addr := s1.descAddr r (s1.rf (ringB r + 0xC) 15 0), write := false, len := 32 }] ∧
          s'.regs = s1.regs ∧ s'.mem.bytes = s1.mem.bytes)) ∧
    (∀ r i d l, s1.txNext r = some (i, d) → (s1.ring r).fetch = some (i, d) → (s1.ring r).parts ≠ [] →
      joinParts (s1.ring r).parts = some l → s1.txTurn (descPort d) = some r → descPort d < 8 →
      s1.epThere (descPort d) = true → s1.rb (emB (descPort d)) 0 = true →
      Completes (.transmitFrameEnqueue t r) s fun s' =>
        (s'.ring r).taken = (s1.ring r).taken ++ [(i, d, none)] ∧ (s'.ring r).fetch = none ∧
        (∃ h, (s'.stage (descPort d)).wait = (s1.stage (descPort d)).wait ++ [h] ∧ h.origin = .txRing r i ∧ h.complete = s1.snUp ∧
          h.body = .frame l (bit (leAt d 10 2) 8) (bit (leAt d 10 2) 6) (bit (leAt d 10 2) 7) ∧ h.prio = fld (leAt d 10 2) 11 9 ∧
          h.drop = bit (leAt d 10 2) 5 ∧
          h.launch = if bit (leAt d 10 2) 4 then some (roundUp (s1.nearTime (leAt d 16 8)) grain) else none) ∧
        s'.regs = s1.regs ∧ s'.mem = s1.mem) ∧
    (∀ r, r < 130 →
      (∀ w n st b, (s1.ring r).buf = some (w, n, st, b) → b + s1.rf (ringB r + 0x14) 15 0 * tus ≤ s1.clk.now →
        Completes (.recordBufferCoal t r) s fun s' =>
          (s'.ring r).buf = none ∧ (s'.ring r).descs = (s1.ring r).descs.drop 1 ∧
          s'.rf (ringB r + 0xC) 15 0 = (s1.rf (ringB r + 0xC) 15 0 + 1) % s1.ringSize r ∧
          s'.reg64 (ringB r + 0x20) = (s1.reg64 (ringB r + 0x20) + 1) % 2 ^ 64 ∧ MemKeep s1 s') ∧
      Completes (.ringDisable t r) s (fun s' =>
        s'.ringOn r = false ∧ s'.rf (ringB r + 0x18) 19 16 = 0 ∧ (s'.ring r).buf = none ∧ (s'.ring r).polled = 0 ∧
        (s'.ring r).taken = (s1.ring r).taken ∧ MemKeep s1 s') ∧
      ((s1.ring r).owing = true → (s1.ring r).quiet ≤ s1.clk.now → s1.rb (0x88000 + 16 * (s1.rf (ringB r + 8) 21 16) + 12) 0 = false →
        Completes (.msixHoldoffExpiry t r) s fun s' =>
          (s'.ring r).owing = false ∧ (s'.ring r).quiet = s1.clk.now + s1.rf (ringB r + 0x14) 31 16 * tus ∧
          s'.host.msix = s1.rf (ringB r + 8) 21 16 :: s1.host.msix ∧
          (s'.stage 28).wait.length = (s1.stage 28).wait.length + 1 ∧ s'.regs = s1.regs ∧ s'.mem = s1.mem)) ∧
    (∀ v, v < 64 →
      let e := 0x88000 + 16 * v
      let p := 0x89000 + v / 32 * 4
      (s1.rb p (v % 32) = true →
        Completes (.msixUnmask t v) s fun s' =>
          s'.rb (e + 12) 0 = false ∧ s'.rb p (v % 32) = false ∧ s'.host.msix = v :: s1.host.msix ∧
          (s'.stage 28).wait = (s1.stage 28).wait ++
            [{ launch := none, complete := s1.snUp, body := .store (s1.hostAddr (s1.reg64 e)) (leBytes 4 (s1.reg (e + 8))) }] ∧
          (∀ o, o ≠ e + 12 → o ≠ p → s'.reg o = s1.reg o) ∧ s'.mem = s1.mem) ∧
      (s1.rb p (v % 32) = false →
        Completes (.msixUnmask t v) s fun s' =>
          s'.rb (e + 12) 0 = false ∧ s'.host = s1.host ∧ s'.stages = s1.stages ∧ (∀ o, o ≠ e + 12 → s'.reg o = s1.reg o) ∧
          s'.mem = s1.mem)) ∧
    (s1.domOn 28 = true → ∀ speed lanes,
      Completes (.hostLinkUp t speed lanes) s fun s' =>
        s'.rb 0x80000 0 = true ∧ s'.rf 0x80000 3 1 = speed % 8 ∧ s'.rf 0x80000 8 4 = lanes % 32 ∧
        (∀ o, o ≠ 0x80000 → s'.reg o = s1.reg o) ∧ s'.mem = s1.mem) ∧
    Completes (.hostLinkDown t) s fun s' =>
      s'.reg 0x80000 = 0 ∧ (∀ o, o ≠ 0x80000 → s'.reg o = s1.reg o) ∧ s'.mem = s1.mem

/-! ### The parser and reply composer -/

/-- A walked frame whose walk claims it gets the next claim number and its tokens, or is counted as overrun; a field token due
enters its east-edge slot; a null decision stands for the next frame of its entry, a stale one is counted, a poison one faults and
stands for none, and a data one with SEND queues a reply; a filled reply waits in its port's stage with its launch time; a bad verdict withdraws a held reply and
stomps one on the line (R408 to R417, R420, R421, R425 to R427). -/
def Obligations.ParserCommands : Prop :=
  ∀ (t : Tick) (s : State),
    let s1 := s.advanceTo t
    s1.pa.waiting = [] → 9 ∉ s1.rv.queue →
    (∀ port c (a : Arrival) (bytes : List Byte),
      let l := bytes.take (s1.rf (emB port + 0xC) 13 0)
      let k := s1.pctx c
      let w := s1.walkFrame l k.root
      s1.walker port = some c → s1.domOn 24 = true → s1.epThere port = true → s1.linkOn port = true → l ≠ [] →
      be16 l 12 ≠ 0x8808 → s1.claimedFrame port a.first = none →
      (w.claim = none →
        Completes (.headerWalk t port a bytes) s fun s' =>
          s'.pa = s1.pa ∧ s'.free = s1.free + 16 ∧ s'.regs = s1.regs ∧ s'.mem = s1.mem) ∧
      (w.claim ≠ none → (∀ x ∈ s1.paCircuits c, s1.paRoom x.1 x.2.1 = true) →
        Completes (.headerWalk t port a bytes) s fun s' =>
          (s'.pctx c).claims = k.claims + 1 ∧ s'.reg64 (paCnt c 0) = (s1.reg64 (paCnt c 0) + 1) % 2 ^ 64 ∧
          (∃ f, (s'.pctx c).frames = k.frames ++ [f] ∧ f.num = k.claims ∧ f.run = k.run ∧ f.port = port ∧ f.ref = a.first ∧
            f.stamp = s1.byteStamp port a 0 ∧ f.verdict = none ∧ f.copyHost = k.copyHost ∧
            f.meta_ = metaBytes (s1.byteStamp port a 0) port k.claims) ∧
          (∃ ts, s'.pa.toks = s1.pa.toks ++ ts) ∧ s'.mem = s1.mem) ∧
      (∀ x, w.claim ≠ none → x ∈ s1.paCircuits c → s1.paRoom x.1 x.2.1 = false →
        Completes (.headerWalk t port a bytes) s fun s' =>
          s'.pa = s1.pa ∧ s'.reg64 (paCnt c 1) = (s1.reg64 (paCnt c 1) + 1) % 2 ^ 64 ∧ s'.mem = s1.mem)) ∧
    (∀ row slot x, firstDue row slot s1.pa.toks = some x → x.due ≤ s1.sn →
      let q (y : State) : List Token := Sparse.get (fun _ => []) (y.east row).out slot
      Completes (.fieldTokenSend t row slot) s fun s' =>
        q s' = q s1 ++ [{ kind := x.kind, epoch := s1.clEpoch (s1.physOf row 95)
                          seq := Sparse.get (fun _ => 0) (s1.east row).seq slot, payload := x.payload }] ∧
        s'.pa.toks = s1.pa.toks.erase x ∧ s'.regs = s1.regs ∧ s'.mem = s1.mem) ∧
    (∀ row slot tok rest, (s1.east row).inq = (slot, tok) :: rest →
      let v := s1.reg (paIn row slot)
      let c := fld v 2 1
      let e := fld v 4 3
      let k := s1.pctx c
      let n := Sparse.get (fun _ => 0) k.counts e
      bit v 0 = true →
      (tok.epoch ≠ s1.cxEpoch (60 + c) →
        Completes (.decisionReceive t row) s fun s' =>
          (s'.east row).inq = rest ∧ s'.reg 0x690108 = (s1.reg 0x690108 + 1) % 2 ^ 32 ∧
          (∀ o, o ≠ 0x690108 → s'.reg o = s1.reg o) ∧ s'.pa = s1.pa ∧ s'.mem = s1.mem) ∧
      (tok.epoch = s1.cxEpoch (60 + c) → tok.kind = 4 →
        Completes (.decisionReceive t row) s fun s' =>
          (s'.east row).inq = rest ∧ FaultRecorded s1 s' (fun f => f.code = Code.POISON_EGRESS ∧ f.origin = 2) ∧ s'.pa = s1.pa ∧
          MemKeep s1 s') ∧
      (tok.epoch = s1.cxEpoch (60 + c) → n < k.claims →
        (tok.kind = 2 →
          Completes (.decisionReceive t row) s fun s' =>
            (s'.east row).inq = rest ∧ Sparse.get (fun _ => 0) (s'.pctx c).counts e = n + 1 ∧ s'.pa.fill = s1.pa.fill ∧
            s'.regs = s1.regs ∧ s'.mem = s1.mem) ∧
        (∀ f x stamp, tok.kind = 0 → k.frames.find? (fun f => f.run == k.run && f.num == n) = some f → e ∉ f.decided → f.applied = false →
          let p := tok.payload.toNat
          let cfg := s1.reg (paDec c e)
          bit p 0 = true → bit cfg 0 = true → f.fields.find? (fun y => y.1 == fld cfg 5 1) = some (fld cfg 5 1, stamp, some x) →
          s1.tplValid (fld p 6 1) = true → s1.epThere (fld p 9 7) = true → s1.linkOn (fld p 9 7) = true →
          Completes (.decisionReceive t row) s fun s' =>
            (s'.east row).inq = rest ∧
            (∃ r ∈ s'.pa.replies, r.id = s1.pa.nextReply ∧ r.ctx = c ∧ r.entry = e ∧ r.frame = n ∧ r.run = k.run ∧ r.tpl = fld p 6 1 ∧
              r.port = fld p 9 7 ∧ r.state = .filling ∧
              r.launch = roundUp (stamp + s1.reg (paDec c e + 4) * grain) grain) ∧
            Sparse.get (fun _ => []) s'.pa.fill (fld p 9 7) =
              Sparse.get (fun _ => []) s1.pa.fill (fld p 9 7) ++ [s1.pa.nextReply] ∧ s'.mem = s1.mem))) ∧
    (∀ port id rest r f, Sparse.get (fun _ => []) s1.pa.fill port = id :: rest →
      s1.pa.replies.find? (fun r => r.id == id && r.state == .filling) = some r →
      (s1.pctx r.ctx).frames.find? (r.of r.ctx) = some f → r.ctx < 4 →
      Completes (.replyFillComplete t port) s fun s' =>
        Sparse.get (fun _ => []) s'.pa.fill port = rest ∧
        (∃ h, (s'.stage port).wait = (s1.stage port).wait ++ [h] ∧ h.launch = some r.launch ∧ h.complete = s1.snUp ∧
          h.drop = r.drop ∧ h.origin = .reply id ∧
          h.body = s1.tplFrame r.tpl (s1.compose r.tpl (some (f, r.data)) (some r.launch)).2) ∧
        s'.reg64 (paCnt r.ctx (if r.cancel then 6 else 2)) =
          (s1.reg64 (paCnt r.ctx (if r.cancel then 6 else 2)) + 1) % 2 ^ 64 ∧ s'.mem = s1.mem) ∧
    ∀ port c f r bad st, s1.verdictNext port = some (c, f) → f.verdict = some (bad, st) → c < 4 →
      s1.pa.replies.filter (fun r => r.of c f && !r.cancel) = [r] →
      (r.state = .held →
        Completes (.verdictApply t port) s fun s' =>
          (∀ h ∈ (s'.stage r.port).held ++ (s'.stage r.port).wait, h.origin ≠ .reply r.id) ∧ s'.out = s1.out ∧
          s'.reg64 (paCnt c 3) = (s1.reg64 (paCnt c 3) + 1) % 2 ^ 64 ∧ s'.mem = s1.mem) ∧
      (∀ rel dep, r.state = .gone rel dep → r.port < 8 →
        25 * (st + paDelay + 14 * tns) ≤ 25 * dep + (r.len - 4) * byteTime (s1.epRate r.port) →
        Completes (.verdictApply t port) s fun s' =>
          s'.out = s1.out.map (stompOut r.id) ∧ s'.stages = s1.stages ∧
          s'.reg64 (paCnt c 4) = (s1.reg64 (paCnt c 4) + 1) % 2 ^ 64 ∧
          s'.reg64 (emB r.port + 0x178) = min (2 ^ 64 - 1) (s1.reg64 (emB r.port + 0x178) + 1) ∧ s'.mem = s1.mem)

/-- The parser's instructions: PSTART starts its context anew on ports it owns, with the frames still arriving kept, and faults
otherwise; PSTOP waits while a claimed frame may
still send and ends the context; TLOAD replaces the bytes of a template that no held reply uses; PSEND offers a composed template
to its port (R422, R428, R429). -/
def Obligations.ParserInstructions : Prop :=
  ∀ (t : Tick) (c : Nat) (s : State),
    let s1 := s.advanceTo t
    let n := 60 + c
    let w := s1.cxWord n
    c < 4 → s1.pa.waiting = [] →
    (let owns : Prop := ∀ p, p < 8 → bit (fld w 15 8) p = true → s1.rf 0x690100 (4 * p + 2) (4 * p) = 4 + c
     s1.cxIssues n 0x60 →
      ((s1.pctx c).running = false → owns →
        Completes (.pstart t n) s fun s' =>
          CxBusy s1 s' n ∧ (s'.pctx c).running = true ∧ (s'.pctx c).stopping = false ∧ (s'.pctx c).root = fld w 7 0 ∧
          (s'.pctx c).ports = fld w 15 8 ∧ (s'.pctx c).copyHost = bit w 16 ∧ (s'.pctx c).run = (s1.pctx c).run + 1 ∧
          (s'.pctx c).claims = 0 ∧ (s'.pctx c).counts = [] ∧
          (∀ f ∈ (s1.pctx c).frames, f.verdict = none → f ∈ (s'.pctx c).frames) ∧ (∀ d, d ≠ c → s'.pctx d = s1.pctx d) ∧ s'.regs = s1.regs ∧ s'.mem = s1.mem) ∧
      (s1.cxState n ≠ 5 → ((s1.pctx c).running = true ∨ ¬ owns) →
        Completes (.pstart t n) s fun s' => CxFaulted s1 s' n Code.INVALID_FIELD ∧ s'.pctx c = s1.pctx c)) ∧
    (s1.cxIssues n 0x61 → (s1.pctx c).running = false →
      Completes (.pstop t n) s fun s' => CxBusy s1 s' n ∧ s'.pa = s1.pa ∧ s'.regs = s1.regs ∧ s'.mem = s1.mem) ∧
    (s1.cxIssues n 0x61 → (s1.pctx c).running = true →
      Completes (.pstop t n) s fun s' =>
        (s1.paBusy c = false → CxBusy s1 s' n ∧ (s'.pctx c).running = false) ∧
        (s1.paBusy c = true → (s'.cx n).phase = .reading ∧ (s'.pctx c).running = true ∧ (s'.pctx c).stopping = true) ∧
        s'.regs = s1.regs ∧ s'.mem = s1.mem) ∧
    (let x : Rd × Nat := Rd.num { s := s1.startTimeout n, n := n } (operE w) 16
     let k := fld x.2 69 64
     let y := x.1.bytes (fld x.2 63 0) (s1.rf (paTpl k) 13 0)
     s1.cxIssues n 0x62 → operE w % 16 = 0 → x.1.ok = true → s1.tplValid k = true → s1.tplUsed k = false → y.1.ok = true →
      Completes (.tload t n) s fun s' =>
        CxBusy s1 s' n ∧
        (∀ i, i < s1.rf (paTpl k) 13 0 →
          Sparse.get (fun _ => 0) s'.pa.tmem (s1.rf (paTpl k + 4) 13 0 * 64 + i) = y.2.getD i 0) ∧ MemKeep s1 s') ∧
    (let k := fld w 5 0
     let port := fld w 8 6
     let l := (s1.compose k none none).2
     s1.cxIssues n 0x63 →
      (s1.tplValid k = true →
        Completes (.psend t n) s fun s' =>
          CxBusy s1 s' n ∧
          (∃ h, (s'.stage port).wait = (s1.stage port).wait ++ [h] ∧ h.launch = none ∧ h.complete = s1.snUp ∧
            h.body = s1.tplFrame k l ∧ h.bind = s1.cxBind n ∧ h.origin = .template n k ∧
            h.prio = framePrio l (s1.rf (emB port + 8) 10 8)) ∧
          s'.regs = s1.regs ∧ s'.mem = s1.mem) ∧
      (s1.tplValid k = false → s1.cxState n ≠ 5 →
        Completes (.psend t n) s fun s' => CxFaulted s1 s' n Code.INVALID_FIELD ∧ s'.pa = s1.pa))

/-! ### Start-up, security and the lifetime log -/

/-- Start-up goes from phase to phase: PW29 is on after phase 0, a bad image stops it in phase 7, the identity key is there after phase
2 on a part with a seed that is not zeroised, cells and engines are powered after phase 3, a part that fails its test stops in
phase 6, and READY comes with DET_SIG; FIXED_ONLY is written while nothing is bound; measurements, attestation and the sideband
have their effects; samples are counted, and an aggregation turns to the other copy (R249, R481, R495, R558 to R565, R567, R586,
R590, R608). -/
def Obligations.BootSecurityAndLifetime : Prop :=
  ∀ (t : Tick) (s : State),
    let s1 := s.advanceTo t
    (∀ ok slotB cells chFail, s1.inReset = false → s1.ready = false →
      (s1.bootPhase = 0 →
        Completes (.bootPhaseComplete t ok slotB cells chFail) s fun s' =>
          s'.bootPhase = 1 ∧ s'.domOn 29 = true ∧ s'.mem = s1.mem) ∧
      (s1.bootPhase = 1 → ok = false →
        Completes (.bootPhaseComplete t ok slotB cells chFail) s fun s' =>
          s'.bootPhase = 7 ∧ (∀ o, o ≠ 0x64 → s'.reg o = s1.reg o) ∧ s'.mem = s1.mem) ∧
      (s1.bootPhase = 1 → ok = true → s1.fuse.fwSvn < s1.fuse.svn →
        Completes (.bootPhaseComplete t ok slotB cells chFail) s fun s' => s'.bootPhase = 7 ∧ s'.mem = s1.mem) ∧
      (s1.bootPhase = 2 → s1.fuse.boot = [] →
        Completes (.bootPhaseComplete t ok slotB cells chFail) s fun s' =>
          s'.bootPhase = 3 ∧ s'.se.keys = (s1.fuse.seed && !s1.fuse.zeroised) ∧
          s'.rb 0x40000 2 = (s1.fuse.seed && !s1.fuse.zeroised) ∧ (∀ d, 24 ≤ d → d ≤ 27 → s'.domOn d = true) ∧
          (∀ k, k < 16 → s1.stackOn k = true → s'.rb (dmB k) 1 = decide (chFail.getD k 0 % 2 ^ 32 = 0)) ∧ s'.mem = s1.mem) ∧
      (s1.bootPhase = 3 →
        Completes (.bootPhaseComplete t ok slotB cells chFail) s fun s' =>
          s'.bootPhase = 4 ∧ (∀ d, 1 ≤ d → d ≤ 16 → s1.domFused d = false → s'.domOn d = true) ∧ MemKeep s1 s') ∧
      (s1.bootPhase = 4 →
        Completes (.bootPhaseComplete t ok slotB cells chFail) s fun s' =>
          s'.bootPhase = (if ok = true ∧ ∀ k, k < s1.fuse.grade.stacks → s1.rb (dmB k) 1 = true then 5 else 6) ∧
          (∀ n ∈ cells, n < 6400 → s'.rb (clB n + 4) 2 = true) ∧ MemKeep s1 s') ∧
      (s1.bootPhase = 5 →
        Completes (.bootPhaseComplete t ok slotB cells chFail) s fun s' =>
          s'.ready = true ∧ s'.reg64 0x40 = s1.detSig % 2 ^ 64 ∧ s'.rb 0x48 31 = false ∧
          s'.reg 0x68 = (s1.clk.now - s1.pwr.bootFrom) / tus % 2 ^ 32 ∧ EventPosted s1 s' Code.READY_TO_LOAD 0 ∧ MemKeep s1 s')) ∧
    (∀ on,
      (s1.partBound = false → Completes (.fixedOnlyWrite t on) s fun s' =>
        s'.rb 0x48 18 = on ∧ s'.rb 0x48 31 = true ∧ (∀ o, o ≠ 0x48 → s'.reg o = s1.reg o) ∧ s'.mem = s1.mem) ∧
      (s1.partBound = true → Completes (.fixedOnlyWrite t on) s fun s' => s' = s1)) ∧
    (s1.rb 0x48 31 = true → Completes (.detSigComputed t) s fun s' =>
      s'.reg64 0x40 = ofLe (shake256 (leBytes 4 (s1.reg 0x48 % 2 ^ 31)) 8) % 2 ^ 64 ∧ s'.rb 0x48 31 = false ∧
      (∀ o, o ≠ 0x48 → o ≠ 0x40 → o ≠ 0x44 → s'.reg o = s1.reg o) ∧ s'.mem = s1.mem) ∧
    (∀ v : Word, v.toNat < 2 ^ 18 → s1.rb 0x40000 3 = false → Completes (.measGo t v) s fun s' =>
      s'.rb 0x40000 3 = true ∧ s'.se.meas = some (fld v.toNat 7 0, fld v.toNat 15 8, s1.reg64 0x40080, s1.reg 0x40088) ∧
      s'.rf 0x4008C 15 0 = fld v.toNat 15 0 ∧ (∀ o, o ≠ 0x40000 → o ≠ 0x4008C → s'.reg o = s1.reg o) ∧ s'.mem = s1.mem) ∧
    (∀ v : Word, v.toNat < 2 ^ 18 → Completes (.measClear t v) s fun s' =>
      (∀ i, i < 12 → s'.reg (0x41000 + 48 * fld v.toNat 7 0 + 4 * i) = 0) ∧
      (∀ o, o ≠ 0x4008C → (o < 0x41000 + 48 * fld v.toNat 7 0 ∨ 0x41000 + 48 * fld v.toNat 7 0 + 48 ≤ o) → s'.reg o = s1.reg o) ∧
      s'.mem = s1.mem) ∧
    (∀ b e a n, s1.se.meas = some (b, e, a, n) → b < 256 → e < 256 → s1.isLocal a = true → s1.plainRange (a % 2 ^ 48) n →
      (s1.rangeHeld (a % 2 ^ 48) n = true → Completes (.measurementComplete t) s fun s' => s'.se = s1.se ∧ MemKeep s1 s') ∧
      (s1.rangeHeld (a % 2 ^ 48) n = false → s1.mem.justNow = [] → Completes (.measurementComplete t) s fun s' =>
        s'.se.meas = none ∧ s'.rb 0x40000 3 = false ∧
        s'.regBytes (measR b) 12 =
          leBytes 1 b ++ leBytes 1 e ++ List.replicate 6 0 ++ leBytes 8 (pack96 s1.sn) ++ shake256 (s1.bytesAt (a % 2 ^ 48) n) 32 ∧
        MemKeep s1 s')) ∧
    (s1.rb 0x40000 4 = false → (s1.fuse.zeroised = true ∨ s1.rb 0x40000 2 = false) →
      Completes (.attGo t) s fun s' =>
        s'.rf 0x400BC 1 0 = 3 ∧ s'.se = s1.se ∧ (∀ o, o ≠ 0x400BC → s'.reg o = s1.reg o) ∧ s'.mem = s1.mem) ∧
    (s1.rb 0x40000 4 = false → s1.fuse.zeroised = false → s1.rb 0x40000 2 = true →
      Completes (.attGo t) s fun s' =>
        s'.rf 0x400BC 1 0 = 1 ∧ s'.rb 0x40000 4 = true ∧
        s'.se.att = some (s1.attBody ++ idSign s1.attBody Config.attContext, s1.reg64 0x400B0) ∧ MemKeep s1 s') ∧
    (∀ l a, s1.se.att = some (l, a) → s1.fwWrites a l.length = false →
      Completes (.attestationComplete t) s fun s' =>
        s'.se.att = none ∧ s'.rb 0x40000 4 = false ∧ s'.rf 0x400BC 1 0 = 2 ∧ s'.rf 0x400BC 31 16 = leAt l 6 2 ∧
        (∀ o, o ≠ 0x40000 → o ≠ 0x400BC → s'.reg o = s1.reg o) ∧ s'.mem = s1.mem) ∧
    (∀ a data, s1.inReset = false →
      Completes (.smbusTransaction t a data) s fun s' =>
        (∀ o, Sparse.get (fun _ => 0) s'.fuse.nor o =
          if a ≤ o ∧ o < a + data.length then data.getD (o - a) 0 else Sparse.get (fun _ => 0) s1.fuse.nor o) ∧
        s'.fuse.zeroised = s1.fuse.zeroised ∧ s'.regs = s1.regs ∧ s'.mem = s1.mem) ∧
    (∀ tj vc sl, s1.vdd ≠ 0 → s1.inReset = false →
      Completes (.lifetimeSample t tj vc sl) s fun s' =>
        (∀ o, Sparse.get (fun _ => 0) s'.lf.hist o = Sparse.get (fun _ => 0) s1.lf.hist o +
          (if o = tjBin tj then 1 else 0) + (if o = vcBin vc then 1 else 0) + (if o = slBin sl then 1 else 0)) ∧
        s'.lf.tjMax = max s1.lf.tjMax tj ∧ s'.lf.vMin = min s1.lf.vMin vc ∧ s'.lf.slackMin = min s1.lf.slackMin sl ∧
        s'.lf.cnt = s1.lf.cnt ∧ s'.regs = s1.regs ∧ s'.mem = s1.mem) ∧
    (let flips (s' : State) : Prop :=
       s'.lfCur = 1 - s1.lfCur ∧ s'.lf = { from_ := s1.clk.now } ∧ s'.free = s1.free + 6 ∧
       s'.reg 0x1000008 = (s1.rf 0x1000008 16 0 % 114688 + 1) % 114688 ∧ (∀ o, o < 0x1000000 → s'.reg o = s1.reg o) ∧ s'.mem = s1.mem
     let fails (s' : State) : Prop :=
       s'.lfCur = s1.lfCur ∧ s'.lf = { s1.lf with from_ := s1.clk.now } ∧ s'.rb 0x1000000 2 = true ∧
       (∀ o, o ≠ 0x1000000 → s'.reg o = s1.reg o) ∧ s'.mem = s1.mem
     s1.inReset = false →
      (s1.lf.from_ + 60 * tsec ≤ s1.clk.now →
        Completes (.lifetimeAggregate t true) s flips ∧ Completes (.lifetimeAggregate t false) s fails) ∧
      Completes (.aggNow t true) s flips ∧ Completes (.aggNow t false) s fails)

/-! ### Debug and the test access port -/

/-- The test access port selects its registers, and DBGREQ starts an access that its answer ends; HALT stops a plane or a context,
STEP lets a halted one run once, GO lets it go; a dump is refused while its engine works; a time breakpoint fires once, and one of
TYPE 4 when an event that it names arises; a WAITT whose time has come passes (R74, R572 to R584, R591). -/
def Obligations.DebugCommands : Prop :=
  ∀ (t : Tick) (s : State),
    let s1 := s.advanceTo t
    let only (s' : State) : Prop := s'.regs = s1.regs ∧ s'.mem = s1.mem ∧ s'.lat = s1.lat ∧ s'.eng = s1.eng ∧ s'.pin = s1.pin
    let tapped (ir dr : Nat) (s' : State) : Prop := s'.dbg.ir = ir ∧ s'.dbg.dr = dr ∧ only s'
    (s1.pin.aon = true → ∀ dr,
      Completes (.extest t dr) s (fun s' => s'.dbg.ir = 0 ∧ s'.dbg.preload = dr ∧ s'.free = s1.free + 1 ∧ only s') ∧
      Completes (.samplePreload t dr) s (fun s' => s'.dbg.ir = 2 ∧ s'.dbg.preload = dr ∧ s'.free = s1.free + 1 ∧ only s') ∧
      Completes (.idcode t dr) s (tapped 1 (1 + s1.fuse.mfr % 2048 * 2 + 0x5197 * 2 ^ 12 + s1.fuse.stepping % 16 * 2 ^ 28)) ∧
      Completes (.clamp t dr) s (tapped 3 (dr % 2)) ∧ Completes (.highz t dr) s (tapped 4 (dr % 2)) ∧
      Completes (.bypass t dr) s (tapped 255 (dr % 2))) ∧
    Completes (.tapReset t) s (fun s' => s'.dbg.ir = 1 ∧ s'.dbg.dr = s1.idcode ∧ only s') ∧
    (∀ (addr : DWord) (data : QWord) (be : Nat) (write : Bool), s1.pin.aon = true → s1.inReset = false → s1.dbg.pending = none →
      (addr.toNat % 16 ≠ 0 →
        Completes (.dbgreq t addr data be write) s fun s' =>
          s'.dbg.status = 2 ∧ s'.dbg.pending = none ∧ s'.dbg.data = BitVec.ofNat 128 Code.MISALIGNED ∧ only s') ∧
      (addr.toNat % 16 = 0 → be = 65535 →
        Completes (.dbgreq t addr data be write) s fun s' =>
          s'.dbg.status = 1 ∧ s'.dbg.pending = some s1.mem.nextId ∧ s'.regs = s1.regs ∧ s'.mem.bytes = s1.mem.bytes ∧
          ∃ r, s'.mem.inflight = s1.mem.inflight ++ [r] ∧ r.id = s1.mem.nextId ∧ r.issuer = .debug ∧ r.addr = addr.toNat ∧
            r.write = write ∧ (write = true → r.data = leBytes 16 data.toNat) ∧ (write = false → r.len = 16))) ∧
    (∀ id a, s1.dbg.pending = some id →
      s1.mem.answers.find? (fun a => a.req.issuer == .debug && a.req.id == id) = some a →
      (a.code = 0 → a.req.write = false → a.req.enable = some 65535 → a.data.length = 16 →
        Completes (.debugAccessComplete t) s fun s' =>
          s'.dbg.pending = none ∧ s'.dbg.status = 0 ∧ s'.dbg.data = BitVec.ofNat 128 (ofLe a.data) ∧ s'.regs = s1.regs ∧
          s'.mem.bytes = s1.mem.bytes) ∧
      (a.code ≠ 0 →
        Completes (.debugAccessComplete t) s fun s' =>
          s'.dbg.pending = none ∧ s'.dbg.status = 2 ∧ s'.dbg.data = BitVec.ofNat 128 (answerFault a.code) ∧ s'.regs = s1.regs ∧
          s'.mem.bytes = s1.mem.bytes)) ∧
    (∀ v : Word, v.toNat < 2 ^ 5 → bit v.toNat 4 = false →
      (let n := s1.rf 0x50008 12 0
       let p := s1.rf 0x50008 14 13
       dbKind v.toNat = 0 → s1.cellOn n = true →
        ((s1.pl n p).dbg = false → (s1.pl n p).st ≠ .faulted →
          Completes (.dbHalt t v) s fun s' =>
            (s'.pl n p).dbg = true ∧ (s'.pl n p).x = (s1.pl n p).x ∧ (s'.pl n p).pc = (s1.pl n p).pc ∧
            s'.reg 0x50014 = (s1.reg 0x50014 + 1) % 2 ^ 32 ∧ s'.reg 0x5000C = 0 ∧ MemKeep s1 s') ∧
        ((s1.pl n p).dbg = true →
          Completes (.dbStep t v) s (fun s' =>
            (s'.pl n p).dbg = true ∧ (s'.pl n p).step = true ∧ (s'.pl n p).pc = (s1.pl n p).pc ∧ MemKeep s1 s') ∧
          Completes (.dbGo t v) s fun s' =>
            (s'.pl n p).dbg = false ∧ (s'.pl n p).st = (s1.pl n p).st ∧ (s'.pl n p).pc = (s1.pl n p).pc ∧ MemKeep s1 s')) ∧
      (let n := s1.rf 0x50008 12 0
       dbKind v.toNat = 1 → n < 100 → s1.engOn (engineOf n) = true →
        (engineOf n ∈ s1.rv.queue →
          Completes (.dbHalt t v) s fun s' =>
            s'.reg 0x5000C = 19 ∧ (∀ o, o ≠ 0x5000C → s'.reg o = s1.reg o) ∧ s'.eng = s1.eng ∧ s'.mem = s1.mem) ∧
        (engineOf n ∉ s1.rv.queue → (s1.cx n).dbg = false → s1.cxState n ≠ 4 → s1.cxState n ≠ 5 →
          (s1.cx n).phase ≠ .busy → (s1.cx n).phase ≠ .reading →
          Completes (.dbHalt t v) s fun s' =>
            (s'.cx n).dbg = true ∧ s'.cxView n = 3 ∧ (s'.cx n).slot = (s1.cx n).slot ∧
            s'.reg 0x50014 = (s1.reg 0x50014 + 1) % 2 ^ 32 ∧ s'.reg 0x5000C = 16 ∧ MemKeep s1 s') ∧
        (engineOf n ∉ s1.rv.queue → (s1.cx n).dbg = true →
          Completes (.dbStep t v) s (fun s' => (s'.cx n).dbg = true ∧ (s'.cx n).step = true ∧ MemKeep s1 s') ∧
          Completes (.dbGo t v) s fun s' =>
            (s'.cx n).dbg = false ∧ s'.cxState n = s1.cxState n ∧ (s'.cx n).slot = (s1.cx n).slot ∧ MemKeep s1 s'))) ∧
    (∀ (v : Word) (e : Nat), v.toNat < 2 ^ 9 → bit v.toNat 8 = true → s1.engNamed (fld v.toNat 3 0) (fld v.toNat 7 4) = some e →
      (s1.rv.queue = [] → s1.rv.chip = none → s1.rv.demand = none → (∀ n ∈ engList e, s1.cxState n = 0 ∨ (s1.cx n).dbg = true) →
        Completes (.dbDump t v) s fun s' =>
          s'.rv.demand = some e ∧ s'.rv.imgAt = s1.sn ∧ s'.rf 0x5000C 1 0 = 0 ∧ (∀ o, o ≠ 0x5000C → s'.reg o = s1.reg o) ∧
          s'.mem = s1.mem) ∧
      ((∃ n ∈ engList e, s1.cxState n ≠ 0 ∧ (s1.cx n).dbg = false) →
        Completes (.dbDump t v) s fun s' => s'.rf 0x5000C 1 0 = 3 ∧ s'.rv = s1.rv ∧ s'.mem = s1.mem)) ∧
    (∀ b, b < 16 → s1.rf (bpB b) 2 0 = 5 → s1.bpWindow b s1.sn = true → b ∉ s1.dbg.fired →
      s1.rf (bpB b) 31 21 = 0 → s1.rf (bpB b) 4 3 = 0 →
      Completes (.breakpointTimeMatch t b) s fun s' =>
        s'.rb 0x50010 b = true ∧ s'.reg (bpB b + 0x3C) = (s1.reg (bpB b + 0x3C) + 1) % 2 ^ 32 ∧ b ∈ s'.dbg.fired ∧
        EventPosted s1 s' Code.BREAKPOINT_HIT b ∧ MemKeep s1 s') ∧
    (∀ b i, b < 16 → i < 8 → s1.rf (bpB b) 2 0 = 4 → s1.rf (bpB b) 31 21 = 0 → s1.rf (bpB b) 4 3 = 0 → s1.rb (bpB b) 5 = false →
      s1.rf (bpB b + 8) 12 0 = 1536 + i → bit s1.pin.lvdsIn i = false → bit (s1.rf 0x3C0100 (2 * i + 1) (2 * i)) 0 = true →
      Sparse.get (fun _ => none) s1.tg.lvdsLast i = none → s1.domOn 27 = true → s1.holdsPins = false →
      (∀ c, c < 16 → c ≠ b → s1.rf (bpB c) 2 0 ≠ 4) →
      Completes (.lvdsInputEdge t i true) s fun s' =>
        s'.rb 0x50010 b = true ∧ s'.reg (bpB b + 0x3C) = (s1.reg (bpB b + 0x3C) + 1) % 2 ^ 32 ∧
        EventPosted s1 s' Code.BREAKPOINT_HIT b ∧ MemKeep s1 s') ∧
    (∀ n d, s1.cxIssues n 0x03 → (s1.cx n).deadline = some d → d ≤ s1.sn →
      Completes (.waittDeadline t (.context n)) s fun s' => CxAdvanced s1 s' n ∧ MemKeep s1 s') ∧
    ∀ n d,
      let p := (s1.cell n).turn
      s1.issues n 0x43 → okQ (s1.curWord n) true = true → isPair (srcaQ (s1.curWord n)) = true → dstQ (s1.curWord n) = 24 →
      (s1.pl n p).deadline = some d → d ≤ s1.sn →
      Completes (.waittDeadline t (.cell n)) s fun s' =>
        (s'.pl n p).pc = (s1.pl n p).nextPc ∧ (s'.pl n p).x = (s1.pl n p).x ∧ CellFrame s1 s'
end

