-- ==== Sys2Proof/Laws/Bytes.lean ====
section
/-! SUPPORT. Little-endian bytes read back, and a flit made by the part has the CRC it asks of a received one. -/

namespace Sys2Proof.Machine

@[simp] theorem leBytes_length (n v : Nat) : (leBytes n v).length = n := by
  induction n generalizing v with
  | zero => rfl
  | succ n ih => simp [leBytes, ih]

/-- The bytes of a number read back as the number, as far as they hold it. -/
@[simp] theorem ofLe_leBytes (n v : Nat) : ofLe (leBytes n v) = v % 256 ^ n := by
  induction n generalizing v with
  | zero => simp [leBytes, ofLe, Nat.mod_one]
  | succ n ih =>
    have h : v % 256 ^ (n + 1) = v % 256 + 256 * (v / 256 % 256 ^ n) := by
      rw [Nat.pow_succ', Nat.mod_mul]
    simp only [leBytes, ofLe, ih, BitVec.toNat_ofNat, h]

theorem ofLe_lt (l : List Byte) : ofLe l < 256 ^ l.length := by
  induction l with
  | nil => decide
  | cons b r ih =>
    have := b.isLt
    simp only [ofLe, List.length_cons, Nat.pow_succ']
    omega

theorem leAt_append_left (a b : List Byte) (o n : Nat) (h : o + n ≤ a.length) : leAt (a ++ b) o n = leAt a o n := by
  unfold leAt
  rw [List.drop_append_of_le_length (by omega), List.take_append_of_le_length (by simp; omega)]

theorem leAt_leBytes_end (a : List Byte) (n v : Nat) : leAt (a ++ leBytes n v) a.length n = v % 256 ^ n := by
  unfold leAt
  rw [List.drop_left, List.take_of_length_le (by simp), ofLe_leBytes]

/-- The steps of a reflected CRC stay within its width. -/
theorem crcBitsR_lt (w poly n c : Nat) (hp : poly < 2 ^ w) (hc : c < 2 ^ w) : crcBitsR poly n c < 2 ^ w := by
  induction n generalizing c with
  | zero => exact hc
  | succ n ih =>
    apply ih
    have h2 : c / 2 < 2 ^ w := by omega
    unfold crcBitR
    split
    · exact Nat.xor_lt_two_pow h2 hp
    · exact h2

theorem crcR_lt (w poly init : Nat) (l : List Byte) (hw : 8 ≤ w) (hp : poly < 2 ^ w) (hc : init < 2 ^ w) :
    crcR poly init l < 2 ^ w := by
  unfold crcR
  induction l generalizing init with
  | nil => exact hc
  | cons b r ih =>
    refine ih _ (crcBitsR_lt w poly 8 _ hp (Nat.xor_lt_two_pow hc ?_))
    exact Nat.lt_of_lt_of_le b.isLt (Nat.pow_le_pow_right (by omega) hw)

theorem flitCrc_lt (l : List Byte) : flitCrc l < 2 ^ 32 :=
  Nat.xor_lt_two_pow (crcR_lt 32 _ _ l (by omega) (by decide) (by decide)) (by decide)

/-- A flit of 508 bytes and its CRC is one a receiver accepts (R435, R436). -/
theorem flitOk_mkFlit (hdr payload : List Byte) (h : hdr.length + payload.length = 508) : flitOk (mkFlit hdr payload) = true := by
  have hl : (hdr ++ payload).length = 508 := by simp [h]
  have ht : (mkFlit hdr payload).take 508 = hdr ++ payload := by
    unfold mkFlit
    rw [← hl]
    exact List.take_left
  have he := leAt_leBytes_end (hdr ++ payload) 4 (flitCrc (hdr ++ payload))
  rw [hl] at he
  have hc := flitCrc_lt (hdr ++ payload)
  unfold flitOk
  rw [ht]
  unfold mkFlit
  simp only [he, List.length_append, leBytes_length, Bool.and_eq_true, beq_iff_eq]
  omega

end Sys2Proof.Machine
end

