-- ==== Sys2Proof/Laws/Sparse.lean ====
section
/-! SUPPORT. Sparse maps: a read after a write, and that every operation keeps the canonical form. -/

namespace Sys2Proof.Machine

variable {α : Type}

theorem Sparse.get_put_of_ne (d : Nat → α) (m : List (Nat × α)) (k j : Nat) (v : α) (h : j ≠ k) :
    Sparse.get d (Sparse.put m k v) j = Sparse.get d m j := by
  induction m with
  | nil => simp [Sparse.put, Sparse.get, h]
  | cons e r ih =>
    unfold Sparse.put
    split
    · simp [Sparse.get, h]
    · simp [Sparse.get, ih]

theorem Sparse.get_put_self (d : Nat → α) (m : List (Nat × α)) (k : Nat) (v : α) (h : ∀ e ∈ m, e.1 ≠ k) :
    Sparse.get d (Sparse.put m k v) k = v := by
  induction m with
  | nil => simp [Sparse.put, Sparse.get]
  | cons e r ih =>
    unfold Sparse.put
    split
    · simp [Sparse.get]
    · have he : k ≠ e.1 := fun x => h e (by simp) x.symm
      simp [Sparse.get, he, ih fun e he => h e (by simp [he])]

theorem Sparse.get_filter_of_keep (d : Nat → α) (m : List (Nat × α)) (p : Nat × α → Bool) (j : Nat)
    (h : ∀ e ∈ m, e.1 = j → p e = true) : Sparse.get d (m.filter p) j = Sparse.get d m j := by
  induction m with
  | nil => rfl
  | cons e r ih =>
    have ih := ih fun e he => h e (by simp [he])
    rw [List.filter_cons]
    by_cases hj : j = e.1
    · have := h e (by simp) hj.symm
      simp [this, Sparse.get, hj]
    · split <;> simp [Sparse.get, hj, ih]

theorem Sparse.get_of_no_key (d : Nat → α) (m : List (Nat × α)) (k : Nat) (h : ∀ e ∈ m, e.1 ≠ k) : Sparse.get d m k = d k := by
  induction m with
  | nil => rfl
  | cons e r ih =>
    have he : k ≠ e.1 := fun x => h e (by simp) x.symm
    simp [Sparse.get, he, ih fun e he => h e (by simp [he])]

/-- A read after a write of the same key gives the value written, and of another key what it gave before. -/
theorem Sparse.get_set [DecidableEq α] (d : Nat → α) (m : List (Nat × α)) (k j : Nat) (v : α) :
    Sparse.get d (Sparse.set d m k v) j = if j = k then v else Sparse.get d m j := by
  have hn : ∀ e ∈ m.filter (fun e => e.1 != k), e.1 ≠ k := by simp
  by_cases hj : j = k
  · subst hj
    by_cases hv : v = d j
    · simpa [Sparse.set, hv] using Sparse.get_of_no_key d _ j hn
    · simpa [Sparse.set, hv] using Sparse.get_put_self d _ j v hn
  · have hf := Sparse.get_filter_of_keep d m (fun e => e.1 != k) j (by rintro e - rfl; simpa using hj)
    by_cases hv : v = d k
    · simpa [Sparse.set, hv, hj] using hf
    · simpa [Sparse.set, hv, hj, Sparse.get_put_of_ne d _ k j v hj] using hf

@[simp] theorem Sparse.get_set_self [DecidableEq α] (d : Nat → α) (m : List (Nat × α)) (k : Nat) (v : α) :
    Sparse.get d (Sparse.set d m k v) k = v := by simp [Sparse.get_set]

theorem Sparse.get_set_of_ne [DecidableEq α] (d : Nat → α) (m : List (Nat × α)) (k j : Nat) (v : α) (h : j ≠ k) :
    Sparse.get d (Sparse.set d m k v) j = Sparse.get d m j := by simp [Sparse.get_set, h]

/-! ### The canonical form -/

theorem Sparse.above_filter (k : Nat) (p : Nat × α → Bool) (m : List (Nat × α)) (h : Sparse.above k m = true) :
    Sparse.above k (m.filter p) = true := by
  simp only [Sparse.above, List.all_eq_true] at *
  exact fun e he => h e (List.mem_filter.1 he).1

theorem Sparse.above_put (k j : Nat) (v : α) (m : List (Nat × α)) (h : Sparse.above k m = true) (hj : k < j) :
    Sparse.above k (Sparse.put m j v) = true := by
  induction m with
  | nil => simp [Sparse.put, Sparse.above, hj]
  | cons e r ih =>
    simp only [Sparse.above, List.all_cons, Bool.and_eq_true, decide_eq_true_eq] at h
    have ih := ih h.2
    unfold Sparse.put
    split
    · simp only [Sparse.above, List.all_cons, Bool.and_eq_true, decide_eq_true_eq]
      exact ⟨hj, h.1, h.2⟩
    · simp only [Sparse.above, List.all_cons, Bool.and_eq_true, decide_eq_true_eq] at *
      exact ⟨h.1, ih⟩

theorem Sparse.above_trans (k j : Nat) (m : List (Nat × α)) (h : Sparse.above j m = true) (hj : k < j) : Sparse.above k m = true := by
  simp only [Sparse.above, List.all_eq_true, decide_eq_true_eq] at *
  exact fun e he => Nat.lt_trans hj (h e he)

theorem Sparse.wf_cons [DecidableEq α] (d : Nat → α) (e : Nat × α) (r : List (Nat × α)) :
    Sparse.wf d (e :: r) = true ↔ Sparse.above e.1 r = true ∧ e.2 ≠ d e.1 ∧ Sparse.wf d r = true := by
  simp [Sparse.wf, and_assoc]

theorem Sparse.wf_filter [DecidableEq α] (d : Nat → α) (p : Nat × α → Bool) (m : List (Nat × α)) (h : Sparse.wf d m = true) :
    Sparse.wf d (m.filter p) = true := by
  induction m with
  | nil => rfl
  | cons e r ih =>
    obtain ⟨h1, h2, h3⟩ := (Sparse.wf_cons d e r).1 h
    rw [List.filter_cons]
    split
    · exact (Sparse.wf_cons ..).2 ⟨Sparse.above_filter _ _ _ h1, h2, ih h3⟩
    · exact ih h3

theorem Sparse.wf_put [DecidableEq α] (d : Nat → α) (m : List (Nat × α)) (k : Nat) (v : α) (h : Sparse.wf d m = true)
    (hn : ∀ e ∈ m, e.1 ≠ k) (hv : v ≠ d k) : Sparse.wf d (Sparse.put m k v) = true := by
  induction m with
  | nil => simp [Sparse.put, Sparse.wf, Sparse.above, hv]
  | cons e r ih =>
    obtain ⟨h1, h2, h3⟩ := (Sparse.wf_cons d e r).1 h
    unfold Sparse.put
    split
    · rename_i hk
      refine (Sparse.wf_cons ..).2 ⟨?_, hv, h⟩
      have := Sparse.above_trans k e.1 r h1 hk
      simp only [Sparse.above, List.all_cons, Bool.and_eq_true, decide_eq_true_eq] at *
      exact ⟨hk, this⟩
    · rename_i hk
      have he := hn e (by simp)
      exact (Sparse.wf_cons ..).2 ⟨Sparse.above_put _ _ _ _ h1 (by omega), h2, ih h3 fun e he => hn e (by simp [he])⟩

/-- A write keeps the canonical form. -/
theorem Sparse.wf_set [DecidableEq α] (d : Nat → α) (m : List (Nat × α)) (k : Nat) (v : α) (h : Sparse.wf d m = true) :
    Sparse.wf d (Sparse.set d m k v) = true := by
  have hf := Sparse.wf_filter d (fun e => e.1 != k) m h
  by_cases hv : v = d k
  · simpa [Sparse.set, hv] using hf
  · simpa [Sparse.set, hv] using Sparse.wf_put d _ k v hf (by simp) hv

theorem Sparse.wf_mapV [DecidableEq α] (d : Nat → α) (f : Nat → α → α) (m : List (Nat × α)) : Sparse.wf d (Sparse.mapV d f m) = true := by
  unfold Sparse.mapV
  induction m with
  | nil => rfl
  | cons e r ih => exact Sparse.wf_set d _ _ _ ih

end Sys2Proof.Machine
end

