-- ==== Sys2Proof/Laws/State.lean ====
section
/-! SUPPORT. One lemma per update and field of State that the update leaves alone, so that no later proof unfolds a record
update. -/

namespace Sys2Proof.Machine

/-! ### State.setReg -/

@[simp] theorem State.setReg_fuse (s : State) (o v : Nat) : (s.setReg o v).fuse = s.fuse := rfl
@[simp] theorem State.setReg_pin (s : State) (o v : Nat) : (s.setReg o v).pin = s.pin := rfl
@[simp] theorem State.setReg_clk (s : State) (o v : Nat) : (s.setReg o v).clk = s.clk := rfl
@[simp] theorem State.setReg_latch (s : State) (o v : Nat) : (s.setReg o v).latch = s.latch := rfl
@[simp] theorem State.setReg_rcOld (s : State) (o v : Nat) : (s.setReg o v).rcOld = s.rcOld := rfl
@[simp] theorem State.setReg_bus (s : State) (o v : Nat) : (s.setReg o v).bus = s.bus := rfl
@[simp] theorem State.setReg_mem (s : State) (o v : Nat) : (s.setReg o v).mem = s.mem := rfl
@[simp] theorem State.setReg_lat (s : State) (o v : Nat) : (s.setReg o v).lat = s.lat := rfl
@[simp] theorem State.setReg_eng (s : State) (o v : Nat) : (s.setReg o v).eng = s.eng := rfl
@[simp] theorem State.setReg_tg (s : State) (o v : Nat) : (s.setReg o v).tg = s.tg := rfl
@[simp] theorem State.setReg_lanes (s : State) (o v : Nat) : (s.setReg o v).lanes = s.lanes := rfl
@[simp] theorem State.setReg_eth (s : State) (o v : Nat) : (s.setReg o v).eth = s.eth := rfl
@[simp] theorem State.setReg_pa (s : State) (o v : Nat) : (s.setReg o v).pa = s.pa := rfl
@[simp] theorem State.setReg_nen (s : State) (o v : Nat) : (s.setReg o v).nen = s.nen := rfl
@[simp] theorem State.setReg_host (s : State) (o v : Nat) : (s.setReg o v).host = s.host := rfl
@[simp] theorem State.setReg_stages (s : State) (o v : Nat) : (s.setReg o v).stages = s.stages := rfl
@[simp] theorem State.setReg_out (s : State) (o v : Nat) : (s.setReg o v).out = s.out := rfl
@[simp] theorem State.setReg_pwr (s : State) (o v : Nat) : (s.setReg o v).pwr = s.pwr := rfl
@[simp] theorem State.setReg_se (s : State) (o v : Nat) : (s.setReg o v).se = s.se := rfl
@[simp] theorem State.setReg_rv (s : State) (o v : Nat) : (s.setReg o v).rv = s.rv := rfl
@[simp] theorem State.setReg_dbg (s : State) (o v : Nat) : (s.setReg o v).dbg = s.dbg := rfl
@[simp] theorem State.setReg_paused (s : State) (o v : Nat) : (s.setReg o v).paused = s.paused := rfl
@[simp] theorem State.setReg_lf (s : State) (o v : Nat) : (s.setReg o v).lf = s.lf := rfl
@[simp] theorem State.setReg_free (s : State) (o v : Nat) : (s.setReg o v).free = s.free := rfl
@[simp] theorem State.setReg_pending (s : State) (o v : Nat) : (s.setReg o v).pending = s.pending := rfl

/-! ### State.setCell -/

@[simp] theorem State.setCell_fuse (s : State) (n : Nat) (c : Cell) : (s.setCell n c).fuse = s.fuse := rfl
@[simp] theorem State.setCell_pin (s : State) (n : Nat) (c : Cell) : (s.setCell n c).pin = s.pin := rfl
@[simp] theorem State.setCell_clk (s : State) (n : Nat) (c : Cell) : (s.setCell n c).clk = s.clk := rfl
@[simp] theorem State.setCell_regs (s : State) (n : Nat) (c : Cell) : (s.setCell n c).regs = s.regs := rfl
@[simp] theorem State.setCell_latch (s : State) (n : Nat) (c : Cell) : (s.setCell n c).latch = s.latch := rfl
@[simp] theorem State.setCell_rcOld (s : State) (n : Nat) (c : Cell) : (s.setCell n c).rcOld = s.rcOld := rfl
@[simp] theorem State.setCell_bus (s : State) (n : Nat) (c : Cell) : (s.setCell n c).bus = s.bus := rfl
@[simp] theorem State.setCell_mem (s : State) (n : Nat) (c : Cell) : (s.setCell n c).mem = s.mem := rfl
@[simp] theorem State.setCell_eng (s : State) (n : Nat) (c : Cell) : (s.setCell n c).eng = s.eng := rfl
@[simp] theorem State.setCell_tg (s : State) (n : Nat) (c : Cell) : (s.setCell n c).tg = s.tg := rfl
@[simp] theorem State.setCell_lanes (s : State) (n : Nat) (c : Cell) : (s.setCell n c).lanes = s.lanes := rfl
@[simp] theorem State.setCell_eth (s : State) (n : Nat) (c : Cell) : (s.setCell n c).eth = s.eth := rfl
@[simp] theorem State.setCell_pa (s : State) (n : Nat) (c : Cell) : (s.setCell n c).pa = s.pa := rfl
@[simp] theorem State.setCell_nen (s : State) (n : Nat) (c : Cell) : (s.setCell n c).nen = s.nen := rfl
@[simp] theorem State.setCell_host (s : State) (n : Nat) (c : Cell) : (s.setCell n c).host = s.host := rfl
@[simp] theorem State.setCell_stages (s : State) (n : Nat) (c : Cell) : (s.setCell n c).stages = s.stages := rfl
@[simp] theorem State.setCell_out (s : State) (n : Nat) (c : Cell) : (s.setCell n c).out = s.out := rfl
@[simp] theorem State.setCell_pwr (s : State) (n : Nat) (c : Cell) : (s.setCell n c).pwr = s.pwr := rfl
@[simp] theorem State.setCell_se (s : State) (n : Nat) (c : Cell) : (s.setCell n c).se = s.se := rfl
@[simp] theorem State.setCell_rv (s : State) (n : Nat) (c : Cell) : (s.setCell n c).rv = s.rv := rfl
@[simp] theorem State.setCell_dbg (s : State) (n : Nat) (c : Cell) : (s.setCell n c).dbg = s.dbg := rfl
@[simp] theorem State.setCell_paused (s : State) (n : Nat) (c : Cell) : (s.setCell n c).paused = s.paused := rfl
@[simp] theorem State.setCell_lf (s : State) (n : Nat) (c : Cell) : (s.setCell n c).lf = s.lf := rfl
@[simp] theorem State.setCell_free (s : State) (n : Nat) (c : Cell) : (s.setCell n c).free = s.free := rfl
@[simp] theorem State.setCell_pending (s : State) (n : Nat) (c : Cell) : (s.setCell n c).pending = s.pending := rfl

/-! ### State.setWest -/

@[simp] theorem State.setWest_fuse (s : State) (r : Nat) (e : EdgeRow) : (s.setWest r e).fuse = s.fuse := rfl
@[simp] theorem State.setWest_pin (s : State) (r : Nat) (e : EdgeRow) : (s.setWest r e).pin = s.pin := rfl
@[simp] theorem State.setWest_clk (s : State) (r : Nat) (e : EdgeRow) : (s.setWest r e).clk = s.clk := rfl
@[simp] theorem State.setWest_regs (s : State) (r : Nat) (e : EdgeRow) : (s.setWest r e).regs = s.regs := rfl
@[simp] theorem State.setWest_latch (s : State) (r : Nat) (e : EdgeRow) : (s.setWest r e).latch = s.latch := rfl
@[simp] theorem State.setWest_rcOld (s : State) (r : Nat) (e : EdgeRow) : (s.setWest r e).rcOld = s.rcOld := rfl
@[simp] theorem State.setWest_bus (s : State) (r : Nat) (e : EdgeRow) : (s.setWest r e).bus = s.bus := rfl
@[simp] theorem State.setWest_mem (s : State) (r : Nat) (e : EdgeRow) : (s.setWest r e).mem = s.mem := rfl
@[simp] theorem State.setWest_eng (s : State) (r : Nat) (e : EdgeRow) : (s.setWest r e).eng = s.eng := rfl
@[simp] theorem State.setWest_tg (s : State) (r : Nat) (e : EdgeRow) : (s.setWest r e).tg = s.tg := rfl
@[simp] theorem State.setWest_lanes (s : State) (r : Nat) (e : EdgeRow) : (s.setWest r e).lanes = s.lanes := rfl
@[simp] theorem State.setWest_eth (s : State) (r : Nat) (e : EdgeRow) : (s.setWest r e).eth = s.eth := rfl
@[simp] theorem State.setWest_pa (s : State) (r : Nat) (e : EdgeRow) : (s.setWest r e).pa = s.pa := rfl
@[simp] theorem State.setWest_nen (s : State) (r : Nat) (e : EdgeRow) : (s.setWest r e).nen = s.nen := rfl
@[simp] theorem State.setWest_host (s : State) (r : Nat) (e : EdgeRow) : (s.setWest r e).host = s.host := rfl
@[simp] theorem State.setWest_stages (s : State) (r : Nat) (e : EdgeRow) : (s.setWest r e).stages = s.stages := rfl
@[simp] theorem State.setWest_out (s : State) (r : Nat) (e : EdgeRow) : (s.setWest r e).out = s.out := rfl
@[simp] theorem State.setWest_pwr (s : State) (r : Nat) (e : EdgeRow) : (s.setWest r e).pwr = s.pwr := rfl
@[simp] theorem State.setWest_se (s : State) (r : Nat) (e : EdgeRow) : (s.setWest r e).se = s.se := rfl
@[simp] theorem State.setWest_rv (s : State) (r : Nat) (e : EdgeRow) : (s.setWest r e).rv = s.rv := rfl
@[simp] theorem State.setWest_dbg (s : State) (r : Nat) (e : EdgeRow) : (s.setWest r e).dbg = s.dbg := rfl
@[simp] theorem State.setWest_paused (s : State) (r : Nat) (e : EdgeRow) : (s.setWest r e).paused = s.paused := rfl
@[simp] theorem State.setWest_lf (s : State) (r : Nat) (e : EdgeRow) : (s.setWest r e).lf = s.lf := rfl
@[simp] theorem State.setWest_free (s : State) (r : Nat) (e : EdgeRow) : (s.setWest r e).free = s.free := rfl
@[simp] theorem State.setWest_pending (s : State) (r : Nat) (e : EdgeRow) : (s.setWest r e).pending = s.pending := rfl

/-! ### State.setEast -/

@[simp] theorem State.setEast_fuse (s : State) (r : Nat) (e : EdgeRow) : (s.setEast r e).fuse = s.fuse := rfl
@[simp] theorem State.setEast_pin (s : State) (r : Nat) (e : EdgeRow) : (s.setEast r e).pin = s.pin := rfl
@[simp] theorem State.setEast_clk (s : State) (r : Nat) (e : EdgeRow) : (s.setEast r e).clk = s.clk := rfl
@[simp] theorem State.setEast_regs (s : State) (r : Nat) (e : EdgeRow) : (s.setEast r e).regs = s.regs := rfl
@[simp] theorem State.setEast_latch (s : State) (r : Nat) (e : EdgeRow) : (s.setEast r e).latch = s.latch := rfl
@[simp] theorem State.setEast_rcOld (s : State) (r : Nat) (e : EdgeRow) : (s.setEast r e).rcOld = s.rcOld := rfl
@[simp] theorem State.setEast_bus (s : State) (r : Nat) (e : EdgeRow) : (s.setEast r e).bus = s.bus := rfl
@[simp] theorem State.setEast_mem (s : State) (r : Nat) (e : EdgeRow) : (s.setEast r e).mem = s.mem := rfl
@[simp] theorem State.setEast_eng (s : State) (r : Nat) (e : EdgeRow) : (s.setEast r e).eng = s.eng := rfl
@[simp] theorem State.setEast_tg (s : State) (r : Nat) (e : EdgeRow) : (s.setEast r e).tg = s.tg := rfl
@[simp] theorem State.setEast_lanes (s : State) (r : Nat) (e : EdgeRow) : (s.setEast r e).lanes = s.lanes := rfl
@[simp] theorem State.setEast_eth (s : State) (r : Nat) (e : EdgeRow) : (s.setEast r e).eth = s.eth := rfl
@[simp] theorem State.setEast_pa (s : State) (r : Nat) (e : EdgeRow) : (s.setEast r e).pa = s.pa := rfl
@[simp] theorem State.setEast_nen (s : State) (r : Nat) (e : EdgeRow) : (s.setEast r e).nen = s.nen := rfl
@[simp] theorem State.setEast_host (s : State) (r : Nat) (e : EdgeRow) : (s.setEast r e).host = s.host := rfl
@[simp] theorem State.setEast_stages (s : State) (r : Nat) (e : EdgeRow) : (s.setEast r e).stages = s.stages := rfl
@[simp] theorem State.setEast_out (s : State) (r : Nat) (e : EdgeRow) : (s.setEast r e).out = s.out := rfl
@[simp] theorem State.setEast_pwr (s : State) (r : Nat) (e : EdgeRow) : (s.setEast r e).pwr = s.pwr := rfl
@[simp] theorem State.setEast_se (s : State) (r : Nat) (e : EdgeRow) : (s.setEast r e).se = s.se := rfl
@[simp] theorem State.setEast_rv (s : State) (r : Nat) (e : EdgeRow) : (s.setEast r e).rv = s.rv := rfl
@[simp] theorem State.setEast_dbg (s : State) (r : Nat) (e : EdgeRow) : (s.setEast r e).dbg = s.dbg := rfl
@[simp] theorem State.setEast_paused (s : State) (r : Nat) (e : EdgeRow) : (s.setEast r e).paused = s.paused := rfl
@[simp] theorem State.setEast_lf (s : State) (r : Nat) (e : EdgeRow) : (s.setEast r e).lf = s.lf := rfl
@[simp] theorem State.setEast_free (s : State) (r : Nat) (e : EdgeRow) : (s.setEast r e).free = s.free := rfl
@[simp] theorem State.setEast_pending (s : State) (r : Nat) (e : EdgeRow) : (s.setEast r e).pending = s.pending := rfl

/-! ### State.setCx -/

@[simp] theorem State.setCx_fuse (s : State) (n : Nat) (c : Ctx) : (s.setCx n c).fuse = s.fuse := rfl
@[simp] theorem State.setCx_pin (s : State) (n : Nat) (c : Ctx) : (s.setCx n c).pin = s.pin := rfl
@[simp] theorem State.setCx_clk (s : State) (n : Nat) (c : Ctx) : (s.setCx n c).clk = s.clk := rfl
@[simp] theorem State.setCx_regs (s : State) (n : Nat) (c : Ctx) : (s.setCx n c).regs = s.regs := rfl
@[simp] theorem State.setCx_latch (s : State) (n : Nat) (c : Ctx) : (s.setCx n c).latch = s.latch := rfl
@[simp] theorem State.setCx_rcOld (s : State) (n : Nat) (c : Ctx) : (s.setCx n c).rcOld = s.rcOld := rfl
@[simp] theorem State.setCx_bus (s : State) (n : Nat) (c : Ctx) : (s.setCx n c).bus = s.bus := rfl
@[simp] theorem State.setCx_mem (s : State) (n : Nat) (c : Ctx) : (s.setCx n c).mem = s.mem := rfl
@[simp] theorem State.setCx_lat (s : State) (n : Nat) (c : Ctx) : (s.setCx n c).lat = s.lat := rfl
@[simp] theorem State.setCx_tg (s : State) (n : Nat) (c : Ctx) : (s.setCx n c).tg = s.tg := rfl
@[simp] theorem State.setCx_lanes (s : State) (n : Nat) (c : Ctx) : (s.setCx n c).lanes = s.lanes := rfl
@[simp] theorem State.setCx_eth (s : State) (n : Nat) (c : Ctx) : (s.setCx n c).eth = s.eth := rfl
@[simp] theorem State.setCx_pa (s : State) (n : Nat) (c : Ctx) : (s.setCx n c).pa = s.pa := rfl
@[simp] theorem State.setCx_nen (s : State) (n : Nat) (c : Ctx) : (s.setCx n c).nen = s.nen := rfl
@[simp] theorem State.setCx_host (s : State) (n : Nat) (c : Ctx) : (s.setCx n c).host = s.host := rfl
@[simp] theorem State.setCx_stages (s : State) (n : Nat) (c : Ctx) : (s.setCx n c).stages = s.stages := rfl
@[simp] theorem State.setCx_out (s : State) (n : Nat) (c : Ctx) : (s.setCx n c).out = s.out := rfl
@[simp] theorem State.setCx_pwr (s : State) (n : Nat) (c : Ctx) : (s.setCx n c).pwr = s.pwr := rfl
@[simp] theorem State.setCx_se (s : State) (n : Nat) (c : Ctx) : (s.setCx n c).se = s.se := rfl
@[simp] theorem State.setCx_rv (s : State) (n : Nat) (c : Ctx) : (s.setCx n c).rv = s.rv := rfl
@[simp] theorem State.setCx_dbg (s : State) (n : Nat) (c : Ctx) : (s.setCx n c).dbg = s.dbg := rfl
@[simp] theorem State.setCx_paused (s : State) (n : Nat) (c : Ctx) : (s.setCx n c).paused = s.paused := rfl
@[simp] theorem State.setCx_lf (s : State) (n : Nat) (c : Ctx) : (s.setCx n c).lf = s.lf := rfl
@[simp] theorem State.setCx_free (s : State) (n : Nat) (c : Ctx) : (s.setCx n c).free = s.free := rfl
@[simp] theorem State.setCx_pending (s : State) (n : Nat) (c : Ctx) : (s.setCx n c).pending = s.pending := rfl

/-! ### State.setEngine -/

@[simp] theorem State.setEngine_fuse (s : State) (n : Nat) (e : Eng) : (s.setEngine n e).fuse = s.fuse := rfl
@[simp] theorem State.setEngine_pin (s : State) (n : Nat) (e : Eng) : (s.setEngine n e).pin = s.pin := rfl
@[simp] theorem State.setEngine_clk (s : State) (n : Nat) (e : Eng) : (s.setEngine n e).clk = s.clk := rfl
@[simp] theorem State.setEngine_regs (s : State) (n : Nat) (e : Eng) : (s.setEngine n e).regs = s.regs := rfl
@[simp] theorem State.setEngine_latch (s : State) (n : Nat) (e : Eng) : (s.setEngine n e).latch = s.latch := rfl
@[simp] theorem State.setEngine_rcOld (s : State) (n : Nat) (e : Eng) : (s.setEngine n e).rcOld = s.rcOld := rfl
@[simp] theorem State.setEngine_bus (s : State) (n : Nat) (e : Eng) : (s.setEngine n e).bus = s.bus := rfl
@[simp] theorem State.setEngine_mem (s : State) (n : Nat) (e : Eng) : (s.setEngine n e).mem = s.mem := rfl
@[simp] theorem State.setEngine_lat (s : State) (n : Nat) (e : Eng) : (s.setEngine n e).lat = s.lat := rfl
@[simp] theorem State.setEngine_tg (s : State) (n : Nat) (e : Eng) : (s.setEngine n e).tg = s.tg := rfl
@[simp] theorem State.setEngine_lanes (s : State) (n : Nat) (e : Eng) : (s.setEngine n e).lanes = s.lanes := rfl
@[simp] theorem State.setEngine_eth (s : State) (n : Nat) (e : Eng) : (s.setEngine n e).eth = s.eth := rfl
@[simp] theorem State.setEngine_pa (s : State) (n : Nat) (e : Eng) : (s.setEngine n e).pa = s.pa := rfl
@[simp] theorem State.setEngine_nen (s : State) (n : Nat) (e : Eng) : (s.setEngine n e).nen = s.nen := rfl
@[simp] theorem State.setEngine_host (s : State) (n : Nat) (e : Eng) : (s.setEngine n e).host = s.host := rfl
@[simp] theorem State.setEngine_stages (s : State) (n : Nat) (e : Eng) : (s.setEngine n e).stages = s.stages := rfl
@[simp] theorem State.setEngine_out (s : State) (n : Nat) (e : Eng) : (s.setEngine n e).out = s.out := rfl
@[simp] theorem State.setEngine_pwr (s : State) (n : Nat) (e : Eng) : (s.setEngine n e).pwr = s.pwr := rfl
@[simp] theorem State.setEngine_se (s : State) (n : Nat) (e : Eng) : (s.setEngine n e).se = s.se := rfl
@[simp] theorem State.setEngine_rv (s : State) (n : Nat) (e : Eng) : (s.setEngine n e).rv = s.rv := rfl
@[simp] theorem State.setEngine_dbg (s : State) (n : Nat) (e : Eng) : (s.setEngine n e).dbg = s.dbg := rfl
@[simp] theorem State.setEngine_paused (s : State) (n : Nat) (e : Eng) : (s.setEngine n e).paused = s.paused := rfl
@[simp] theorem State.setEngine_lf (s : State) (n : Nat) (e : Eng) : (s.setEngine n e).lf = s.lf := rfl
@[simp] theorem State.setEngine_free (s : State) (n : Nat) (e : Eng) : (s.setEngine n e).free = s.free := rfl
@[simp] theorem State.setEngine_pending (s : State) (n : Nat) (e : Eng) : (s.setEngine n e).pending = s.pending := rfl

/-! ### State.setChan -/

@[simp] theorem State.setChan_fuse (s : State) (n : Nat) (c : Chan) : (s.setChan n c).fuse = s.fuse := rfl
@[simp] theorem State.setChan_pin (s : State) (n : Nat) (c : Chan) : (s.setChan n c).pin = s.pin := rfl
@[simp] theorem State.setChan_clk (s : State) (n : Nat) (c : Chan) : (s.setChan n c).clk = s.clk := rfl
@[simp] theorem State.setChan_regs (s : State) (n : Nat) (c : Chan) : (s.setChan n c).regs = s.regs := rfl
@[simp] theorem State.setChan_latch (s : State) (n : Nat) (c : Chan) : (s.setChan n c).latch = s.latch := rfl
@[simp] theorem State.setChan_rcOld (s : State) (n : Nat) (c : Chan) : (s.setChan n c).rcOld = s.rcOld := rfl
@[simp] theorem State.setChan_bus (s : State) (n : Nat) (c : Chan) : (s.setChan n c).bus = s.bus := rfl
@[simp] theorem State.setChan_mem (s : State) (n : Nat) (c : Chan) : (s.setChan n c).mem = s.mem := rfl
@[simp] theorem State.setChan_lat (s : State) (n : Nat) (c : Chan) : (s.setChan n c).lat = s.lat := rfl
@[simp] theorem State.setChan_eng (s : State) (n : Nat) (c : Chan) : (s.setChan n c).eng = s.eng := rfl
@[simp] theorem State.setChan_lanes (s : State) (n : Nat) (c : Chan) : (s.setChan n c).lanes = s.lanes := rfl
@[simp] theorem State.setChan_eth (s : State) (n : Nat) (c : Chan) : (s.setChan n c).eth = s.eth := rfl
@[simp] theorem State.setChan_pa (s : State) (n : Nat) (c : Chan) : (s.setChan n c).pa = s.pa := rfl
@[simp] theorem State.setChan_nen (s : State) (n : Nat) (c : Chan) : (s.setChan n c).nen = s.nen := rfl
@[simp] theorem State.setChan_host (s : State) (n : Nat) (c : Chan) : (s.setChan n c).host = s.host := rfl
@[simp] theorem State.setChan_stages (s : State) (n : Nat) (c : Chan) : (s.setChan n c).stages = s.stages := rfl
@[simp] theorem State.setChan_out (s : State) (n : Nat) (c : Chan) : (s.setChan n c).out = s.out := rfl
@[simp] theorem State.setChan_pwr (s : State) (n : Nat) (c : Chan) : (s.setChan n c).pwr = s.pwr := rfl
@[simp] theorem State.setChan_se (s : State) (n : Nat) (c : Chan) : (s.setChan n c).se = s.se := rfl
@[simp] theorem State.setChan_rv (s : State) (n : Nat) (c : Chan) : (s.setChan n c).rv = s.rv := rfl
@[simp] theorem State.setChan_dbg (s : State) (n : Nat) (c : Chan) : (s.setChan n c).dbg = s.dbg := rfl
@[simp] theorem State.setChan_paused (s : State) (n : Nat) (c : Chan) : (s.setChan n c).paused = s.paused := rfl
@[simp] theorem State.setChan_lf (s : State) (n : Nat) (c : Chan) : (s.setChan n c).lf = s.lf := rfl
@[simp] theorem State.setChan_free (s : State) (n : Nat) (c : Chan) : (s.setChan n c).free = s.free := rfl
@[simp] theorem State.setChan_pending (s : State) (n : Nat) (c : Chan) : (s.setChan n c).pending = s.pending := rfl

/-! ### State.setComb -/

@[simp] theorem State.setComb_fuse (s : State) (n : Nat) (c : Comb) : (s.setComb n c).fuse = s.fuse := rfl
@[simp] theorem State.setComb_pin (s : State) (n : Nat) (c : Comb) : (s.setComb n c).pin = s.pin := rfl
@[simp] theorem State.setComb_clk (s : State) (n : Nat) (c : Comb) : (s.setComb n c).clk = s.clk := rfl
@[simp] theorem State.setComb_regs (s : State) (n : Nat) (c : Comb) : (s.setComb n c).regs = s.regs := rfl
@[simp] theorem State.setComb_latch (s : State) (n : Nat) (c : Comb) : (s.setComb n c).latch = s.latch := rfl
@[simp] theorem State.setComb_rcOld (s : State) (n : Nat) (c : Comb) : (s.setComb n c).rcOld = s.rcOld := rfl
@[simp] theorem State.setComb_bus (s : State) (n : Nat) (c : Comb) : (s.setComb n c).bus = s.bus := rfl
@[simp] theorem State.setComb_mem (s : State) (n : Nat) (c : Comb) : (s.setComb n c).mem = s.mem := rfl
@[simp] theorem State.setComb_lat (s : State) (n : Nat) (c : Comb) : (s.setComb n c).lat = s.lat := rfl
@[simp] theorem State.setComb_eng (s : State) (n : Nat) (c : Comb) : (s.setComb n c).eng = s.eng := rfl
@[simp] theorem State.setComb_lanes (s : State) (n : Nat) (c : Comb) : (s.setComb n c).lanes = s.lanes := rfl
@[simp] theorem State.setComb_eth (s : State) (n : Nat) (c : Comb) : (s.setComb n c).eth = s.eth := rfl
@[simp] theorem State.setComb_pa (s : State) (n : Nat) (c : Comb) : (s.setComb n c).pa = s.pa := rfl
@[simp] theorem State.setComb_nen (s : State) (n : Nat) (c : Comb) : (s.setComb n c).nen = s.nen := rfl
@[simp] theorem State.setComb_host (s : State) (n : Nat) (c : Comb) : (s.setComb n c).host = s.host := rfl
@[simp] theorem State.setComb_stages (s : State) (n : Nat) (c : Comb) : (s.setComb n c).stages = s.stages := rfl
@[simp] theorem State.setComb_out (s : State) (n : Nat) (c : Comb) : (s.setComb n c).out = s.out := rfl
@[simp] theorem State.setComb_pwr (s : State) (n : Nat) (c : Comb) : (s.setComb n c).pwr = s.pwr := rfl
@[simp] theorem State.setComb_se (s : State) (n : Nat) (c : Comb) : (s.setComb n c).se = s.se := rfl
@[simp] theorem State.setComb_rv (s : State) (n : Nat) (c : Comb) : (s.setComb n c).rv = s.rv := rfl
@[simp] theorem State.setComb_dbg (s : State) (n : Nat) (c : Comb) : (s.setComb n c).dbg = s.dbg := rfl
@[simp] theorem State.setComb_paused (s : State) (n : Nat) (c : Comb) : (s.setComb n c).paused = s.paused := rfl
@[simp] theorem State.setComb_lf (s : State) (n : Nat) (c : Comb) : (s.setComb n c).lf = s.lf := rfl
@[simp] theorem State.setComb_free (s : State) (n : Nat) (c : Comb) : (s.setComb n c).free = s.free := rfl
@[simp] theorem State.setComb_pending (s : State) (n : Nat) (c : Comb) : (s.setComb n c).pending = s.pending := rfl

/-! ### State.setStrm -/

@[simp] theorem State.setStrm_fuse (s : State) (n : Nat) (c : Strm) : (s.setStrm n c).fuse = s.fuse := rfl
@[simp] theorem State.setStrm_pin (s : State) (n : Nat) (c : Strm) : (s.setStrm n c).pin = s.pin := rfl
@[simp] theorem State.setStrm_clk (s : State) (n : Nat) (c : Strm) : (s.setStrm n c).clk = s.clk := rfl
@[simp] theorem State.setStrm_regs (s : State) (n : Nat) (c : Strm) : (s.setStrm n c).regs = s.regs := rfl
@[simp] theorem State.setStrm_latch (s : State) (n : Nat) (c : Strm) : (s.setStrm n c).latch = s.latch := rfl
@[simp] theorem State.setStrm_rcOld (s : State) (n : Nat) (c : Strm) : (s.setStrm n c).rcOld = s.rcOld := rfl
@[simp] theorem State.setStrm_bus (s : State) (n : Nat) (c : Strm) : (s.setStrm n c).bus = s.bus := rfl
@[simp] theorem State.setStrm_mem (s : State) (n : Nat) (c : Strm) : (s.setStrm n c).mem = s.mem := rfl
@[simp] theorem State.setStrm_lat (s : State) (n : Nat) (c : Strm) : (s.setStrm n c).lat = s.lat := rfl
@[simp] theorem State.setStrm_eng (s : State) (n : Nat) (c : Strm) : (s.setStrm n c).eng = s.eng := rfl
@[simp] theorem State.setStrm_lanes (s : State) (n : Nat) (c : Strm) : (s.setStrm n c).lanes = s.lanes := rfl
@[simp] theorem State.setStrm_eth (s : State) (n : Nat) (c : Strm) : (s.setStrm n c).eth = s.eth := rfl
@[simp] theorem State.setStrm_pa (s : State) (n : Nat) (c : Strm) : (s.setStrm n c).pa = s.pa := rfl
@[simp] theorem State.setStrm_nen (s : State) (n : Nat) (c : Strm) : (s.setStrm n c).nen = s.nen := rfl
@[simp] theorem State.setStrm_host (s : State) (n : Nat) (c : Strm) : (s.setStrm n c).host = s.host := rfl
@[simp] theorem State.setStrm_stages (s : State) (n : Nat) (c : Strm) : (s.setStrm n c).stages = s.stages := rfl
@[simp] theorem State.setStrm_out (s : State) (n : Nat) (c : Strm) : (s.setStrm n c).out = s.out := rfl
@[simp] theorem State.setStrm_pwr (s : State) (n : Nat) (c : Strm) : (s.setStrm n c).pwr = s.pwr := rfl
@[simp] theorem State.setStrm_se (s : State) (n : Nat) (c : Strm) : (s.setStrm n c).se = s.se := rfl
@[simp] theorem State.setStrm_rv (s : State) (n : Nat) (c : Strm) : (s.setStrm n c).rv = s.rv := rfl
@[simp] theorem State.setStrm_dbg (s : State) (n : Nat) (c : Strm) : (s.setStrm n c).dbg = s.dbg := rfl
@[simp] theorem State.setStrm_paused (s : State) (n : Nat) (c : Strm) : (s.setStrm n c).paused = s.paused := rfl
@[simp] theorem State.setStrm_lf (s : State) (n : Nat) (c : Strm) : (s.setStrm n c).lf = s.lf := rfl
@[simp] theorem State.setStrm_free (s : State) (n : Nat) (c : Strm) : (s.setStrm n c).free = s.free := rfl
@[simp] theorem State.setStrm_pending (s : State) (n : Nat) (c : Strm) : (s.setStrm n c).pending = s.pending := rfl

/-! ### State.setNetOut -/

@[simp] theorem State.setNetOut_fuse (s : State) (n : Nat) (c : NetOut) : (s.setNetOut n c).fuse = s.fuse := rfl
@[simp] theorem State.setNetOut_pin (s : State) (n : Nat) (c : NetOut) : (s.setNetOut n c).pin = s.pin := rfl
@[simp] theorem State.setNetOut_clk (s : State) (n : Nat) (c : NetOut) : (s.setNetOut n c).clk = s.clk := rfl
@[simp] theorem State.setNetOut_regs (s : State) (n : Nat) (c : NetOut) : (s.setNetOut n c).regs = s.regs := rfl
@[simp] theorem State.setNetOut_latch (s : State) (n : Nat) (c : NetOut) : (s.setNetOut n c).latch = s.latch := rfl
@[simp] theorem State.setNetOut_rcOld (s : State) (n : Nat) (c : NetOut) : (s.setNetOut n c).rcOld = s.rcOld := rfl
@[simp] theorem State.setNetOut_bus (s : State) (n : Nat) (c : NetOut) : (s.setNetOut n c).bus = s.bus := rfl
@[simp] theorem State.setNetOut_mem (s : State) (n : Nat) (c : NetOut) : (s.setNetOut n c).mem = s.mem := rfl
@[simp] theorem State.setNetOut_lat (s : State) (n : Nat) (c : NetOut) : (s.setNetOut n c).lat = s.lat := rfl
@[simp] theorem State.setNetOut_eng (s : State) (n : Nat) (c : NetOut) : (s.setNetOut n c).eng = s.eng := rfl
@[simp] theorem State.setNetOut_lanes (s : State) (n : Nat) (c : NetOut) : (s.setNetOut n c).lanes = s.lanes := rfl
@[simp] theorem State.setNetOut_eth (s : State) (n : Nat) (c : NetOut) : (s.setNetOut n c).eth = s.eth := rfl
@[simp] theorem State.setNetOut_pa (s : State) (n : Nat) (c : NetOut) : (s.setNetOut n c).pa = s.pa := rfl
@[simp] theorem State.setNetOut_nen (s : State) (n : Nat) (c : NetOut) : (s.setNetOut n c).nen = s.nen := rfl
@[simp] theorem State.setNetOut_host (s : State) (n : Nat) (c : NetOut) : (s.setNetOut n c).host = s.host := rfl
@[simp] theorem State.setNetOut_stages (s : State) (n : Nat) (c : NetOut) : (s.setNetOut n c).stages = s.stages := rfl
@[simp] theorem State.setNetOut_out (s : State) (n : Nat) (c : NetOut) : (s.setNetOut n c).out = s.out := rfl
@[simp] theorem State.setNetOut_pwr (s : State) (n : Nat) (c : NetOut) : (s.setNetOut n c).pwr = s.pwr := rfl
@[simp] theorem State.setNetOut_se (s : State) (n : Nat) (c : NetOut) : (s.setNetOut n c).se = s.se := rfl
@[simp] theorem State.setNetOut_rv (s : State) (n : Nat) (c : NetOut) : (s.setNetOut n c).rv = s.rv := rfl
@[simp] theorem State.setNetOut_dbg (s : State) (n : Nat) (c : NetOut) : (s.setNetOut n c).dbg = s.dbg := rfl
@[simp] theorem State.setNetOut_paused (s : State) (n : Nat) (c : NetOut) : (s.setNetOut n c).paused = s.paused := rfl
@[simp] theorem State.setNetOut_lf (s : State) (n : Nat) (c : NetOut) : (s.setNetOut n c).lf = s.lf := rfl
@[simp] theorem State.setNetOut_free (s : State) (n : Nat) (c : NetOut) : (s.setNetOut n c).free = s.free := rfl
@[simp] theorem State.setNetOut_pending (s : State) (n : Nat) (c : NetOut) : (s.setNetOut n c).pending = s.pending := rfl

/-! ### State.setLane -/

@[simp] theorem State.setLane_fuse (s : State) (n : Nat) (l : Lane) : (s.setLane n l).fuse = s.fuse := rfl
@[simp] theorem State.setLane_pin (s : State) (n : Nat) (l : Lane) : (s.setLane n l).pin = s.pin := rfl
@[simp] theorem State.setLane_clk (s : State) (n : Nat) (l : Lane) : (s.setLane n l).clk = s.clk := rfl
@[simp] theorem State.setLane_regs (s : State) (n : Nat) (l : Lane) : (s.setLane n l).regs = s.regs := rfl
@[simp] theorem State.setLane_latch (s : State) (n : Nat) (l : Lane) : (s.setLane n l).latch = s.latch := rfl
@[simp] theorem State.setLane_rcOld (s : State) (n : Nat) (l : Lane) : (s.setLane n l).rcOld = s.rcOld := rfl
@[simp] theorem State.setLane_bus (s : State) (n : Nat) (l : Lane) : (s.setLane n l).bus = s.bus := rfl
@[simp] theorem State.setLane_mem (s : State) (n : Nat) (l : Lane) : (s.setLane n l).mem = s.mem := rfl
@[simp] theorem State.setLane_lat (s : State) (n : Nat) (l : Lane) : (s.setLane n l).lat = s.lat := rfl
@[simp] theorem State.setLane_eng (s : State) (n : Nat) (l : Lane) : (s.setLane n l).eng = s.eng := rfl
@[simp] theorem State.setLane_tg (s : State) (n : Nat) (l : Lane) : (s.setLane n l).tg = s.tg := rfl
@[simp] theorem State.setLane_eth (s : State) (n : Nat) (l : Lane) : (s.setLane n l).eth = s.eth := rfl
@[simp] theorem State.setLane_pa (s : State) (n : Nat) (l : Lane) : (s.setLane n l).pa = s.pa := rfl
@[simp] theorem State.setLane_nen (s : State) (n : Nat) (l : Lane) : (s.setLane n l).nen = s.nen := rfl
@[simp] theorem State.setLane_host (s : State) (n : Nat) (l : Lane) : (s.setLane n l).host = s.host := rfl
@[simp] theorem State.setLane_stages (s : State) (n : Nat) (l : Lane) : (s.setLane n l).stages = s.stages := rfl
@[simp] theorem State.setLane_out (s : State) (n : Nat) (l : Lane) : (s.setLane n l).out = s.out := rfl
@[simp] theorem State.setLane_pwr (s : State) (n : Nat) (l : Lane) : (s.setLane n l).pwr = s.pwr := rfl
@[simp] theorem State.setLane_se (s : State) (n : Nat) (l : Lane) : (s.setLane n l).se = s.se := rfl
@[simp] theorem State.setLane_rv (s : State) (n : Nat) (l : Lane) : (s.setLane n l).rv = s.rv := rfl
@[simp] theorem State.setLane_dbg (s : State) (n : Nat) (l : Lane) : (s.setLane n l).dbg = s.dbg := rfl
@[simp] theorem State.setLane_paused (s : State) (n : Nat) (l : Lane) : (s.setLane n l).paused = s.paused := rfl
@[simp] theorem State.setLane_lf (s : State) (n : Nat) (l : Lane) : (s.setLane n l).lf = s.lf := rfl
@[simp] theorem State.setLane_free (s : State) (n : Nat) (l : Lane) : (s.setLane n l).free = s.free := rfl
@[simp] theorem State.setLane_pending (s : State) (n : Nat) (l : Lane) : (s.setLane n l).pending = s.pending := rfl

/-! ### State.setEp -/

@[simp] theorem State.setEp_fuse (s : State) (n : Nat) (p : EPort) : (s.setEp n p).fuse = s.fuse := rfl
@[simp] theorem State.setEp_pin (s : State) (n : Nat) (p : EPort) : (s.setEp n p).pin = s.pin := rfl
@[simp] theorem State.setEp_clk (s : State) (n : Nat) (p : EPort) : (s.setEp n p).clk = s.clk := rfl
@[simp] theorem State.setEp_regs (s : State) (n : Nat) (p : EPort) : (s.setEp n p).regs = s.regs := rfl
@[simp] theorem State.setEp_latch (s : State) (n : Nat) (p : EPort) : (s.setEp n p).latch = s.latch := rfl
@[simp] theorem State.setEp_rcOld (s : State) (n : Nat) (p : EPort) : (s.setEp n p).rcOld = s.rcOld := rfl
@[simp] theorem State.setEp_bus (s : State) (n : Nat) (p : EPort) : (s.setEp n p).bus = s.bus := rfl
@[simp] theorem State.setEp_mem (s : State) (n : Nat) (p : EPort) : (s.setEp n p).mem = s.mem := rfl
@[simp] theorem State.setEp_lat (s : State) (n : Nat) (p : EPort) : (s.setEp n p).lat = s.lat := rfl
@[simp] theorem State.setEp_eng (s : State) (n : Nat) (p : EPort) : (s.setEp n p).eng = s.eng := rfl
@[simp] theorem State.setEp_tg (s : State) (n : Nat) (p : EPort) : (s.setEp n p).tg = s.tg := rfl
@[simp] theorem State.setEp_lanes (s : State) (n : Nat) (p : EPort) : (s.setEp n p).lanes = s.lanes := rfl
@[simp] theorem State.setEp_pa (s : State) (n : Nat) (p : EPort) : (s.setEp n p).pa = s.pa := rfl
@[simp] theorem State.setEp_nen (s : State) (n : Nat) (p : EPort) : (s.setEp n p).nen = s.nen := rfl
@[simp] theorem State.setEp_host (s : State) (n : Nat) (p : EPort) : (s.setEp n p).host = s.host := rfl
@[simp] theorem State.setEp_stages (s : State) (n : Nat) (p : EPort) : (s.setEp n p).stages = s.stages := rfl
@[simp] theorem State.setEp_out (s : State) (n : Nat) (p : EPort) : (s.setEp n p).out = s.out := rfl
@[simp] theorem State.setEp_pwr (s : State) (n : Nat) (p : EPort) : (s.setEp n p).pwr = s.pwr := rfl
@[simp] theorem State.setEp_se (s : State) (n : Nat) (p : EPort) : (s.setEp n p).se = s.se := rfl
@[simp] theorem State.setEp_rv (s : State) (n : Nat) (p : EPort) : (s.setEp n p).rv = s.rv := rfl
@[simp] theorem State.setEp_dbg (s : State) (n : Nat) (p : EPort) : (s.setEp n p).dbg = s.dbg := rfl
@[simp] theorem State.setEp_paused (s : State) (n : Nat) (p : EPort) : (s.setEp n p).paused = s.paused := rfl
@[simp] theorem State.setEp_lf (s : State) (n : Nat) (p : EPort) : (s.setEp n p).lf = s.lf := rfl
@[simp] theorem State.setEp_free (s : State) (n : Nat) (p : EPort) : (s.setEp n p).free = s.free := rfl
@[simp] theorem State.setEp_pending (s : State) (n : Nat) (p : EPort) : (s.setEp n p).pending = s.pending := rfl

/-! ### State.setPctx -/

@[simp] theorem State.setPctx_fuse (s : State) (n : Nat) (c : PCtx) : (s.setPctx n c).fuse = s.fuse := rfl
@[simp] theorem State.setPctx_pin (s : State) (n : Nat) (c : PCtx) : (s.setPctx n c).pin = s.pin := rfl
@[simp] theorem State.setPctx_clk (s : State) (n : Nat) (c : PCtx) : (s.setPctx n c).clk = s.clk := rfl
@[simp] theorem State.setPctx_regs (s : State) (n : Nat) (c : PCtx) : (s.setPctx n c).regs = s.regs := rfl
@[simp] theorem State.setPctx_latch (s : State) (n : Nat) (c : PCtx) : (s.setPctx n c).latch = s.latch := rfl
@[simp] theorem State.setPctx_rcOld (s : State) (n : Nat) (c : PCtx) : (s.setPctx n c).rcOld = s.rcOld := rfl
@[simp] theorem State.setPctx_bus (s : State) (n : Nat) (c : PCtx) : (s.setPctx n c).bus = s.bus := rfl
@[simp] theorem State.setPctx_mem (s : State) (n : Nat) (c : PCtx) : (s.setPctx n c).mem = s.mem := rfl
@[simp] theorem State.setPctx_lat (s : State) (n : Nat) (c : PCtx) : (s.setPctx n c).lat = s.lat := rfl
@[simp] theorem State.setPctx_eng (s : State) (n : Nat) (c : PCtx) : (s.setPctx n c).eng = s.eng := rfl
@[simp] theorem State.setPctx_tg (s : State) (n : Nat) (c : PCtx) : (s.setPctx n c).tg = s.tg := rfl
@[simp] theorem State.setPctx_lanes (s : State) (n : Nat) (c : PCtx) : (s.setPctx n c).lanes = s.lanes := rfl
@[simp] theorem State.setPctx_eth (s : State) (n : Nat) (c : PCtx) : (s.setPctx n c).eth = s.eth := rfl
@[simp] theorem State.setPctx_nen (s : State) (n : Nat) (c : PCtx) : (s.setPctx n c).nen = s.nen := rfl
@[simp] theorem State.setPctx_host (s : State) (n : Nat) (c : PCtx) : (s.setPctx n c).host = s.host := rfl
@[simp] theorem State.setPctx_stages (s : State) (n : Nat) (c : PCtx) : (s.setPctx n c).stages = s.stages := rfl
@[simp] theorem State.setPctx_out (s : State) (n : Nat) (c : PCtx) : (s.setPctx n c).out = s.out := rfl
@[simp] theorem State.setPctx_pwr (s : State) (n : Nat) (c : PCtx) : (s.setPctx n c).pwr = s.pwr := rfl
@[simp] theorem State.setPctx_se (s : State) (n : Nat) (c : PCtx) : (s.setPctx n c).se = s.se := rfl
@[simp] theorem State.setPctx_rv (s : State) (n : Nat) (c : PCtx) : (s.setPctx n c).rv = s.rv := rfl
@[simp] theorem State.setPctx_dbg (s : State) (n : Nat) (c : PCtx) : (s.setPctx n c).dbg = s.dbg := rfl
@[simp] theorem State.setPctx_paused (s : State) (n : Nat) (c : PCtx) : (s.setPctx n c).paused = s.paused := rfl
@[simp] theorem State.setPctx_lf (s : State) (n : Nat) (c : PCtx) : (s.setPctx n c).lf = s.lf := rfl
@[simp] theorem State.setPctx_free (s : State) (n : Nat) (c : PCtx) : (s.setPctx n c).free = s.free := rfl
@[simp] theorem State.setPctx_pending (s : State) (n : Nat) (c : PCtx) : (s.setPctx n c).pending = s.pending := rfl

/-! ### State.setNp -/

@[simp] theorem State.setNp_fuse (s : State) (n : Nat) (p : NPort) : (s.setNp n p).fuse = s.fuse := rfl
@[simp] theorem State.setNp_pin (s : State) (n : Nat) (p : NPort) : (s.setNp n p).pin = s.pin := rfl
@[simp] theorem State.setNp_clk (s : State) (n : Nat) (p : NPort) : (s.setNp n p).clk = s.clk := rfl
@[simp] theorem State.setNp_regs (s : State) (n : Nat) (p : NPort) : (s.setNp n p).regs = s.regs := rfl
@[simp] theorem State.setNp_latch (s : State) (n : Nat) (p : NPort) : (s.setNp n p).latch = s.latch := rfl
@[simp] theorem State.setNp_rcOld (s : State) (n : Nat) (p : NPort) : (s.setNp n p).rcOld = s.rcOld := rfl
@[simp] theorem State.setNp_bus (s : State) (n : Nat) (p : NPort) : (s.setNp n p).bus = s.bus := rfl
@[simp] theorem State.setNp_mem (s : State) (n : Nat) (p : NPort) : (s.setNp n p).mem = s.mem := rfl
@[simp] theorem State.setNp_lat (s : State) (n : Nat) (p : NPort) : (s.setNp n p).lat = s.lat := rfl
@[simp] theorem State.setNp_eng (s : State) (n : Nat) (p : NPort) : (s.setNp n p).eng = s.eng := rfl
@[simp] theorem State.setNp_tg (s : State) (n : Nat) (p : NPort) : (s.setNp n p).tg = s.tg := rfl
@[simp] theorem State.setNp_lanes (s : State) (n : Nat) (p : NPort) : (s.setNp n p).lanes = s.lanes := rfl
@[simp] theorem State.setNp_eth (s : State) (n : Nat) (p : NPort) : (s.setNp n p).eth = s.eth := rfl
@[simp] theorem State.setNp_pa (s : State) (n : Nat) (p : NPort) : (s.setNp n p).pa = s.pa := rfl
@[simp] theorem State.setNp_host (s : State) (n : Nat) (p : NPort) : (s.setNp n p).host = s.host := rfl
@[simp] theorem State.setNp_stages (s : State) (n : Nat) (p : NPort) : (s.setNp n p).stages = s.stages := rfl
@[simp] theorem State.setNp_out (s : State) (n : Nat) (p : NPort) : (s.setNp n p).out = s.out := rfl
@[simp] theorem State.setNp_pwr (s : State) (n : Nat) (p : NPort) : (s.setNp n p).pwr = s.pwr := rfl
@[simp] theorem State.setNp_se (s : State) (n : Nat) (p : NPort) : (s.setNp n p).se = s.se := rfl
@[simp] theorem State.setNp_rv (s : State) (n : Nat) (p : NPort) : (s.setNp n p).rv = s.rv := rfl
@[simp] theorem State.setNp_dbg (s : State) (n : Nat) (p : NPort) : (s.setNp n p).dbg = s.dbg := rfl
@[simp] theorem State.setNp_paused (s : State) (n : Nat) (p : NPort) : (s.setNp n p).paused = s.paused := rfl
@[simp] theorem State.setNp_lf (s : State) (n : Nat) (p : NPort) : (s.setNp n p).lf = s.lf := rfl
@[simp] theorem State.setNp_free (s : State) (n : Nat) (p : NPort) : (s.setNp n p).free = s.free := rfl
@[simp] theorem State.setNp_pending (s : State) (n : Nat) (p : NPort) : (s.setNp n p).pending = s.pending := rfl

/-! ### State.setRing -/

@[simp] theorem State.setRing_fuse (s : State) (n : Nat) (r : Ring) : (s.setRing n r).fuse = s.fuse := rfl
@[simp] theorem State.setRing_pin (s : State) (n : Nat) (r : Ring) : (s.setRing n r).pin = s.pin := rfl
@[simp] theorem State.setRing_clk (s : State) (n : Nat) (r : Ring) : (s.setRing n r).clk = s.clk := rfl
@[simp] theorem State.setRing_regs (s : State) (n : Nat) (r : Ring) : (s.setRing n r).regs = s.regs := rfl
@[simp] theorem State.setRing_latch (s : State) (n : Nat) (r : Ring) : (s.setRing n r).latch = s.latch := rfl
@[simp] theorem State.setRing_rcOld (s : State) (n : Nat) (r : Ring) : (s.setRing n r).rcOld = s.rcOld := rfl
@[simp] theorem State.setRing_bus (s : State) (n : Nat) (r : Ring) : (s.setRing n r).bus = s.bus := rfl
@[simp] theorem State.setRing_mem (s : State) (n : Nat) (r : Ring) : (s.setRing n r).mem = s.mem := rfl
@[simp] theorem State.setRing_lat (s : State) (n : Nat) (r : Ring) : (s.setRing n r).lat = s.lat := rfl
@[simp] theorem State.setRing_eng (s : State) (n : Nat) (r : Ring) : (s.setRing n r).eng = s.eng := rfl
@[simp] theorem State.setRing_tg (s : State) (n : Nat) (r : Ring) : (s.setRing n r).tg = s.tg := rfl
@[simp] theorem State.setRing_lanes (s : State) (n : Nat) (r : Ring) : (s.setRing n r).lanes = s.lanes := rfl
@[simp] theorem State.setRing_eth (s : State) (n : Nat) (r : Ring) : (s.setRing n r).eth = s.eth := rfl
@[simp] theorem State.setRing_pa (s : State) (n : Nat) (r : Ring) : (s.setRing n r).pa = s.pa := rfl
@[simp] theorem State.setRing_nen (s : State) (n : Nat) (r : Ring) : (s.setRing n r).nen = s.nen := rfl
@[simp] theorem State.setRing_stages (s : State) (n : Nat) (r : Ring) : (s.setRing n r).stages = s.stages := rfl
@[simp] theorem State.setRing_out (s : State) (n : Nat) (r : Ring) : (s.setRing n r).out = s.out := rfl
@[simp] theorem State.setRing_pwr (s : State) (n : Nat) (r : Ring) : (s.setRing n r).pwr = s.pwr := rfl
@[simp] theorem State.setRing_se (s : State) (n : Nat) (r : Ring) : (s.setRing n r).se = s.se := rfl
@[simp] theorem State.setRing_rv (s : State) (n : Nat) (r : Ring) : (s.setRing n r).rv = s.rv := rfl
@[simp] theorem State.setRing_dbg (s : State) (n : Nat) (r : Ring) : (s.setRing n r).dbg = s.dbg := rfl
@[simp] theorem State.setRing_paused (s : State) (n : Nat) (r : Ring) : (s.setRing n r).paused = s.paused := rfl
@[simp] theorem State.setRing_lf (s : State) (n : Nat) (r : Ring) : (s.setRing n r).lf = s.lf := rfl
@[simp] theorem State.setRing_free (s : State) (n : Nat) (r : Ring) : (s.setRing n r).free = s.free := rfl
@[simp] theorem State.setRing_pending (s : State) (n : Nat) (r : Ring) : (s.setRing n r).pending = s.pending := rfl

/-! ### State.setStage -/

@[simp] theorem State.setStage_fuse (s : State) (n : Nat) (e : Stage) : (s.setStage n e).fuse = s.fuse := rfl
@[simp] theorem State.setStage_pin (s : State) (n : Nat) (e : Stage) : (s.setStage n e).pin = s.pin := rfl
@[simp] theorem State.setStage_clk (s : State) (n : Nat) (e : Stage) : (s.setStage n e).clk = s.clk := rfl
@[simp] theorem State.setStage_regs (s : State) (n : Nat) (e : Stage) : (s.setStage n e).regs = s.regs := rfl
@[simp] theorem State.setStage_latch (s : State) (n : Nat) (e : Stage) : (s.setStage n e).latch = s.latch := rfl
@[simp] theorem State.setStage_rcOld (s : State) (n : Nat) (e : Stage) : (s.setStage n e).rcOld = s.rcOld := rfl
@[simp] theorem State.setStage_bus (s : State) (n : Nat) (e : Stage) : (s.setStage n e).bus = s.bus := rfl
@[simp] theorem State.setStage_mem (s : State) (n : Nat) (e : Stage) : (s.setStage n e).mem = s.mem := rfl
@[simp] theorem State.setStage_lat (s : State) (n : Nat) (e : Stage) : (s.setStage n e).lat = s.lat := rfl
@[simp] theorem State.setStage_eng (s : State) (n : Nat) (e : Stage) : (s.setStage n e).eng = s.eng := rfl
@[simp] theorem State.setStage_tg (s : State) (n : Nat) (e : Stage) : (s.setStage n e).tg = s.tg := rfl
@[simp] theorem State.setStage_lanes (s : State) (n : Nat) (e : Stage) : (s.setStage n e).lanes = s.lanes := rfl
@[simp] theorem State.setStage_eth (s : State) (n : Nat) (e : Stage) : (s.setStage n e).eth = s.eth := rfl
@[simp] theorem State.setStage_pa (s : State) (n : Nat) (e : Stage) : (s.setStage n e).pa = s.pa := rfl
@[simp] theorem State.setStage_nen (s : State) (n : Nat) (e : Stage) : (s.setStage n e).nen = s.nen := rfl
@[simp] theorem State.setStage_host (s : State) (n : Nat) (e : Stage) : (s.setStage n e).host = s.host := rfl
@[simp] theorem State.setStage_out (s : State) (n : Nat) (e : Stage) : (s.setStage n e).out = s.out := rfl
@[simp] theorem State.setStage_pwr (s : State) (n : Nat) (e : Stage) : (s.setStage n e).pwr = s.pwr := rfl
@[simp] theorem State.setStage_se (s : State) (n : Nat) (e : Stage) : (s.setStage n e).se = s.se := rfl
@[simp] theorem State.setStage_rv (s : State) (n : Nat) (e : Stage) : (s.setStage n e).rv = s.rv := rfl
@[simp] theorem State.setStage_dbg (s : State) (n : Nat) (e : Stage) : (s.setStage n e).dbg = s.dbg := rfl
@[simp] theorem State.setStage_paused (s : State) (n : Nat) (e : Stage) : (s.setStage n e).paused = s.paused := rfl
@[simp] theorem State.setStage_lf (s : State) (n : Nat) (e : Stage) : (s.setStage n e).lf = s.lf := rfl
@[simp] theorem State.setStage_free (s : State) (n : Nat) (e : Stage) : (s.setStage n e).free = s.free := rfl
@[simp] theorem State.setStage_pending (s : State) (n : Nat) (e : Stage) : (s.setStage n e).pending = s.pending := rfl

/-! ### State.claimDom -/

@[simp] theorem State.claimDom_fuse (s : State) (d : Nat) (on : Bool) : (s.claimDom d on).fuse = s.fuse := by cases on <;> rfl
@[simp] theorem State.claimDom_pin (s : State) (d : Nat) (on : Bool) : (s.claimDom d on).pin = s.pin := by cases on <;> rfl
@[simp] theorem State.claimDom_clk (s : State) (d : Nat) (on : Bool) : (s.claimDom d on).clk = s.clk := by cases on <;> rfl
@[simp] theorem State.claimDom_regs (s : State) (d : Nat) (on : Bool) : (s.claimDom d on).regs = s.regs := by cases on <;> rfl
@[simp] theorem State.claimDom_latch (s : State) (d : Nat) (on : Bool) : (s.claimDom d on).latch = s.latch := by cases on <;> rfl
@[simp] theorem State.claimDom_rcOld (s : State) (d : Nat) (on : Bool) : (s.claimDom d on).rcOld = s.rcOld := by cases on <;> rfl
@[simp] theorem State.claimDom_bus (s : State) (d : Nat) (on : Bool) : (s.claimDom d on).bus = s.bus := by cases on <;> rfl
@[simp] theorem State.claimDom_mem (s : State) (d : Nat) (on : Bool) : (s.claimDom d on).mem = s.mem := by cases on <;> rfl
@[simp] theorem State.claimDom_lat (s : State) (d : Nat) (on : Bool) : (s.claimDom d on).lat = s.lat := by cases on <;> rfl
@[simp] theorem State.claimDom_eng (s : State) (d : Nat) (on : Bool) : (s.claimDom d on).eng = s.eng := by cases on <;> rfl
@[simp] theorem State.claimDom_tg (s : State) (d : Nat) (on : Bool) : (s.claimDom d on).tg = s.tg := by cases on <;> rfl
@[simp] theorem State.claimDom_lanes (s : State) (d : Nat) (on : Bool) : (s.claimDom d on).lanes = s.lanes := by cases on <;> rfl
@[simp] theorem State.claimDom_eth (s : State) (d : Nat) (on : Bool) : (s.claimDom d on).eth = s.eth := by cases on <;> rfl
@[simp] theorem State.claimDom_pa (s : State) (d : Nat) (on : Bool) : (s.claimDom d on).pa = s.pa := by cases on <;> rfl
@[simp] theorem State.claimDom_nen (s : State) (d : Nat) (on : Bool) : (s.claimDom d on).nen = s.nen := by cases on <;> rfl
@[simp] theorem State.claimDom_host (s : State) (d : Nat) (on : Bool) : (s.claimDom d on).host = s.host := by cases on <;> rfl
@[simp] theorem State.claimDom_stages (s : State) (d : Nat) (on : Bool) : (s.claimDom d on).stages = s.stages := by cases on <;> rfl
@[simp] theorem State.claimDom_out (s : State) (d : Nat) (on : Bool) : (s.claimDom d on).out = s.out := by cases on <;> rfl
@[simp] theorem State.claimDom_se (s : State) (d : Nat) (on : Bool) : (s.claimDom d on).se = s.se := by cases on <;> rfl
@[simp] theorem State.claimDom_rv (s : State) (d : Nat) (on : Bool) : (s.claimDom d on).rv = s.rv := by cases on <;> rfl
@[simp] theorem State.claimDom_dbg (s : State) (d : Nat) (on : Bool) : (s.claimDom d on).dbg = s.dbg := by cases on <;> rfl
@[simp] theorem State.claimDom_paused (s : State) (d : Nat) (on : Bool) : (s.claimDom d on).paused = s.paused := by cases on <;> rfl
@[simp] theorem State.claimDom_lf (s : State) (d : Nat) (on : Bool) : (s.claimDom d on).lf = s.lf := by cases on <;> rfl
@[simp] theorem State.claimDom_free (s : State) (d : Nat) (on : Bool) : (s.claimDom d on).free = s.free := by cases on <;> rfl
@[simp] theorem State.claimDom_pending (s : State) (d : Nat) (on : Bool) : (s.claimDom d on).pending = s.pending := by cases on <;> rfl

/-! ### State.useFree -/

@[simp] theorem State.useFree_fuse (s : State) (n : Nat) : (s.useFree n).fuse = s.fuse := rfl
@[simp] theorem State.useFree_pin (s : State) (n : Nat) : (s.useFree n).pin = s.pin := rfl
@[simp] theorem State.useFree_clk (s : State) (n : Nat) : (s.useFree n).clk = s.clk := rfl
@[simp] theorem State.useFree_regs (s : State) (n : Nat) : (s.useFree n).regs = s.regs := rfl
@[simp] theorem State.useFree_latch (s : State) (n : Nat) : (s.useFree n).latch = s.latch := rfl
@[simp] theorem State.useFree_rcOld (s : State) (n : Nat) : (s.useFree n).rcOld = s.rcOld := rfl
@[simp] theorem State.useFree_bus (s : State) (n : Nat) : (s.useFree n).bus = s.bus := rfl
@[simp] theorem State.useFree_mem (s : State) (n : Nat) : (s.useFree n).mem = s.mem := rfl
@[simp] theorem State.useFree_lat (s : State) (n : Nat) : (s.useFree n).lat = s.lat := rfl
@[simp] theorem State.useFree_eng (s : State) (n : Nat) : (s.useFree n).eng = s.eng := rfl
@[simp] theorem State.useFree_tg (s : State) (n : Nat) : (s.useFree n).tg = s.tg := rfl
@[simp] theorem State.useFree_lanes (s : State) (n : Nat) : (s.useFree n).lanes = s.lanes := rfl
@[simp] theorem State.useFree_eth (s : State) (n : Nat) : (s.useFree n).eth = s.eth := rfl
@[simp] theorem State.useFree_pa (s : State) (n : Nat) : (s.useFree n).pa = s.pa := rfl
@[simp] theorem State.useFree_nen (s : State) (n : Nat) : (s.useFree n).nen = s.nen := rfl
@[simp] theorem State.useFree_host (s : State) (n : Nat) : (s.useFree n).host = s.host := rfl
@[simp] theorem State.useFree_stages (s : State) (n : Nat) : (s.useFree n).stages = s.stages := rfl
@[simp] theorem State.useFree_out (s : State) (n : Nat) : (s.useFree n).out = s.out := rfl
@[simp] theorem State.useFree_pwr (s : State) (n : Nat) : (s.useFree n).pwr = s.pwr := rfl
@[simp] theorem State.useFree_se (s : State) (n : Nat) : (s.useFree n).se = s.se := rfl
@[simp] theorem State.useFree_rv (s : State) (n : Nat) : (s.useFree n).rv = s.rv := rfl
@[simp] theorem State.useFree_dbg (s : State) (n : Nat) : (s.useFree n).dbg = s.dbg := rfl
@[simp] theorem State.useFree_paused (s : State) (n : Nat) : (s.useFree n).paused = s.paused := rfl
@[simp] theorem State.useFree_lf (s : State) (n : Nat) : (s.useFree n).lf = s.lf := rfl
@[simp] theorem State.useFree_pending (s : State) (n : Nat) : (s.useFree n).pending = s.pending := rfl

/-! ### State.setBytes -/

@[simp] theorem State.setBytes_fuse (s : State) (a : Nat) (l : List Byte) : (s.setBytes a l).fuse = s.fuse := rfl
@[simp] theorem State.setBytes_pin (s : State) (a : Nat) (l : List Byte) : (s.setBytes a l).pin = s.pin := rfl
@[simp] theorem State.setBytes_clk (s : State) (a : Nat) (l : List Byte) : (s.setBytes a l).clk = s.clk := rfl
@[simp] theorem State.setBytes_regs (s : State) (a : Nat) (l : List Byte) : (s.setBytes a l).regs = s.regs := rfl
@[simp] theorem State.setBytes_latch (s : State) (a : Nat) (l : List Byte) : (s.setBytes a l).latch = s.latch := rfl
@[simp] theorem State.setBytes_rcOld (s : State) (a : Nat) (l : List Byte) : (s.setBytes a l).rcOld = s.rcOld := rfl
@[simp] theorem State.setBytes_bus (s : State) (a : Nat) (l : List Byte) : (s.setBytes a l).bus = s.bus := rfl
@[simp] theorem State.setBytes_lat (s : State) (a : Nat) (l : List Byte) : (s.setBytes a l).lat = s.lat := rfl
@[simp] theorem State.setBytes_eng (s : State) (a : Nat) (l : List Byte) : (s.setBytes a l).eng = s.eng := rfl
@[simp] theorem State.setBytes_tg (s : State) (a : Nat) (l : List Byte) : (s.setBytes a l).tg = s.tg := rfl
@[simp] theorem State.setBytes_lanes (s : State) (a : Nat) (l : List Byte) : (s.setBytes a l).lanes = s.lanes := rfl
@[simp] theorem State.setBytes_eth (s : State) (a : Nat) (l : List Byte) : (s.setBytes a l).eth = s.eth := rfl
@[simp] theorem State.setBytes_pa (s : State) (a : Nat) (l : List Byte) : (s.setBytes a l).pa = s.pa := rfl
@[simp] theorem State.setBytes_nen (s : State) (a : Nat) (l : List Byte) : (s.setBytes a l).nen = s.nen := rfl
@[simp] theorem State.setBytes_host (s : State) (a : Nat) (l : List Byte) : (s.setBytes a l).host = s.host := rfl
@[simp] theorem State.setBytes_stages (s : State) (a : Nat) (l : List Byte) : (s.setBytes a l).stages = s.stages := rfl
@[simp] theorem State.setBytes_out (s : State) (a : Nat) (l : List Byte) : (s.setBytes a l).out = s.out := rfl
@[simp] theorem State.setBytes_pwr (s : State) (a : Nat) (l : List Byte) : (s.setBytes a l).pwr = s.pwr := rfl
@[simp] theorem State.setBytes_se (s : State) (a : Nat) (l : List Byte) : (s.setBytes a l).se = s.se := rfl
@[simp] theorem State.setBytes_rv (s : State) (a : Nat) (l : List Byte) : (s.setBytes a l).rv = s.rv := rfl
@[simp] theorem State.setBytes_dbg (s : State) (a : Nat) (l : List Byte) : (s.setBytes a l).dbg = s.dbg := rfl
@[simp] theorem State.setBytes_paused (s : State) (a : Nat) (l : List Byte) : (s.setBytes a l).paused = s.paused := rfl
@[simp] theorem State.setBytes_lf (s : State) (a : Nat) (l : List Byte) : (s.setBytes a l).lf = s.lf := rfl
@[simp] theorem State.setBytes_free (s : State) (a : Nat) (l : List Byte) : (s.setBytes a l).free = s.free := rfl
@[simp] theorem State.setBytes_pending (s : State) (a : Nat) (l : List Byte) : (s.setBytes a l).pending = s.pending := rfl

/-! ### State.issue -/

@[simp] theorem State.issue_fuse (s : State) (r : MemReq) : (s.issue r).fuse = s.fuse := rfl
@[simp] theorem State.issue_pin (s : State) (r : MemReq) : (s.issue r).pin = s.pin := rfl
@[simp] theorem State.issue_clk (s : State) (r : MemReq) : (s.issue r).clk = s.clk := rfl
@[simp] theorem State.issue_regs (s : State) (r : MemReq) : (s.issue r).regs = s.regs := rfl
@[simp] theorem State.issue_latch (s : State) (r : MemReq) : (s.issue r).latch = s.latch := rfl
@[simp] theorem State.issue_rcOld (s : State) (r : MemReq) : (s.issue r).rcOld = s.rcOld := rfl
@[simp] theorem State.issue_bus (s : State) (r : MemReq) : (s.issue r).bus = s.bus := rfl
@[simp] theorem State.issue_lat (s : State) (r : MemReq) : (s.issue r).lat = s.lat := rfl
@[simp] theorem State.issue_eng (s : State) (r : MemReq) : (s.issue r).eng = s.eng := rfl
@[simp] theorem State.issue_tg (s : State) (r : MemReq) : (s.issue r).tg = s.tg := rfl
@[simp] theorem State.issue_lanes (s : State) (r : MemReq) : (s.issue r).lanes = s.lanes := rfl
@[simp] theorem State.issue_eth (s : State) (r : MemReq) : (s.issue r).eth = s.eth := rfl
@[simp] theorem State.issue_pa (s : State) (r : MemReq) : (s.issue r).pa = s.pa := rfl
@[simp] theorem State.issue_nen (s : State) (r : MemReq) : (s.issue r).nen = s.nen := rfl
@[simp] theorem State.issue_host (s : State) (r : MemReq) : (s.issue r).host = s.host := rfl
@[simp] theorem State.issue_stages (s : State) (r : MemReq) : (s.issue r).stages = s.stages := rfl
@[simp] theorem State.issue_out (s : State) (r : MemReq) : (s.issue r).out = s.out := rfl
@[simp] theorem State.issue_pwr (s : State) (r : MemReq) : (s.issue r).pwr = s.pwr := rfl
@[simp] theorem State.issue_se (s : State) (r : MemReq) : (s.issue r).se = s.se := rfl
@[simp] theorem State.issue_rv (s : State) (r : MemReq) : (s.issue r).rv = s.rv := rfl
@[simp] theorem State.issue_dbg (s : State) (r : MemReq) : (s.issue r).dbg = s.dbg := rfl
@[simp] theorem State.issue_paused (s : State) (r : MemReq) : (s.issue r).paused = s.paused := rfl
@[simp] theorem State.issue_lf (s : State) (r : MemReq) : (s.issue r).lf = s.lf := rfl
@[simp] theorem State.issue_free (s : State) (r : MemReq) : (s.issue r).free = s.free := rfl
@[simp] theorem State.issue_pending (s : State) (r : MemReq) : (s.issue r).pending = s.pending := rfl

/-! ### State.setRf -/

@[simp] theorem State.setRf_fuse (s : State) (o hi lo x : Nat) : (s.setRf o hi lo x).fuse = s.fuse :=
  State.setReg_fuse s o _
@[simp] theorem State.setRf_pin (s : State) (o hi lo x : Nat) : (s.setRf o hi lo x).pin = s.pin :=
  State.setReg_pin s o _
@[simp] theorem State.setRf_clk (s : State) (o hi lo x : Nat) : (s.setRf o hi lo x).clk = s.clk :=
  State.setReg_clk s o _
@[simp] theorem State.setRf_latch (s : State) (o hi lo x : Nat) : (s.setRf o hi lo x).latch = s.latch :=
  State.setReg_latch s o _
@[simp] theorem State.setRf_rcOld (s : State) (o hi lo x : Nat) : (s.setRf o hi lo x).rcOld = s.rcOld :=
  State.setReg_rcOld s o _
@[simp] theorem State.setRf_bus (s : State) (o hi lo x : Nat) : (s.setRf o hi lo x).bus = s.bus :=
  State.setReg_bus s o _
@[simp] theorem State.setRf_mem (s : State) (o hi lo x : Nat) : (s.setRf o hi lo x).mem = s.mem :=
  State.setReg_mem s o _
@[simp] theorem State.setRf_lat (s : State) (o hi lo x : Nat) : (s.setRf o hi lo x).lat = s.lat :=
  State.setReg_lat s o _
@[simp] theorem State.setRf_eng (s : State) (o hi lo x : Nat) : (s.setRf o hi lo x).eng = s.eng :=
  State.setReg_eng s o _
@[simp] theorem State.setRf_tg (s : State) (o hi lo x : Nat) : (s.setRf o hi lo x).tg = s.tg :=
  State.setReg_tg s o _
@[simp] theorem State.setRf_lanes (s : State) (o hi lo x : Nat) : (s.setRf o hi lo x).lanes = s.lanes :=
  State.setReg_lanes s o _
@[simp] theorem State.setRf_eth (s : State) (o hi lo x : Nat) : (s.setRf o hi lo x).eth = s.eth :=
  State.setReg_eth s o _
@[simp] theorem State.setRf_pa (s : State) (o hi lo x : Nat) : (s.setRf o hi lo x).pa = s.pa :=
  State.setReg_pa s o _
@[simp] theorem State.setRf_nen (s : State) (o hi lo x : Nat) : (s.setRf o hi lo x).nen = s.nen :=
  State.setReg_nen s o _
@[simp] theorem State.setRf_host (s : State) (o hi lo x : Nat) : (s.setRf o hi lo x).host = s.host :=
  State.setReg_host s o _
@[simp] theorem State.setRf_stages (s : State) (o hi lo x : Nat) : (s.setRf o hi lo x).stages = s.stages :=
  State.setReg_stages s o _
@[simp] theorem State.setRf_out (s : State) (o hi lo x : Nat) : (s.setRf o hi lo x).out = s.out :=
  State.setReg_out s o _
@[simp] theorem State.setRf_pwr (s : State) (o hi lo x : Nat) : (s.setRf o hi lo x).pwr = s.pwr :=
  State.setReg_pwr s o _
@[simp] theorem State.setRf_se (s : State) (o hi lo x : Nat) : (s.setRf o hi lo x).se = s.se :=
  State.setReg_se s o _
@[simp] theorem State.setRf_rv (s : State) (o hi lo x : Nat) : (s.setRf o hi lo x).rv = s.rv :=
  State.setReg_rv s o _
@[simp] theorem State.setRf_dbg (s : State) (o hi lo x : Nat) : (s.setRf o hi lo x).dbg = s.dbg :=
  State.setReg_dbg s o _
@[simp] theorem State.setRf_paused (s : State) (o hi lo x : Nat) : (s.setRf o hi lo x).paused = s.paused :=
  State.setReg_paused s o _
@[simp] theorem State.setRf_lf (s : State) (o hi lo x : Nat) : (s.setRf o hi lo x).lf = s.lf :=
  State.setReg_lf s o _
@[simp] theorem State.setRf_free (s : State) (o hi lo x : Nat) : (s.setRf o hi lo x).free = s.free :=
  State.setReg_free s o _
@[simp] theorem State.setRf_pending (s : State) (o hi lo x : Nat) : (s.setRf o hi lo x).pending = s.pending :=
  State.setReg_pending s o _

/-! ### State.setRb -/

@[simp] theorem State.setRb_fuse (s : State) (o i : Nat) (b : Bool) : (s.setRb o i b).fuse = s.fuse :=
  State.setRf_fuse s o i i _
@[simp] theorem State.setRb_pin (s : State) (o i : Nat) (b : Bool) : (s.setRb o i b).pin = s.pin :=
  State.setRf_pin s o i i _
@[simp] theorem State.setRb_clk (s : State) (o i : Nat) (b : Bool) : (s.setRb o i b).clk = s.clk :=
  State.setRf_clk s o i i _
@[simp] theorem State.setRb_latch (s : State) (o i : Nat) (b : Bool) : (s.setRb o i b).latch = s.latch :=
  State.setRf_latch s o i i _
@[simp] theorem State.setRb_rcOld (s : State) (o i : Nat) (b : Bool) : (s.setRb o i b).rcOld = s.rcOld :=
  State.setRf_rcOld s o i i _
@[simp] theorem State.setRb_bus (s : State) (o i : Nat) (b : Bool) : (s.setRb o i b).bus = s.bus :=
  State.setRf_bus s o i i _
@[simp] theorem State.setRb_mem (s : State) (o i : Nat) (b : Bool) : (s.setRb o i b).mem = s.mem :=
  State.setRf_mem s o i i _
@[simp] theorem State.setRb_lat (s : State) (o i : Nat) (b : Bool) : (s.setRb o i b).lat = s.lat :=
  State.setRf_lat s o i i _
@[simp] theorem State.setRb_eng (s : State) (o i : Nat) (b : Bool) : (s.setRb o i b).eng = s.eng :=
  State.setRf_eng s o i i _
@[simp] theorem State.setRb_tg (s : State) (o i : Nat) (b : Bool) : (s.setRb o i b).tg = s.tg :=
  State.setRf_tg s o i i _
@[simp] theorem State.setRb_lanes (s : State) (o i : Nat) (b : Bool) : (s.setRb o i b).lanes = s.lanes :=
  State.setRf_lanes s o i i _
@[simp] theorem State.setRb_eth (s : State) (o i : Nat) (b : Bool) : (s.setRb o i b).eth = s.eth :=
  State.setRf_eth s o i i _
@[simp] theorem State.setRb_pa (s : State) (o i : Nat) (b : Bool) : (s.setRb o i b).pa = s.pa :=
  State.setRf_pa s o i i _
@[simp] theorem State.setRb_nen (s : State) (o i : Nat) (b : Bool) : (s.setRb o i b).nen = s.nen :=
  State.setRf_nen s o i i _
@[simp] theorem State.setRb_host (s : State) (o i : Nat) (b : Bool) : (s.setRb o i b).host = s.host :=
  State.setRf_host s o i i _
@[simp] theorem State.setRb_stages (s : State) (o i : Nat) (b : Bool) : (s.setRb o i b).stages = s.stages :=
  State.setRf_stages s o i i _
@[simp] theorem State.setRb_out (s : State) (o i : Nat) (b : Bool) : (s.setRb o i b).out = s.out :=
  State.setRf_out s o i i _
@[simp] theorem State.setRb_pwr (s : State) (o i : Nat) (b : Bool) : (s.setRb o i b).pwr = s.pwr :=
  State.setRf_pwr s o i i _
@[simp] theorem State.setRb_se (s : State) (o i : Nat) (b : Bool) : (s.setRb o i b).se = s.se :=
  State.setRf_se s o i i _
@[simp] theorem State.setRb_rv (s : State) (o i : Nat) (b : Bool) : (s.setRb o i b).rv = s.rv :=
  State.setRf_rv s o i i _
@[simp] theorem State.setRb_dbg (s : State) (o i : Nat) (b : Bool) : (s.setRb o i b).dbg = s.dbg :=
  State.setRf_dbg s o i i _
@[simp] theorem State.setRb_paused (s : State) (o i : Nat) (b : Bool) : (s.setRb o i b).paused = s.paused :=
  State.setRf_paused s o i i _
@[simp] theorem State.setRb_lf (s : State) (o i : Nat) (b : Bool) : (s.setRb o i b).lf = s.lf :=
  State.setRf_lf s o i i _
@[simp] theorem State.setRb_free (s : State) (o i : Nat) (b : Bool) : (s.setRb o i b).free = s.free :=
  State.setRf_free s o i i _
@[simp] theorem State.setRb_pending (s : State) (o i : Nat) (b : Bool) : (s.setRb o i b).pending = s.pending :=
  State.setRf_pending s o i i _

/-! ### State.setReg64 -/

@[simp] theorem State.setReg64_fuse (s : State) (o v : Nat) : (s.setReg64 o v).fuse = s.fuse :=
  (State.setReg_fuse _ (o + 4) (v / 2 ^ 32)).trans (State.setReg_fuse s o v)
@[simp] theorem State.setReg64_pin (s : State) (o v : Nat) : (s.setReg64 o v).pin = s.pin :=
  (State.setReg_pin _ (o + 4) (v / 2 ^ 32)).trans (State.setReg_pin s o v)
@[simp] theorem State.setReg64_clk (s : State) (o v : Nat) : (s.setReg64 o v).clk = s.clk :=
  (State.setReg_clk _ (o + 4) (v / 2 ^ 32)).trans (State.setReg_clk s o v)
@[simp] theorem State.setReg64_latch (s : State) (o v : Nat) : (s.setReg64 o v).latch = s.latch :=
  (State.setReg_latch _ (o + 4) (v / 2 ^ 32)).trans (State.setReg_latch s o v)
@[simp] theorem State.setReg64_rcOld (s : State) (o v : Nat) : (s.setReg64 o v).rcOld = s.rcOld :=
  (State.setReg_rcOld _ (o + 4) (v / 2 ^ 32)).trans (State.setReg_rcOld s o v)
@[simp] theorem State.setReg64_bus (s : State) (o v : Nat) : (s.setReg64 o v).bus = s.bus :=
  (State.setReg_bus _ (o + 4) (v / 2 ^ 32)).trans (State.setReg_bus s o v)
@[simp] theorem State.setReg64_mem (s : State) (o v : Nat) : (s.setReg64 o v).mem = s.mem :=
  (State.setReg_mem _ (o + 4) (v / 2 ^ 32)).trans (State.setReg_mem s o v)
@[simp] theorem State.setReg64_lat (s : State) (o v : Nat) : (s.setReg64 o v).lat = s.lat :=
  (State.setReg_lat _ (o + 4) (v / 2 ^ 32)).trans (State.setReg_lat s o v)
@[simp] theorem State.setReg64_eng (s : State) (o v : Nat) : (s.setReg64 o v).eng = s.eng :=
  (State.setReg_eng _ (o + 4) (v / 2 ^ 32)).trans (State.setReg_eng s o v)
@[simp] theorem State.setReg64_tg (s : State) (o v : Nat) : (s.setReg64 o v).tg = s.tg :=
  (State.setReg_tg _ (o + 4) (v / 2 ^ 32)).trans (State.setReg_tg s o v)
@[simp] theorem State.setReg64_lanes (s : State) (o v : Nat) : (s.setReg64 o v).lanes = s.lanes :=
  (State.setReg_lanes _ (o + 4) (v / 2 ^ 32)).trans (State.setReg_lanes s o v)
@[simp] theorem State.setReg64_eth (s : State) (o v : Nat) : (s.setReg64 o v).eth = s.eth :=
  (State.setReg_eth _ (o + 4) (v / 2 ^ 32)).trans (State.setReg_eth s o v)
@[simp] theorem State.setReg64_pa (s : State) (o v : Nat) : (s.setReg64 o v).pa = s.pa :=
  (State.setReg_pa _ (o + 4) (v / 2 ^ 32)).trans (State.setReg_pa s o v)
@[simp] theorem State.setReg64_nen (s : State) (o v : Nat) : (s.setReg64 o v).nen = s.nen :=
  (State.setReg_nen _ (o + 4) (v / 2 ^ 32)).trans (State.setReg_nen s o v)
@[simp] theorem State.setReg64_host (s : State) (o v : Nat) : (s.setReg64 o v).host = s.host :=
  (State.setReg_host _ (o + 4) (v / 2 ^ 32)).trans (State.setReg_host s o v)
@[simp] theorem State.setReg64_stages (s : State) (o v : Nat) : (s.setReg64 o v).stages = s.stages :=
  (State.setReg_stages _ (o + 4) (v / 2 ^ 32)).trans (State.setReg_stages s o v)
@[simp] theorem State.setReg64_out (s : State) (o v : Nat) : (s.setReg64 o v).out = s.out :=
  (State.setReg_out _ (o + 4) (v / 2 ^ 32)).trans (State.setReg_out s o v)
@[simp] theorem State.setReg64_pwr (s : State) (o v : Nat) : (s.setReg64 o v).pwr = s.pwr :=
  (State.setReg_pwr _ (o + 4) (v / 2 ^ 32)).trans (State.setReg_pwr s o v)
@[simp] theorem State.setReg64_se (s : State) (o v : Nat) : (s.setReg64 o v).se = s.se :=
  (State.setReg_se _ (o + 4) (v / 2 ^ 32)).trans (State.setReg_se s o v)
@[simp] theorem State.setReg64_rv (s : State) (o v : Nat) : (s.setReg64 o v).rv = s.rv :=
  (State.setReg_rv _ (o + 4) (v / 2 ^ 32)).trans (State.setReg_rv s o v)
@[simp] theorem State.setReg64_dbg (s : State) (o v : Nat) : (s.setReg64 o v).dbg = s.dbg :=
  (State.setReg_dbg _ (o + 4) (v / 2 ^ 32)).trans (State.setReg_dbg s o v)
@[simp] theorem State.setReg64_paused (s : State) (o v : Nat) : (s.setReg64 o v).paused = s.paused :=
  (State.setReg_paused _ (o + 4) (v / 2 ^ 32)).trans (State.setReg_paused s o v)
@[simp] theorem State.setReg64_lf (s : State) (o v : Nat) : (s.setReg64 o v).lf = s.lf :=
  (State.setReg_lf _ (o + 4) (v / 2 ^ 32)).trans (State.setReg_lf s o v)
@[simp] theorem State.setReg64_free (s : State) (o v : Nat) : (s.setReg64 o v).free = s.free :=
  (State.setReg_free _ (o + 4) (v / 2 ^ 32)).trans (State.setReg_free s o v)
@[simp] theorem State.setReg64_pending (s : State) (o v : Nat) : (s.setReg64 o v).pending = s.pending :=
  (State.setReg_pending _ (o + 4) (v / 2 ^ 32)).trans (State.setReg_pending s o v)

/-! ### State.setReg96 -/

@[simp] theorem State.setReg96_fuse (s : State) (o v : Nat) : (s.setReg96 o v).fuse = s.fuse :=
  (State.setReg_fuse _ (o + 8) (v / 2 ^ 64)).trans (State.setReg64_fuse s o v)
@[simp] theorem State.setReg96_pin (s : State) (o v : Nat) : (s.setReg96 o v).pin = s.pin :=
  (State.setReg_pin _ (o + 8) (v / 2 ^ 64)).trans (State.setReg64_pin s o v)
@[simp] theorem State.setReg96_clk (s : State) (o v : Nat) : (s.setReg96 o v).clk = s.clk :=
  (State.setReg_clk _ (o + 8) (v / 2 ^ 64)).trans (State.setReg64_clk s o v)
@[simp] theorem State.setReg96_latch (s : State) (o v : Nat) : (s.setReg96 o v).latch = s.latch :=
  (State.setReg_latch _ (o + 8) (v / 2 ^ 64)).trans (State.setReg64_latch s o v)
@[simp] theorem State.setReg96_rcOld (s : State) (o v : Nat) : (s.setReg96 o v).rcOld = s.rcOld :=
  (State.setReg_rcOld _ (o + 8) (v / 2 ^ 64)).trans (State.setReg64_rcOld s o v)
@[simp] theorem State.setReg96_bus (s : State) (o v : Nat) : (s.setReg96 o v).bus = s.bus :=
  (State.setReg_bus _ (o + 8) (v / 2 ^ 64)).trans (State.setReg64_bus s o v)
@[simp] theorem State.setReg96_mem (s : State) (o v : Nat) : (s.setReg96 o v).mem = s.mem :=
  (State.setReg_mem _ (o + 8) (v / 2 ^ 64)).trans (State.setReg64_mem s o v)
@[simp] theorem State.setReg96_lat (s : State) (o v : Nat) : (s.setReg96 o v).lat = s.lat :=
  (State.setReg_lat _ (o + 8) (v / 2 ^ 64)).trans (State.setReg64_lat s o v)
@[simp] theorem State.setReg96_eng (s : State) (o v : Nat) : (s.setReg96 o v).eng = s.eng :=
  (State.setReg_eng _ (o + 8) (v / 2 ^ 64)).trans (State.setReg64_eng s o v)
@[simp] theorem State.setReg96_tg (s : State) (o v : Nat) : (s.setReg96 o v).tg = s.tg :=
  (State.setReg_tg _ (o + 8) (v / 2 ^ 64)).trans (State.setReg64_tg s o v)
@[simp] theorem State.setReg96_lanes (s : State) (o v : Nat) : (s.setReg96 o v).lanes = s.lanes :=
  (State.setReg_lanes _ (o + 8) (v / 2 ^ 64)).trans (State.setReg64_lanes s o v)
@[simp] theorem State.setReg96_eth (s : State) (o v : Nat) : (s.setReg96 o v).eth = s.eth :=
  (State.setReg_eth _ (o + 8) (v / 2 ^ 64)).trans (State.setReg64_eth s o v)
@[simp] theorem State.setReg96_pa (s : State) (o v : Nat) : (s.setReg96 o v).pa = s.pa :=
  (State.setReg_pa _ (o + 8) (v / 2 ^ 64)).trans (State.setReg64_pa s o v)
@[simp] theorem State.setReg96_nen (s : State) (o v : Nat) : (s.setReg96 o v).nen = s.nen :=
  (State.setReg_nen _ (o + 8) (v / 2 ^ 64)).trans (State.setReg64_nen s o v)
@[simp] theorem State.setReg96_host (s : State) (o v : Nat) : (s.setReg96 o v).host = s.host :=
  (State.setReg_host _ (o + 8) (v / 2 ^ 64)).trans (State.setReg64_host s o v)
@[simp] theorem State.setReg96_stages (s : State) (o v : Nat) : (s.setReg96 o v).stages = s.stages :=
  (State.setReg_stages _ (o + 8) (v / 2 ^ 64)).trans (State.setReg64_stages s o v)
@[simp] theorem State.setReg96_out (s : State) (o v : Nat) : (s.setReg96 o v).out = s.out :=
  (State.setReg_out _ (o + 8) (v / 2 ^ 64)).trans (State.setReg64_out s o v)
@[simp] theorem State.setReg96_pwr (s : State) (o v : Nat) : (s.setReg96 o v).pwr = s.pwr :=
  (State.setReg_pwr _ (o + 8) (v / 2 ^ 64)).trans (State.setReg64_pwr s o v)
@[simp] theorem State.setReg96_se (s : State) (o v : Nat) : (s.setReg96 o v).se = s.se :=
  (State.setReg_se _ (o + 8) (v / 2 ^ 64)).trans (State.setReg64_se s o v)
@[simp] theorem State.setReg96_rv (s : State) (o v : Nat) : (s.setReg96 o v).rv = s.rv :=
  (State.setReg_rv _ (o + 8) (v / 2 ^ 64)).trans (State.setReg64_rv s o v)
@[simp] theorem State.setReg96_dbg (s : State) (o v : Nat) : (s.setReg96 o v).dbg = s.dbg :=
  (State.setReg_dbg _ (o + 8) (v / 2 ^ 64)).trans (State.setReg64_dbg s o v)
@[simp] theorem State.setReg96_paused (s : State) (o v : Nat) : (s.setReg96 o v).paused = s.paused :=
  (State.setReg_paused _ (o + 8) (v / 2 ^ 64)).trans (State.setReg64_paused s o v)
@[simp] theorem State.setReg96_lf (s : State) (o v : Nat) : (s.setReg96 o v).lf = s.lf :=
  (State.setReg_lf _ (o + 8) (v / 2 ^ 64)).trans (State.setReg64_lf s o v)
@[simp] theorem State.setReg96_free (s : State) (o v : Nat) : (s.setReg96 o v).free = s.free :=
  (State.setReg_free _ (o + 8) (v / 2 ^ 64)).trans (State.setReg64_free s o v)
@[simp] theorem State.setReg96_pending (s : State) (o v : Nat) : (s.setReg96 o v).pending = s.pending :=
  (State.setReg_pending _ (o + 8) (v / 2 ^ 64)).trans (State.setReg64_pending s o v)

/-! ### State.rcNote -/

@[simp] theorem State.rcNote_fuse (s : State) (o : Nat) : (s.rcNote o).fuse = s.fuse := rfl
@[simp] theorem State.rcNote_pin (s : State) (o : Nat) : (s.rcNote o).pin = s.pin := rfl
@[simp] theorem State.rcNote_clk (s : State) (o : Nat) : (s.rcNote o).clk = s.clk := rfl
@[simp] theorem State.rcNote_regs (s : State) (o : Nat) : (s.rcNote o).regs = s.regs := rfl
@[simp] theorem State.rcNote_latch (s : State) (o : Nat) : (s.rcNote o).latch = s.latch := rfl
@[simp] theorem State.rcNote_bus (s : State) (o : Nat) : (s.rcNote o).bus = s.bus := rfl
@[simp] theorem State.rcNote_mem (s : State) (o : Nat) : (s.rcNote o).mem = s.mem := rfl
@[simp] theorem State.rcNote_lat (s : State) (o : Nat) : (s.rcNote o).lat = s.lat := rfl
@[simp] theorem State.rcNote_eng (s : State) (o : Nat) : (s.rcNote o).eng = s.eng := rfl
@[simp] theorem State.rcNote_tg (s : State) (o : Nat) : (s.rcNote o).tg = s.tg := rfl
@[simp] theorem State.rcNote_lanes (s : State) (o : Nat) : (s.rcNote o).lanes = s.lanes := rfl
@[simp] theorem State.rcNote_eth (s : State) (o : Nat) : (s.rcNote o).eth = s.eth := rfl
@[simp] theorem State.rcNote_pa (s : State) (o : Nat) : (s.rcNote o).pa = s.pa := rfl
@[simp] theorem State.rcNote_nen (s : State) (o : Nat) : (s.rcNote o).nen = s.nen := rfl
@[simp] theorem State.rcNote_host (s : State) (o : Nat) : (s.rcNote o).host = s.host := rfl
@[simp] theorem State.rcNote_stages (s : State) (o : Nat) : (s.rcNote o).stages = s.stages := rfl
@[simp] theorem State.rcNote_out (s : State) (o : Nat) : (s.rcNote o).out = s.out := rfl
@[simp] theorem State.rcNote_pwr (s : State) (o : Nat) : (s.rcNote o).pwr = s.pwr := rfl
@[simp] theorem State.rcNote_se (s : State) (o : Nat) : (s.rcNote o).se = s.se := rfl
@[simp] theorem State.rcNote_rv (s : State) (o : Nat) : (s.rcNote o).rv = s.rv := rfl
@[simp] theorem State.rcNote_dbg (s : State) (o : Nat) : (s.rcNote o).dbg = s.dbg := rfl
@[simp] theorem State.rcNote_paused (s : State) (o : Nat) : (s.rcNote o).paused = s.paused := rfl
@[simp] theorem State.rcNote_lf (s : State) (o : Nat) : (s.rcNote o).lf = s.lf := rfl
@[simp] theorem State.rcNote_free (s : State) (o : Nat) : (s.rcNote o).free = s.free := rfl
@[simp] theorem State.rcNote_pending (s : State) (o : Nat) : (s.rcNote o).pending = s.pending := rfl

/-! ### State.inc -/

@[simp] theorem State.inc_fuse (s : State) (o n : Nat) : (s.inc o n).fuse = s.fuse :=
  (State.setReg_fuse _ o _).trans (State.rcNote_fuse s o)
@[simp] theorem State.inc_pin (s : State) (o n : Nat) : (s.inc o n).pin = s.pin :=
  (State.setReg_pin _ o _).trans (State.rcNote_pin s o)
@[simp] theorem State.inc_clk (s : State) (o n : Nat) : (s.inc o n).clk = s.clk :=
  (State.setReg_clk _ o _).trans (State.rcNote_clk s o)
@[simp] theorem State.inc_latch (s : State) (o n : Nat) : (s.inc o n).latch = s.latch :=
  (State.setReg_latch _ o _).trans (State.rcNote_latch s o)
@[simp] theorem State.inc_bus (s : State) (o n : Nat) : (s.inc o n).bus = s.bus :=
  (State.setReg_bus _ o _).trans (State.rcNote_bus s o)
@[simp] theorem State.inc_mem (s : State) (o n : Nat) : (s.inc o n).mem = s.mem :=
  (State.setReg_mem _ o _).trans (State.rcNote_mem s o)
@[simp] theorem State.inc_lat (s : State) (o n : Nat) : (s.inc o n).lat = s.lat :=
  (State.setReg_lat _ o _).trans (State.rcNote_lat s o)
@[simp] theorem State.inc_eng (s : State) (o n : Nat) : (s.inc o n).eng = s.eng :=
  (State.setReg_eng _ o _).trans (State.rcNote_eng s o)
@[simp] theorem State.inc_tg (s : State) (o n : Nat) : (s.inc o n).tg = s.tg :=
  (State.setReg_tg _ o _).trans (State.rcNote_tg s o)
@[simp] theorem State.inc_lanes (s : State) (o n : Nat) : (s.inc o n).lanes = s.lanes :=
  (State.setReg_lanes _ o _).trans (State.rcNote_lanes s o)
@[simp] theorem State.inc_eth (s : State) (o n : Nat) : (s.inc o n).eth = s.eth :=
  (State.setReg_eth _ o _).trans (State.rcNote_eth s o)
@[simp] theorem State.inc_pa (s : State) (o n : Nat) : (s.inc o n).pa = s.pa :=
  (State.setReg_pa _ o _).trans (State.rcNote_pa s o)
@[simp] theorem State.inc_nen (s : State) (o n : Nat) : (s.inc o n).nen = s.nen :=
  (State.setReg_nen _ o _).trans (State.rcNote_nen s o)
@[simp] theorem State.inc_host (s : State) (o n : Nat) : (s.inc o n).host = s.host :=
  (State.setReg_host _ o _).trans (State.rcNote_host s o)
@[simp] theorem State.inc_stages (s : State) (o n : Nat) : (s.inc o n).stages = s.stages :=
  (State.setReg_stages _ o _).trans (State.rcNote_stages s o)
@[simp] theorem State.inc_out (s : State) (o n : Nat) : (s.inc o n).out = s.out :=
  (State.setReg_out _ o _).trans (State.rcNote_out s o)
@[simp] theorem State.inc_pwr (s : State) (o n : Nat) : (s.inc o n).pwr = s.pwr :=
  (State.setReg_pwr _ o _).trans (State.rcNote_pwr s o)
@[simp] theorem State.inc_se (s : State) (o n : Nat) : (s.inc o n).se = s.se :=
  (State.setReg_se _ o _).trans (State.rcNote_se s o)
@[simp] theorem State.inc_rv (s : State) (o n : Nat) : (s.inc o n).rv = s.rv :=
  (State.setReg_rv _ o _).trans (State.rcNote_rv s o)
@[simp] theorem State.inc_dbg (s : State) (o n : Nat) : (s.inc o n).dbg = s.dbg :=
  (State.setReg_dbg _ o _).trans (State.rcNote_dbg s o)
@[simp] theorem State.inc_paused (s : State) (o n : Nat) : (s.inc o n).paused = s.paused :=
  (State.setReg_paused _ o _).trans (State.rcNote_paused s o)
@[simp] theorem State.inc_lf (s : State) (o n : Nat) : (s.inc o n).lf = s.lf :=
  (State.setReg_lf _ o _).trans (State.rcNote_lf s o)
@[simp] theorem State.inc_free (s : State) (o n : Nat) : (s.inc o n).free = s.free :=
  (State.setReg_free _ o _).trans (State.rcNote_free s o)
@[simp] theorem State.inc_pending (s : State) (o n : Nat) : (s.inc o n).pending = s.pending :=
  (State.setReg_pending _ o _).trans (State.rcNote_pending s o)

/-! ### State.inc64 -/

@[simp] theorem State.inc64_fuse (s : State) (o n : Nat) : (s.inc64 o n).fuse = s.fuse :=
  (State.setReg64_fuse _ o _).trans ((State.rcNote_fuse _ (o + 4)).trans (State.rcNote_fuse s o))
@[simp] theorem State.inc64_pin (s : State) (o n : Nat) : (s.inc64 o n).pin = s.pin :=
  (State.setReg64_pin _ o _).trans ((State.rcNote_pin _ (o + 4)).trans (State.rcNote_pin s o))
@[simp] theorem State.inc64_clk (s : State) (o n : Nat) : (s.inc64 o n).clk = s.clk :=
  (State.setReg64_clk _ o _).trans ((State.rcNote_clk _ (o + 4)).trans (State.rcNote_clk s o))
@[simp] theorem State.inc64_latch (s : State) (o n : Nat) : (s.inc64 o n).latch = s.latch :=
  (State.setReg64_latch _ o _).trans ((State.rcNote_latch _ (o + 4)).trans (State.rcNote_latch s o))
@[simp] theorem State.inc64_bus (s : State) (o n : Nat) : (s.inc64 o n).bus = s.bus :=
  (State.setReg64_bus _ o _).trans ((State.rcNote_bus _ (o + 4)).trans (State.rcNote_bus s o))
@[simp] theorem State.inc64_mem (s : State) (o n : Nat) : (s.inc64 o n).mem = s.mem :=
  (State.setReg64_mem _ o _).trans ((State.rcNote_mem _ (o + 4)).trans (State.rcNote_mem s o))
@[simp] theorem State.inc64_lat (s : State) (o n : Nat) : (s.inc64 o n).lat = s.lat :=
  (State.setReg64_lat _ o _).trans ((State.rcNote_lat _ (o + 4)).trans (State.rcNote_lat s o))
@[simp] theorem State.inc64_eng (s : State) (o n : Nat) : (s.inc64 o n).eng = s.eng :=
  (State.setReg64_eng _ o _).trans ((State.rcNote_eng _ (o + 4)).trans (State.rcNote_eng s o))
@[simp] theorem State.inc64_tg (s : State) (o n : Nat) : (s.inc64 o n).tg = s.tg :=
  (State.setReg64_tg _ o _).trans ((State.rcNote_tg _ (o + 4)).trans (State.rcNote_tg s o))
@[simp] theorem State.inc64_lanes (s : State) (o n : Nat) : (s.inc64 o n).lanes = s.lanes :=
  (State.setReg64_lanes _ o _).trans ((State.rcNote_lanes _ (o + 4)).trans (State.rcNote_lanes s o))
@[simp] theorem State.inc64_eth (s : State) (o n : Nat) : (s.inc64 o n).eth = s.eth :=
  (State.setReg64_eth _ o _).trans ((State.rcNote_eth _ (o + 4)).trans (State.rcNote_eth s o))
@[simp] theorem State.inc64_pa (s : State) (o n : Nat) : (s.inc64 o n).pa = s.pa :=
  (State.setReg64_pa _ o _).trans ((State.rcNote_pa _ (o + 4)).trans (State.rcNote_pa s o))
@[simp] theorem State.inc64_nen (s : State) (o n : Nat) : (s.inc64 o n).nen = s.nen :=
  (State.setReg64_nen _ o _).trans ((State.rcNote_nen _ (o + 4)).trans (State.rcNote_nen s o))
@[simp] theorem State.inc64_host (s : State) (o n : Nat) : (s.inc64 o n).host = s.host :=
  (State.setReg64_host _ o _).trans ((State.rcNote_host _ (o + 4)).trans (State.rcNote_host s o))
@[simp] theorem State.inc64_stages (s : State) (o n : Nat) : (s.inc64 o n).stages = s.stages :=
  (State.setReg64_stages _ o _).trans ((State.rcNote_stages _ (o + 4)).trans (State.rcNote_stages s o))
@[simp] theorem State.inc64_out (s : State) (o n : Nat) : (s.inc64 o n).out = s.out :=
  (State.setReg64_out _ o _).trans ((State.rcNote_out _ (o + 4)).trans (State.rcNote_out s o))
@[simp] theorem State.inc64_pwr (s : State) (o n : Nat) : (s.inc64 o n).pwr = s.pwr :=
  (State.setReg64_pwr _ o _).trans ((State.rcNote_pwr _ (o + 4)).trans (State.rcNote_pwr s o))
@[simp] theorem State.inc64_se (s : State) (o n : Nat) : (s.inc64 o n).se = s.se :=
  (State.setReg64_se _ o _).trans ((State.rcNote_se _ (o + 4)).trans (State.rcNote_se s o))
@[simp] theorem State.inc64_rv (s : State) (o n : Nat) : (s.inc64 o n).rv = s.rv :=
  (State.setReg64_rv _ o _).trans ((State.rcNote_rv _ (o + 4)).trans (State.rcNote_rv s o))
@[simp] theorem State.inc64_dbg (s : State) (o n : Nat) : (s.inc64 o n).dbg = s.dbg :=
  (State.setReg64_dbg _ o _).trans ((State.rcNote_dbg _ (o + 4)).trans (State.rcNote_dbg s o))
@[simp] theorem State.inc64_paused (s : State) (o n : Nat) : (s.inc64 o n).paused = s.paused :=
  (State.setReg64_paused _ o _).trans ((State.rcNote_paused _ (o + 4)).trans (State.rcNote_paused s o))
@[simp] theorem State.inc64_lf (s : State) (o n : Nat) : (s.inc64 o n).lf = s.lf :=
  (State.setReg64_lf _ o _).trans ((State.rcNote_lf _ (o + 4)).trans (State.rcNote_lf s o))
@[simp] theorem State.inc64_free (s : State) (o n : Nat) : (s.inc64 o n).free = s.free :=
  (State.setReg64_free _ o _).trans ((State.rcNote_free _ (o + 4)).trans (State.rcNote_free s o))
@[simp] theorem State.inc64_pending (s : State) (o n : Nat) : (s.inc64 o n).pending = s.pending :=
  (State.setReg64_pending _ o _).trans ((State.rcNote_pending _ (o + 4)).trans (State.rcNote_pending s o))

/-! ### State.incSat -/

@[simp] theorem State.incSat_fuse (s : State) (o n : Nat) : (s.incSat o n).fuse = s.fuse :=
  (State.setReg64_fuse _ o _).trans ((State.rcNote_fuse _ (o + 4)).trans (State.rcNote_fuse s o))
@[simp] theorem State.incSat_pin (s : State) (o n : Nat) : (s.incSat o n).pin = s.pin :=
  (State.setReg64_pin _ o _).trans ((State.rcNote_pin _ (o + 4)).trans (State.rcNote_pin s o))
@[simp] theorem State.incSat_clk (s : State) (o n : Nat) : (s.incSat o n).clk = s.clk :=
  (State.setReg64_clk _ o _).trans ((State.rcNote_clk _ (o + 4)).trans (State.rcNote_clk s o))
@[simp] theorem State.incSat_latch (s : State) (o n : Nat) : (s.incSat o n).latch = s.latch :=
  (State.setReg64_latch _ o _).trans ((State.rcNote_latch _ (o + 4)).trans (State.rcNote_latch s o))
@[simp] theorem State.incSat_bus (s : State) (o n : Nat) : (s.incSat o n).bus = s.bus :=
  (State.setReg64_bus _ o _).trans ((State.rcNote_bus _ (o + 4)).trans (State.rcNote_bus s o))
@[simp] theorem State.incSat_mem (s : State) (o n : Nat) : (s.incSat o n).mem = s.mem :=
  (State.setReg64_mem _ o _).trans ((State.rcNote_mem _ (o + 4)).trans (State.rcNote_mem s o))
@[simp] theorem State.incSat_lat (s : State) (o n : Nat) : (s.incSat o n).lat = s.lat :=
  (State.setReg64_lat _ o _).trans ((State.rcNote_lat _ (o + 4)).trans (State.rcNote_lat s o))
@[simp] theorem State.incSat_eng (s : State) (o n : Nat) : (s.incSat o n).eng = s.eng :=
  (State.setReg64_eng _ o _).trans ((State.rcNote_eng _ (o + 4)).trans (State.rcNote_eng s o))
@[simp] theorem State.incSat_tg (s : State) (o n : Nat) : (s.incSat o n).tg = s.tg :=
  (State.setReg64_tg _ o _).trans ((State.rcNote_tg _ (o + 4)).trans (State.rcNote_tg s o))
@[simp] theorem State.incSat_lanes (s : State) (o n : Nat) : (s.incSat o n).lanes = s.lanes :=
  (State.setReg64_lanes _ o _).trans ((State.rcNote_lanes _ (o + 4)).trans (State.rcNote_lanes s o))
@[simp] theorem State.incSat_eth (s : State) (o n : Nat) : (s.incSat o n).eth = s.eth :=
  (State.setReg64_eth _ o _).trans ((State.rcNote_eth _ (o + 4)).trans (State.rcNote_eth s o))
@[simp] theorem State.incSat_pa (s : State) (o n : Nat) : (s.incSat o n).pa = s.pa :=
  (State.setReg64_pa _ o _).trans ((State.rcNote_pa _ (o + 4)).trans (State.rcNote_pa s o))
@[simp] theorem State.incSat_nen (s : State) (o n : Nat) : (s.incSat o n).nen = s.nen :=
  (State.setReg64_nen _ o _).trans ((State.rcNote_nen _ (o + 4)).trans (State.rcNote_nen s o))
@[simp] theorem State.incSat_host (s : State) (o n : Nat) : (s.incSat o n).host = s.host :=
  (State.setReg64_host _ o _).trans ((State.rcNote_host _ (o + 4)).trans (State.rcNote_host s o))
@[simp] theorem State.incSat_stages (s : State) (o n : Nat) : (s.incSat o n).stages = s.stages :=
  (State.setReg64_stages _ o _).trans ((State.rcNote_stages _ (o + 4)).trans (State.rcNote_stages s o))
@[simp] theorem State.incSat_out (s : State) (o n : Nat) : (s.incSat o n).out = s.out :=
  (State.setReg64_out _ o _).trans ((State.rcNote_out _ (o + 4)).trans (State.rcNote_out s o))
@[simp] theorem State.incSat_pwr (s : State) (o n : Nat) : (s.incSat o n).pwr = s.pwr :=
  (State.setReg64_pwr _ o _).trans ((State.rcNote_pwr _ (o + 4)).trans (State.rcNote_pwr s o))
@[simp] theorem State.incSat_se (s : State) (o n : Nat) : (s.incSat o n).se = s.se :=
  (State.setReg64_se _ o _).trans ((State.rcNote_se _ (o + 4)).trans (State.rcNote_se s o))
@[simp] theorem State.incSat_rv (s : State) (o n : Nat) : (s.incSat o n).rv = s.rv :=
  (State.setReg64_rv _ o _).trans ((State.rcNote_rv _ (o + 4)).trans (State.rcNote_rv s o))
@[simp] theorem State.incSat_dbg (s : State) (o n : Nat) : (s.incSat o n).dbg = s.dbg :=
  (State.setReg64_dbg _ o _).trans ((State.rcNote_dbg _ (o + 4)).trans (State.rcNote_dbg s o))
@[simp] theorem State.incSat_paused (s : State) (o n : Nat) : (s.incSat o n).paused = s.paused :=
  (State.setReg64_paused _ o _).trans ((State.rcNote_paused _ (o + 4)).trans (State.rcNote_paused s o))
@[simp] theorem State.incSat_lf (s : State) (o n : Nat) : (s.incSat o n).lf = s.lf :=
  (State.setReg64_lf _ o _).trans ((State.rcNote_lf _ (o + 4)).trans (State.rcNote_lf s o))
@[simp] theorem State.incSat_free (s : State) (o n : Nat) : (s.incSat o n).free = s.free :=
  (State.setReg64_free _ o _).trans ((State.rcNote_free _ (o + 4)).trans (State.rcNote_free s o))
@[simp] theorem State.incSat_pending (s : State) (o n : Nat) : (s.incSat o n).pending = s.pending :=
  (State.setReg64_pending _ o _).trans ((State.rcNote_pending _ (o + 4)).trans (State.rcNote_pending s o))

/-! ### State.setCxState -/

@[simp] theorem State.setCxState_fuse (s : State) (n v : Nat) : (s.setCxState n v).fuse = s.fuse :=
  State.setRf_fuse s _ 2 0 v
@[simp] theorem State.setCxState_pin (s : State) (n v : Nat) : (s.setCxState n v).pin = s.pin :=
  State.setRf_pin s _ 2 0 v
@[simp] theorem State.setCxState_clk (s : State) (n v : Nat) : (s.setCxState n v).clk = s.clk :=
  State.setRf_clk s _ 2 0 v
@[simp] theorem State.setCxState_latch (s : State) (n v : Nat) : (s.setCxState n v).latch = s.latch :=
  State.setRf_latch s _ 2 0 v
@[simp] theorem State.setCxState_rcOld (s : State) (n v : Nat) : (s.setCxState n v).rcOld = s.rcOld :=
  State.setRf_rcOld s _ 2 0 v
@[simp] theorem State.setCxState_bus (s : State) (n v : Nat) : (s.setCxState n v).bus = s.bus :=
  State.setRf_bus s _ 2 0 v
@[simp] theorem State.setCxState_mem (s : State) (n v : Nat) : (s.setCxState n v).mem = s.mem :=
  State.setRf_mem s _ 2 0 v
@[simp] theorem State.setCxState_lat (s : State) (n v : Nat) : (s.setCxState n v).lat = s.lat :=
  State.setRf_lat s _ 2 0 v
@[simp] theorem State.setCxState_eng (s : State) (n v : Nat) : (s.setCxState n v).eng = s.eng :=
  State.setRf_eng s _ 2 0 v
@[simp] theorem State.setCxState_tg (s : State) (n v : Nat) : (s.setCxState n v).tg = s.tg :=
  State.setRf_tg s _ 2 0 v
@[simp] theorem State.setCxState_lanes (s : State) (n v : Nat) : (s.setCxState n v).lanes = s.lanes :=
  State.setRf_lanes s _ 2 0 v
@[simp] theorem State.setCxState_eth (s : State) (n v : Nat) : (s.setCxState n v).eth = s.eth :=
  State.setRf_eth s _ 2 0 v
@[simp] theorem State.setCxState_pa (s : State) (n v : Nat) : (s.setCxState n v).pa = s.pa :=
  State.setRf_pa s _ 2 0 v
@[simp] theorem State.setCxState_nen (s : State) (n v : Nat) : (s.setCxState n v).nen = s.nen :=
  State.setRf_nen s _ 2 0 v
@[simp] theorem State.setCxState_host (s : State) (n v : Nat) : (s.setCxState n v).host = s.host :=
  State.setRf_host s _ 2 0 v
@[simp] theorem State.setCxState_stages (s : State) (n v : Nat) : (s.setCxState n v).stages = s.stages :=
  State.setRf_stages s _ 2 0 v
@[simp] theorem State.setCxState_out (s : State) (n v : Nat) : (s.setCxState n v).out = s.out :=
  State.setRf_out s _ 2 0 v
@[simp] theorem State.setCxState_pwr (s : State) (n v : Nat) : (s.setCxState n v).pwr = s.pwr :=
  State.setRf_pwr s _ 2 0 v
@[simp] theorem State.setCxState_se (s : State) (n v : Nat) : (s.setCxState n v).se = s.se :=
  State.setRf_se s _ 2 0 v
@[simp] theorem State.setCxState_rv (s : State) (n v : Nat) : (s.setCxState n v).rv = s.rv :=
  State.setRf_rv s _ 2 0 v
@[simp] theorem State.setCxState_dbg (s : State) (n v : Nat) : (s.setCxState n v).dbg = s.dbg :=
  State.setRf_dbg s _ 2 0 v
@[simp] theorem State.setCxState_paused (s : State) (n v : Nat) : (s.setCxState n v).paused = s.paused :=
  State.setRf_paused s _ 2 0 v
@[simp] theorem State.setCxState_lf (s : State) (n v : Nat) : (s.setCxState n v).lf = s.lf :=
  State.setRf_lf s _ 2 0 v
@[simp] theorem State.setCxState_free (s : State) (n v : Nat) : (s.setCxState n v).free = s.free :=
  State.setRf_free s _ 2 0 v
@[simp] theorem State.setCxState_pending (s : State) (n v : Nat) : (s.setCxState n v).pending = s.pending :=
  State.setRf_pending s _ 2 0 v
@[simp] theorem State.setBytes_mem_poison (s : State) (a : Nat) (l : List Byte) : (s.setBytes a l).mem.poison = s.mem.poison := rfl
@[simp] theorem State.setBytes_mem_ecc (s : State) (a : Nat) (l : List Byte) : (s.setBytes a l).mem.ecc = s.mem.ecc := rfl
@[simp] theorem State.setBytes_mem_inflight (s : State) (a : Nat) (l : List Byte) : (s.setBytes a l).mem.inflight = s.mem.inflight := rfl
@[simp] theorem State.setBytes_mem_answers (s : State) (a : Nat) (l : List Byte) : (s.setBytes a l).mem.answers = s.mem.answers := rfl
@[simp] theorem State.setBytes_mem_nextId (s : State) (a : Nat) (l : List Byte) : (s.setBytes a l).mem.nextId = s.mem.nextId := rfl
@[simp] theorem State.issue_mem_bytes (s : State) (r : MemReq) : (s.issue r).mem.bytes = s.mem.bytes := rfl
@[simp] theorem State.issue_mem_poison (s : State) (r : MemReq) : (s.issue r).mem.poison = s.mem.poison := rfl
@[simp] theorem State.issue_mem_ecc (s : State) (r : MemReq) : (s.issue r).mem.ecc = s.mem.ecc := rfl
@[simp] theorem State.issue_mem_answers (s : State) (r : MemReq) : (s.issue r).mem.answers = s.mem.answers := rfl

/-! ### State.advanceTo -/

@[simp] theorem State.advanceTo_fuse (s : State) (t : Tick) : (s.advanceTo t).fuse = s.fuse := by
  unfold State.advanceTo; split <;> rfl
@[simp] theorem State.advanceTo_pin (s : State) (t : Tick) : (s.advanceTo t).pin = s.pin := by
  unfold State.advanceTo; split <;> rfl
@[simp] theorem State.advanceTo_regs (s : State) (t : Tick) : (s.advanceTo t).regs = s.regs := by
  unfold State.advanceTo; split <;> rfl
@[simp] theorem State.advanceTo_latch (s : State) (t : Tick) : (s.advanceTo t).latch = s.latch := by
  unfold State.advanceTo; split <;> rfl
@[simp] theorem State.advanceTo_bus (s : State) (t : Tick) : (s.advanceTo t).bus = s.bus := by
  unfold State.advanceTo; split <;> rfl
@[simp] theorem State.advanceTo_lat (s : State) (t : Tick) : (s.advanceTo t).lat = s.lat := by
  unfold State.advanceTo; split <;> rfl
@[simp] theorem State.advanceTo_eng (s : State) (t : Tick) : (s.advanceTo t).eng = s.eng := by
  unfold State.advanceTo; split <;> rfl
@[simp] theorem State.advanceTo_tg (s : State) (t : Tick) : (s.advanceTo t).tg = s.tg := by
  unfold State.advanceTo; split <;> rfl
@[simp] theorem State.advanceTo_lanes (s : State) (t : Tick) : (s.advanceTo t).lanes = s.lanes := by
  unfold State.advanceTo; split <;> rfl
@[simp] theorem State.advanceTo_eth (s : State) (t : Tick) : (s.advanceTo t).eth = s.eth := by
  unfold State.advanceTo; split <;> rfl
@[simp] theorem State.advanceTo_pa (s : State) (t : Tick) : (s.advanceTo t).pa = s.pa := by
  unfold State.advanceTo; split <;> rfl
@[simp] theorem State.advanceTo_nen (s : State) (t : Tick) : (s.advanceTo t).nen = s.nen := by
  unfold State.advanceTo; split <;> rfl
@[simp] theorem State.advanceTo_host (s : State) (t : Tick) : (s.advanceTo t).host = s.host := by
  unfold State.advanceTo; split <;> rfl
@[simp] theorem State.advanceTo_stages (s : State) (t : Tick) : (s.advanceTo t).stages = s.stages := by
  unfold State.advanceTo; split <;> rfl
@[simp] theorem State.advanceTo_out (s : State) (t : Tick) : (s.advanceTo t).out = s.out := by
  unfold State.advanceTo; split <;> rfl
@[simp] theorem State.advanceTo_pwr (s : State) (t : Tick) : (s.advanceTo t).pwr = s.pwr := by
  unfold State.advanceTo; split <;> rfl
@[simp] theorem State.advanceTo_se (s : State) (t : Tick) : (s.advanceTo t).se = s.se := by
  unfold State.advanceTo; split <;> rfl
@[simp] theorem State.advanceTo_rv (s : State) (t : Tick) : (s.advanceTo t).rv = s.rv := by
  unfold State.advanceTo; split <;> rfl
@[simp] theorem State.advanceTo_dbg (s : State) (t : Tick) : (s.advanceTo t).dbg = s.dbg := by
  unfold State.advanceTo; split <;> rfl
@[simp] theorem State.advanceTo_paused (s : State) (t : Tick) : (s.advanceTo t).paused = s.paused := by
  unfold State.advanceTo; split <;> rfl
@[simp] theorem State.advanceTo_lf (s : State) (t : Tick) : (s.advanceTo t).lf = s.lf := by
  unfold State.advanceTo; split <;> rfl
@[simp] theorem State.advanceTo_free (s : State) (t : Tick) : (s.advanceTo t).free = s.free := by
  unfold State.advanceTo; split <;> rfl
@[simp] theorem State.advanceTo_pending (s : State) (t : Tick) : (s.advanceTo t).pending = s.pending := by
  unfold State.advanceTo; split <;> rfl

/-! ### Memory as time moves on -/

/-- What settling memory leaves alone: all but its bytes and their errors, and what waits for an instant. -/
structure Mem.Kept (m m' : Mem) : Prop where
  inflight : m'.inflight = m.inflight
  answers : m'.answers = m.answers
  nextId : m'.nextId = m.nextId
  degraded : m'.degraded = m.degraded
  waits : m'.waits = m.waits

theorem Mem.Kept.refl (m : Mem) : Mem.Kept m m := ⟨rfl, rfl, rfl, rfl, rfl⟩
theorem Mem.Kept.trans {a b c : Mem} (h : Mem.Kept a b) (k : Mem.Kept b c) : Mem.Kept a c :=
  ⟨k.1.trans h.1, k.2.trans h.2, k.3.trans h.3, k.4.trans h.4, k.5.trans h.5⟩

theorem Mem.put_kept (m : Mem) (off : Nat) (l : List Byte) : Mem.Kept m (m.put off l) := ⟨rfl, rfl, rfl, rfl, rfl⟩

theorem Mem.puts_kept (l : List Commit) (m : Mem) : Mem.Kept m (l.foldl (fun m c => m.put c.off c.data) m) := by
  induction l generalizing m with
  | nil => exact .refl m
  | cons c r ih => exact (Mem.put_kept m _ _).trans (ih _)

theorem Mem.settle_kept (m : Mem) (sn : Nat) : Mem.Kept m (m.settle sn) := by
  unfold Mem.settle
  obtain ⟨h1, h2, h3, h4, h5⟩ := Mem.puts_kept (m.commits.filter fun c => decide (c.at_ ≤ sn))
    { m with justNow := [], commits := m.commits.filter fun c => decide (sn < c.at_) }
  exact ⟨h1, h2, h3, h4, h5⟩

/-- Memory with nothing to be committed and nothing of the present instant stays as it is. -/
theorem Mem.settle_self (m : Mem) (sn : Nat) (h : m.commits = []) (h' : m.justNow = []) : m.settle sn = m := by
  cases m; simp_all [Mem.settle]

theorem State.advanceTo_mem_kept (s : State) (t : Tick) : Mem.Kept s.mem (s.advanceTo t).mem := by
  unfold State.advanceTo; split
  · exact .refl _
  · exact Mem.settle_kept _ _

theorem State.advanceTo_mem (s : State) (t : Tick) (h : s.mem.commits = []) (h' : s.mem.justNow = []) : (s.advanceTo t).mem = s.mem := by
  unfold State.advanceTo; split
  · rfl
  · exact Mem.settle_self _ _ h h'

@[simp] theorem State.advanceTo_mem_inflight (s : State) (t : Tick) : (s.advanceTo t).mem.inflight = s.mem.inflight := (s.advanceTo_mem_kept t).inflight
@[simp] theorem State.advanceTo_mem_answers (s : State) (t : Tick) : (s.advanceTo t).mem.answers = s.mem.answers := (s.advanceTo_mem_kept t).answers
@[simp] theorem State.advanceTo_mem_nextId (s : State) (t : Tick) : (s.advanceTo t).mem.nextId = s.mem.nextId := (s.advanceTo_mem_kept t).nextId
@[simp] theorem State.advanceTo_mem_degraded (s : State) (t : Tick) : (s.advanceTo t).mem.degraded = s.mem.degraded := (s.advanceTo_mem_kept t).degraded
@[simp] theorem State.advanceTo_mem_waits (s : State) (t : Tick) : (s.advanceTo t).mem.waits = s.mem.waits := (s.advanceTo_mem_kept t).waits

end Sys2Proof.Machine
end

