-- ==== Sys2Proof/Laws/Memory.lean ====
section
/-! SUPPORT. Memory and registers: a read after a store, and that every operation on the bytes of memory keeps the canonical
form.  The operations are `State.setBytes`, `State.loseBytes` and `State.cold`. -/

namespace Sys2Proof.Machine

/-! ### Bytes -/

theorem storeBytes_get (m : List Host.Cell) (a : Nat) (l : List Byte) (b : Nat) :
    Sparse.get memReset (storeBytes m a l) b = if a ≤ b ∧ b < a + l.length then l.getD (b - a) 0 else Sparse.get memReset m b := by
  induction l generalizing m a with
  | nil =>
    have h : ¬ (a ≤ b ∧ b < a + ([] : List Byte).length) := by simp only [List.length_nil]; omega
    rw [if_neg h]; rfl
  | cons x r ih =>
    rw [storeBytes, ih, Sparse.get_set]
    by_cases hb : b = a
    · subst hb; simp [show ¬ b + 1 ≤ b by omega]
    · by_cases h : a + 1 ≤ b ∧ b < a + 1 + r.length
      · have h2 : a ≤ b ∧ b < a + (x :: r).length := by simp; omega
        rw [if_pos h, if_pos h2, show b - a = (b - (a + 1)) + 1 by omega]
        simp
      · have h2 : ¬ (a ≤ b ∧ b < a + (x :: r).length) := by simp; omega
        rw [if_neg h, if_neg h2, if_neg hb]

/-- A byte after a store is the byte stored there, or what it was. -/
theorem State.byte_setBytes (s : State) (a : Nat) (l : List Byte) (b : Nat) :
    (s.setBytes a l).byte b = if a ≤ b ∧ b < a + l.length then l.getD (b - a) 0 else s.byte b :=
  storeBytes_get s.mem.bytes a l b

theorem State.byte_setBytes_outside (s : State) (a : Nat) (l : List Byte) (b : Nat) (h : b < a ∨ a + l.length ≤ b) :
    (s.setBytes a l).byte b = s.byte b := by
  rw [State.byte_setBytes, if_neg (by omega)]

@[simp] theorem State.bytesAt_length (s : State) (a n : Nat) : (s.bytesAt a n).length = n := by
  induction n generalizing a with
  | zero => rfl
  | succ n ih => simp [State.bytesAt, ih]

/-- Bytes that were stored read back. -/
theorem State.bytesAt_getD (s : State) (a n i : Nat) (h : i < n) : (s.bytesAt a n).getD i 0 = s.byte (a + i) := by
  induction n generalizing a i with
  | zero => omega
  | succ n ih =>
    cases i with
    | zero => simp [State.bytesAt]
    | succ i => simpa [State.bytesAt, Nat.add_comm, Nat.add_left_comm, Nat.add_assoc] using ih (a + 1) i (by omega)

theorem State.byte_loseBytes (s : State) (p : Nat → Bool) (b : Nat) (h : p b = false) : (s.loseBytes p).byte b = s.byte b :=
  Sparse.get_filter_of_keep memReset s.mem.bytes _ b (by rintro e - rfl; simp [h])

theorem State.byte_loseBytes_lost (s : State) (p : Nat → Bool) (b : Nat) (h : p b = true) : (s.loseBytes p).byte b = 0 :=
  Sparse.get_of_no_key memReset _ b fun e he hb => by
    have := (List.mem_filter.1 he).2
    rw [hb] at this
    simp [h] at this

/-! ### The canonical form -/

theorem storeBytes_wf (m : List Host.Cell) (a : Nat) (l : List Byte) (h : Memory.wf m = true) : Memory.wf (storeBytes m a l) = true := by
  induction l generalizing m a with
  | nil => exact h
  | cons x r ih => exact ih _ _ (Sparse.wf_set memReset m a x h)

theorem State.setBytes_wf (s : State) (a : Nat) (l : List Byte) (h : Memory.wf s.mem.bytes = true) :
    Memory.wf (s.setBytes a l).mem.bytes = true := storeBytes_wf _ _ _ h

theorem State.loseBytes_wf (s : State) (p : Nat → Bool) (h : Memory.wf s.mem.bytes = true) :
    Memory.wf (s.loseBytes p).mem.bytes = true := Sparse.wf_filter memReset _ _ h

/-- What each step of a walk keeps of memory, the walk keeps. -/
theorem State.foldl_mem {α : Type} (f : State → α → State) (h : ∀ s x, (f s x).mem = s.mem) (l : List α) (s : State) :
    (l.foldl f s).mem = s.mem := by
  induction l generalizing s with
  | nil => rfl
  | cons x r ih => rw [List.foldl_cons, ih, h]

theorem State.fuseMap_mem (s : State) : s.fuseMap.mem = s.mem := by
  unfold State.fuseMap
  split
  · rfl
  · exact State.foldl_mem _ (fun s i => State.setReg_mem s _ _) _ s

theorem State.cold_wf (s : State) (cause : Nat) (h : Memory.wf s.mem.bytes = true) : Memory.wf (s.cold cause).mem.bytes = true := by
  unfold State.cold
  dsimp only
  rw [State.setReg_mem, State.fuseMap_mem]
  exact Sparse.wf_filter memReset _ _ h

/-- Memory settles into the canonical form (R57). -/
theorem Mem.puts_wf (l : List Commit) (m : Mem) (h : Memory.wf m.bytes = true) :
    Memory.wf (l.foldl (fun m c => m.put c.off c.data) m).bytes = true := by
  induction l generalizing m with
  | nil => exact h
  | cons c r ih => exact ih _ (storeBytes_wf _ _ _ h)

theorem Mem.settle_wf (m : Mem) (sn : Nat) (h : Memory.wf m.bytes = true) : Memory.wf (m.settle sn).bytes = true :=
  Mem.puts_wf _ _ h

theorem State.advanceTo_wf (s : State) (t : Tick) (h : Memory.wf s.mem.bytes = true) : Memory.wf (s.advanceTo t).mem.bytes = true := by
  unfold State.advanceTo
  split
  · exact h
  · exact Mem.settle_wf _ _ h

theorem State.reset_wf : Memory.wf State.reset.mem.bytes = true := by decide

/-! ### Registers -/

/-- A register after a store is the word stored, modulo 2^32, or what it was. -/
theorem State.reg_setReg (s : State) (o v x : Nat) : (s.setReg o v).reg x = if x = o then v % 2 ^ 32 else s.reg x := by
  unfold State.reg State.setReg
  simp only [Sparse.get_set]
  split <;> simp

theorem State.reg_setReg_self (s : State) (o v : Nat) : (s.setReg o v).reg o = v % 2 ^ 32 := by simp [State.reg_setReg]

theorem State.reg_setReg_of_ne (s : State) (o v x : Nat) (h : x ≠ o) : (s.setReg o v).reg x = s.reg x := by
  simp [State.reg_setReg, h]

theorem State.reg_setRf_of_ne (s : State) (o hi lo v x : Nat) (h : x ≠ o) : (s.setRf o hi lo v).reg x = s.reg x :=
  State.reg_setReg_of_ne s o _ x h

theorem State.reg_setRb_of_ne (s : State) (o i : Nat) (b : Bool) (x : Nat) (h : x ≠ o) : (s.setRb o i b).reg x = s.reg x :=
  State.reg_setRf_of_ne s o i i _ x h

theorem State.reg_setReg64_of_ne (s : State) (o v x : Nat) (h : x ≠ o) (h4 : x ≠ o + 4) : (s.setReg64 o v).reg x = s.reg x := by
  rw [State.setReg64, State.reg_setReg_of_ne _ _ _ _ h4, State.reg_setReg_of_ne _ _ _ _ h]

theorem State.reg_lt (s : State) (o : Nat) : s.reg o < 2 ^ 32 := (Sparse.get regReset s.regs o).isLt

theorem State.reg64_setReg64 (s : State) (o v : Nat) : (s.setReg64 o v).reg64 o = v % 2 ^ 64 := by
  unfold State.reg64 State.setReg64
  rw [State.reg_setReg_of_ne _ _ _ _ (by omega), State.reg_setReg_self, State.reg_setReg_self]
  omega

/-! ### Units by number -/

theorem State.cell_setCell (s : State) (n m : Nat) (c : Cell) : (s.setCell n c).cell m = if m = n then c else s.cell m :=
  Sparse.get_set ..

theorem State.cx_setCx (s : State) (n m : Nat) (c : Ctx) : (s.setCx n c).cx m = if m = n then c else s.cx m := Sparse.get_set ..

theorem State.lane_setLane (s : State) (n m : Nat) (l : Lane) : (s.setLane n l).lane m = if m = n then l else s.lane m :=
  Sparse.get_set ..

theorem State.stage_setStage (s : State) (n m : Nat) (e : Stage) : (s.setStage n e).stage m = if m = n then e else s.stage m :=
  Sparse.get_set ..

theorem State.ring_setRing (s : State) (n m : Nat) (r : Ring) : (s.setRing n r).ring m = if m = n then r else s.ring m :=
  Sparse.get_set ..

theorem State.chan_setChan (s : State) (n m : Nat) (c : Chan) : (s.setChan n c).chan m = if m = n then c else s.chan m :=
  Sparse.get_set ..

theorem State.comb_setComb (s : State) (n m : Nat) (c : Comb) : (s.setComb n c).comb m = if m = n then c else s.comb m :=
  Sparse.get_set ..

theorem State.strm_setStrm (s : State) (n m : Nat) (c : Strm) : (s.setStrm n c).strm m = if m = n then c else s.strm m :=
  Sparse.get_set ..

theorem State.ep_setEp (s : State) (n m : Nat) (p : EPort) : (s.setEp n p).ep m = if m = n then p else s.ep m := Sparse.get_set ..

theorem State.np_setNp (s : State) (n m : Nat) (p : NPort) : (s.setNp n p).np m = if m = n then p else s.np m := Sparse.get_set ..

theorem State.pctx_setPctx (s : State) (n m : Nat) (c : PCtx) : (s.setPctx n c).pctx m = if m = n then c else s.pctx m :=
  Sparse.get_set ..

theorem State.engine_setEngine (s : State) (n m : Nat) (e : Eng) : (s.setEngine n e).engine m = if m = n then e else s.engine m :=
  Sparse.get_set ..

theorem State.west_setWest (s : State) (n m : Nat) (e : EdgeRow) : (s.setWest n e).west m = if m = n then e else s.west m :=
  Sparse.get_set ..

theorem State.east_setEast (s : State) (n m : Nat) (e : EdgeRow) : (s.setEast n e).east m = if m = n then e else s.east m :=
  Sparse.get_set ..

theorem Cell.plane_setPlane (c : Cell) (p q : Nat) (v : Plane) : (c.setPlane p v).plane q = if q = p then v else c.plane q :=
  Sparse.get_set ..

theorem Cell.queue_setQueue (c : Cell) (i j : Nat) (l : List Token) : (c.setQueue i l).queue j = if j = i then l else c.queue j :=
  Sparse.get_set ..

theorem Cell.mqq_setMqq (c : Cell) (i j : Nat) (l : List MqEntry) : (c.setMqq i l).mqq j = if j = i then l else c.mqq j :=
  Sparse.get_set ..

end Sys2Proof.Machine
end

