-- ==== Sys2Proof/Laws/Records.lean ====
section
/-! SUPPORT. What posting events, fault records and ring records can do: they touch registers, requests on their way, the host
interface, the holding stage of the host link and (a fault, in a recovery) Clove, and nothing else. -/

namespace Sys2Proof.Machine

/-- What the record operations leave alone. -/
structure RecordFrame (s s' : State) : Prop where
  bytes : s'.mem.bytes = s.mem.bytes
  poison : s'.mem.poison = s.mem.poison
  ecc : s'.mem.ecc = s.mem.ecc
  answers : s'.mem.answers = s.mem.answers
  fuse : s'.fuse = s.fuse
  pin : s'.pin = s.pin
  clk : s'.clk = s.clk
  latch : s'.latch = s.latch
  lat : s'.lat = s.lat
  eng : s'.eng = s.eng
  tg : s'.tg = s.tg
  lanes : s'.lanes = s.lanes
  eth : s'.eth = s.eth
  pa : s'.pa = s.pa
  nen : s'.nen = s.nen
  out : s'.out = s.out
  pwr : s'.pwr = s.pwr
  se : s'.se = s.se
  dbg : s'.dbg = s.dbg
  paused : s'.paused = s.paused
  lf : s'.lf = s.lf
  free : s'.free = s.free
  pending : s'.pending = s.pending

theorem RecordFrame.refl (s : State) : RecordFrame s s := by constructor <;> rfl

theorem RecordFrame.trans {a b c : State} (h : RecordFrame a b) (k : RecordFrame b c) : RecordFrame a c := by
  constructor
  · exact k.bytes.trans h.bytes
  · exact k.poison.trans h.poison
  · exact k.ecc.trans h.ecc
  · exact k.answers.trans h.answers
  · exact k.fuse.trans h.fuse
  · exact k.pin.trans h.pin
  · exact k.clk.trans h.clk
  · exact k.latch.trans h.latch
  · exact k.lat.trans h.lat
  · exact k.eng.trans h.eng
  · exact k.tg.trans h.tg
  · exact k.lanes.trans h.lanes
  · exact k.eth.trans h.eth
  · exact k.pa.trans h.pa
  · exact k.nen.trans h.nen
  · exact k.out.trans h.out
  · exact k.pwr.trans h.pwr
  · exact k.se.trans h.se
  · exact k.dbg.trans h.dbg
  · exact k.paused.trans h.paused
  · exact k.lf.trans h.lf
  · exact k.free.trans h.free
  · exact k.pending.trans h.pending

theorem RecordFrame.setReg (s : State) (o v : Nat) : RecordFrame s (s.setReg o v) := by constructor <;> simp
theorem RecordFrame.setRf (s : State) (o hi lo v : Nat) : RecordFrame s (s.setRf o hi lo v) := by constructor <;> simp
theorem RecordFrame.setRb (s : State) (o i : Nat) (b : Bool) : RecordFrame s (s.setRb o i b) := by constructor <;> simp
theorem RecordFrame.inc (s : State) (o n : Nat) : RecordFrame s (s.inc o n) := by constructor <;> simp
theorem RecordFrame.inc64 (s : State) (o n : Nat) : RecordFrame s (s.inc64 o n) := by constructor <;> simp
theorem RecordFrame.setRing (s : State) (n : Nat) (r : Ring) : RecordFrame s (s.setRing n r) := by constructor <;> simp
theorem RecordFrame.setStage (s : State) (n : Nat) (e : Stage) : RecordFrame s (s.setStage n e) := by constructor <;> simp
theorem RecordFrame.issue (s : State) (r : MemReq) : RecordFrame s (s.issue r) := by constructor <;> simp
theorem RecordFrame.setHost (s : State) (h : HostIf) : RecordFrame s { s with host := h } := by constructor <;> rfl
theorem RecordFrame.setRv (s : State) (v : Clove) : RecordFrame s { s with rv := v } := by constructor <;> rfl

/-- Issuing a write in pieces adds requests and does nothing else. -/
theorem RecordFrame.issueCut (r : MemReq) (f : Nat) (s : State) (a : Nat) (l : List Byte) :
    RecordFrame s (State.issueCut r f s a l) := by
  induction f generalizing s a l with
  | zero => exact .refl s
  | succ f ih =>
    cases l with
    | nil => exact .refl s
    | cons b l => exact (RecordFrame.issue s _).trans (ih _ _ _)

theorem RecordFrame.post (s : State) (i : Issuer) (a : Nat) (l : List Byte) : RecordFrame s (s.post i a l) := .issueCut ..

theorem RecordFrame.offer (s : State) (e : Nat) (h : Held) : RecordFrame s (s.offer e h) := .setStage ..

/-- A vector signalled sets its pending bit, or is recorded and offered to the stage of the host link. -/
theorem RecordFrame.signal (s : State) (v : Nat) : RecordFrame s (s.signal v) := by
  unfold State.signal
  dsimp only
  split
  · exact .setRb ..
  · exact (RecordFrame.setHost s _).trans (.offer ..)

theorem RecordFrame.ringSignal (s : State) (r : Nat) : RecordFrame s (s.ringSignal r) := by
  unfold State.ringSignal
  dsimp only
  split
  · split
    · exact .setRing ..
    · exact (RecordFrame.setRing s r _).trans (.signal ..)
  · exact .refl s

theorem RecordFrame.ringReturn (s : State) (r : Nat) (mid : List Byte) : RecordFrame s (s.ringReturn r mid) := by
  unfold State.ringReturn
  dsimp only
  exact (RecordFrame.post s _ _ _).trans <| (RecordFrame.post _ _ _ _).trans <| (RecordFrame.setRing _ _ _).trans <|
    (RecordFrame.setRf _ _ _ _ _).trans <| (RecordFrame.inc64 _ _ _).trans (.ringSignal ..)

theorem RecordFrame.bufReturn (s : State) (r : Nat) : RecordFrame s (s.bufReturn r) := by
  unfold State.bufReturn
  split
  · exact .refl s
  · exact (RecordFrame.setRing s _ _).trans (.ringReturn ..)

theorem RecordFrame.bufPut (s : State) (r stamp : Nat) (rcd : List Byte) : RecordFrame s (s.bufPut r stamp rcd).1 := by
  unfold State.bufPut
  split
  · exact .refl s
  · dsimp only
    split
    · exact .refl s
    · split
      · exact (RecordFrame.post s _ _ _).trans ((RecordFrame.setRing _ _ _).trans (.bufReturn ..))
      · exact (RecordFrame.post s _ _ _).trans (.setRing ..)

theorem RecordFrame.ringRecord (s : State) (r stamp : Nat) (rcd : List Byte) : RecordFrame s (s.ringRecord r stamp rcd).1 := by
  unfold State.ringRecord
  split
  · dsimp only
    split
    · exact .bufPut ..
    · split
      · exact (RecordFrame.bufReturn s r).trans (.bufPut ..)
      · exact .bufPut ..
  · exact .refl s

theorem RecordFrame.ringClaim (s : State) (r owner : Nat) : RecordFrame s (s.ringClaim r owner).1 := by
  unfold State.ringClaim
  dsimp only
  split
  · exact .refl s
  · split
    · split
      · exact .refl s
      · exact .setRf ..
    · split
      · exact .refl s
      · exact .inc ..

/-- An event reaches the event ring, waits on the chip, or is counted as lost. -/
theorem RecordFrame.eventN (s : State) (code unit count : Nat) (arg : List Byte) : RecordFrame s (s.eventN code unit count arg) := by
  unfold State.eventN
  dsimp only
  split
  · split
    · exact (RecordFrame.setHost s _).trans (.ringRecord ..)
    · split
      · exact ((RecordFrame.setHost s _).trans (.ringRecord ..)).trans (.setHost ..)
      · exact ((RecordFrame.setHost s _).trans (.ringRecord ..)).trans (.inc ..)
  · split
    · exact RecordFrame.setHost s _
    · split
      · exact (RecordFrame.setHost s _).trans (.setHost ..)
      · exact (RecordFrame.setHost s _).trans (.inc ..)

theorem RecordFrame.event (s : State) (code unit : Nat) (arg : List Byte) : RecordFrame s (s.event code unit arg) := .eventN ..

theorem RecordFrame.flushEvents (l : List EventRec) (s : State) : RecordFrame s (s.flushEvents l) := by
  induction l generalizing s with
  | nil => exact .setHost ..
  | cons e r ih =>
    unfold State.flushEvents
    dsimp only
    split
    · exact (RecordFrame.ringRecord s _ _ _).trans (ih _)
    · exact (RecordFrame.ringRecord s _ _ _).trans (.setHost ..)

theorem RecordFrame.quietEnd (s : State) (code unit : Nat) : RecordFrame s (s.quietEnd code unit) := by
  unfold State.quietEnd
  split
  · exact .refl s
  · split
    · exact .refl s
    · dsimp only
      split
      · exact .setHost ..
      · exact (RecordFrame.setHost s _).trans (.eventN ..)

theorem RecordFrame.eventLimited (s : State) (code unit len : Nat) (arg : List Byte) :
    RecordFrame s (s.eventLimited code unit len arg) := by
  unfold State.eventLimited
  dsimp only
  refine (RecordFrame.quietEnd s code unit).trans ?_
  split
  · exact (RecordFrame.setHost _ _).trans (.event ..)
  · exact .setHost ..

theorem RecordFrame.faultInRecovery (s : State) : RecordFrame s s.faultInRecovery := by
  unfold State.faultInRecovery
  split
  · split
    · exact (RecordFrame.setRv s _).trans (.setRf ..)
    · exact .refl s
  · exact .refl s

/-- A fault record reaches the fault ring, waits on the chip, or is counted as lost. -/
theorem RecordFrame.fault (s : State) (f : FaultRec) : RecordFrame s (s.fault f) := by
  unfold State.fault
  dsimp only
  split
  · split
    · exact (RecordFrame.setHost s _).trans ((RecordFrame.ringRecord _ _ _ _).trans (.faultInRecovery _))
    · split
      · exact ((RecordFrame.setHost s _).trans ((RecordFrame.ringRecord _ _ _ _).trans (.faultInRecovery _))).trans (.setHost ..)
      · exact ((RecordFrame.setHost s _).trans ((RecordFrame.ringRecord _ _ _ _).trans (.faultInRecovery _))).trans (.inc ..)
  · split
    · exact (RecordFrame.setHost s _).trans (.faultInRecovery _)
    · split
      · exact ((RecordFrame.setHost s _).trans (.faultInRecovery _)).trans (.setHost ..)
      · exact ((RecordFrame.setHost s _).trans (.faultInRecovery _)).trans (.inc ..)

theorem RecordFrame.refusedFault (s : State) (code addr : Nat) : RecordFrame s (s.refusedFault code addr) := .fault ..

theorem RecordFrame.flushFaults (l : List FaultRec) (s : State) : RecordFrame s (s.flushFaults l) := by
  induction l generalizing s with
  | nil => exact .setHost ..
  | cons e r ih =>
    unfold State.flushFaults
    dsimp only
    split
    · exact (RecordFrame.ringRecord s _ _ _).trans (ih _)
    · exact (RecordFrame.ringRecord s _ _ _).trans (.setHost ..)

end Sys2Proof.Machine
end

