-- ==== Sys2Proof/Laws/Registers.lean ====
section
/-! SUPPORT. The register map: a block is found past the blocks that end before it, and the registers of a repeated block are
those of its first copy, moved. -/

namespace Sys2Proof.Machine

/-- Blocks that end at or before an offset do not hold it. -/
theorem regWordAt_skip (o : Nat) (pre rest : List RegBlock) (h : ∀ b ∈ pre, b.base + b.stride * b.n ≤ o) :
    regWordAt o (pre ++ rest) = regWordAt o rest := by
  induction pre with
  | nil => rfl
  | cons b r ih =>
    have hb := h b (by simp)
    rw [List.cons_append, regWordAt, if_neg (by omega), ih fun c hc => h c (by simp [hc])]

/-- The word of a register, moved by `b`. -/
def RegWord.moved (w : RegWord) (b : Nat) : RegWord := { w with first := w.first + b }

theorem RegDef.word_moved (d : RegDef) (base o b : Nat) :
    d.word (base + b) (o + b) = (d.word base o).map (·.moved b) := by
  have e : o + b - (base + b + d.off) = o - (base + d.off) := by omega
  unfold RegDef.word
  by_cases h : o < base + d.off
  · rw [if_pos h, if_pos (by omega)]; rfl
  · rw [if_neg h, if_neg (by omega)]
    simp only [e]
    generalize (if d.n = 1 then 0 else (o - (base + d.off)) / d.step) = i
    generalize (if d.n = 1 then (o - (base + d.off)) / 4 else (o - (base + d.off)) % d.step / 4) = j
    split
    · simp only [Option.map_some, RegWord.moved, Option.some.injEq, RegWord.mk.injEq, true_and, and_true]; omega
    · rfl

theorem regWordIn_moved (base o b : Nat) (l : List RegDef) :
    regWordIn (base + b) (o + b) l = (regWordIn base o l).map (·.moved b) := by
  induction l with
  | nil => rfl
  | cons d r ih =>
    simp only [regWordIn, RegDef.word_moved]
    cases d.word base o with
    | none => exact ih
    | some w => rfl

/-- The blocks before CL end before it. -/
theorem regBlocks_before_cells : ∀ b ∈ regBlocks.take 68, b.base + b.stride * b.n ≤ 0x800000 := by
  rw [← List.forall_mem_map (f := fun b : RegBlock => b.base + b.stride * b.n) (P := (· ≤ 0x800000))]
  decide

/-- CL stands at place 68. -/
theorem regBlocks_cells :
    regBlocks = regBlocks.take 68 ++ { base := 0x800000, stride := 0x400, n := 6400, regs := regsCL } :: regBlocks.drop 69 := by
  simp [regBlocks, List.range, List.range.loop]

/-- A repeated block at the front of the list: the registers of its copy `i` are those of its first copy, moved. -/
theorem regWordAt_block (b : RegBlock) (rest : List RegBlock) (i r : Nat) (hi : i < b.n) (hr : r < b.stride) (w : RegWord)
    (h : regWordIn 0 r b.regs = some w) :
    regWordAt (b.base + b.stride * i + r) (b :: rest) = some (w.moved (b.base + b.stride * i)) := by
  have hp : 0 < b.stride := by omega
  have hm : b.stride * (i + 1) ≤ b.stride * b.n := Nat.mul_le_mul_left _ hi
  rw [Nat.mul_add] at hm
  have hd : (b.base + b.stride * i + r - b.base) / b.stride = i := by
    rw [show b.base + b.stride * i + r - b.base = r + b.stride * i by omega, Nat.add_mul_div_left _ _ hp,
      Nat.div_eq_of_lt hr, Nat.zero_add]
  unfold regWordAt
  rw [if_pos (by omega), hd, Nat.mul_comm i b.stride, Nat.add_comm _ r]
  have hm := regWordIn_moved 0 r (b.base + b.stride * i) b.regs
  rw [Nat.zero_add, h] at hm
  rw [hm]
  rfl

/-- The registers of a cell are those of the CL block, moved to the cell's base (R546). -/
theorem regWord_cell (n r : Nat) (hn : n < 6400) (hr : r < 0x400) (w : RegWord) (h : regWordIn 0 r regsCL = some w) :
    regWord (clB n + r) = some (w.moved (clB n)) := by
  have hc : 0x800000 ≤ clB n + r := by unfold clB; omega
  unfold regWord
  rw [regBlocks_cells, regWordAt_skip _ _ _ fun b hb => Nat.le_trans (regBlocks_before_cells b hb) hc]
  exact regWordAt_block _ _ n r hn hr w h

/-- A register of a cell resets to what the CL block says. -/
theorem regReset_cell (n r : Nat) (hn : n < 6400) (hr : r < 0x400) (w : RegWord) (h : regWordIn 0 r regsCL = some w) :
    regReset (clB n + r) = BitVec.ofNat 32 w.rst := by
  unfold regReset
  rw [regWord_cell n r hn hr w h]
  dsimp only
  rw [if_neg (by unfold clB; omega)]
  rfl

end Sys2Proof.Machine
end

