-- ==== Sys2Proof/Laws/Units.lean ====
section
/-! SUPPORT. What running one instruction can come to: a command for a cell or a context that does not issue the instruction changes
nothing, and for one that does it is the instruction's meaning, settled. -/

namespace Sys2Proof.Machine

/-- A cell whose present instruction is another, or that cannot run, is left as it is. -/
theorem State.cellOp_idle (s : State) (n op : Nat) (ok : Nat → Bool) (f : State → Nat → Nat → Nat → CellOut)
    (h : s.canRun n = false ∨ opF (s.curWord n) ≠ op) : s.cellOp n op ok f = s := by
  unfold State.cellOp State.runCell
  rw [if_neg]
  rcases h with h | h <;> simp [h]

/-- A cell that issues the instruction with its fields in order runs its meaning. -/
theorem State.cellOp_issues (s : State) (n op : Nat) (ok : Nat → Bool) (f : State → Nat → Nat → Nat → CellOut)
    (h : s.issues n op) (hok : ok (s.curWord n) = true) :
    s.cellOp n op ok f = settleOut n (s.cell n).turn (f s n (s.cell n).turn (s.curWord n)) := by
  obtain ⟨h1, h2, h3⟩ := h
  simp [State.cellOp, State.runCell, h1, h2, h3, hok]

/-- A cell that issues the instruction with a field out of order does not (R135). -/
theorem State.cellOp_bad (s : State) (n op : Nat) (ok : Nat → Bool) (f : State → Nat → Nat → Nat → CellOut)
    (h : s.issues n op) (hok : ok (s.curWord n) = false) :
    s.cellOp n op ok f = settleOut n (s.cell n).turn (badField s) := by
  obtain ⟨h1, h2, h3⟩ := h
  simp [State.cellOp, State.runCell, h1, h2, h3, hok]

/-- A context whose present instruction is another is left as it is. -/
theorem State.cxRun_idle (s : State) (n : Nat) (op : Nat → Bool) (timedOk : Bool) (f : EngSem) (h : op (opE (s.cxWord n)) = false) :
    s.cxRun n op timedOk f = s := by
  have h' : op (opE (s.slotWord n (s.cx n).slot)) = false := h
  unfold State.cxRun
  simp [h']

/-- A context that can run its present slot runs its meaning. -/
theorem State.cxRun_issues (s : State) (n o : Nat) (op : Nat → Bool) (timedOk : Bool) (f : EngSem) (h : s.cxIssues n o)
    (ho : op o = true) :
    s.cxRun n op timedOk f =
      match f (s.startTimeout n) n (s.cxWord n) with
      | .fault s' code addr => s'.cxFault n code (s.cx n).slot addr
      | .jump s' slot => s'.gotoSlot n slot
      | .wait s' => s'.setRun n 2
      | .read s' l =>
        ((s'.setCx n { s'.cx n with phase := .reading, insMem := some ((s'.cx n).insMem.getD s'.mem.bytes) }).takeEngine n).askAll n l
      | .done s' =>
        if o < 16 then s'.nextSlot n
        else (s'.setCx n { s'.cx n with phase := .busy, cache := [], insMem := none, refWaits := [] }).takeEngine n := by
  obtain ⟨h1, h2, h3, h4, h5, h6, h7, h8, h9, h10, h11, h12⟩ := h
  have hw : s.slotWord n (s.cx n).slot = s.cxWord n := rfl
  have hf : s.cxFree n = true := by simp [State.cxFree, h6]
  have ht : (decide (o < 16) || (s.engine (engineOf n)).busy == some n ||
      ((s.engine (engineOf n)).busy.isNone && s.arbiter (engineOf n) == some n)) = true := by
    rcases h9 with h9 | ⟨h9, h9'⟩
    · simp [h9]
    · simp [h9, h9']
  unfold State.cxRun
  cases hff : f (s.startTimeout n) n (s.cxWord n) <;>
    simp [hw, h1, h2, h3, h4, h5, hf, h8, ho, ht, wordBad, h10, h11, h12, hff]

end Sys2Proof.Machine
end

