-- ==== Sys2Proof/Tests/Cells.lean ====
section
/-! SUPPORT. Witnesses of the statements about the instructions of a cell: for each clause a small state and operands that
meet its hypotheses together, at instant 0, so that `advanceTo` moves nothing. -/

namespace Sys2Proof.Machine

set_option Elab.async false

/-- Cell 0 of a part with PW01 on and RUN = 1, its plane 0 as given, and one instruction word at address 0. -/
def wPlane (v : Plane) (w : Nat) : State :=
  ((State.reset.setRf (pwB 1 + 4) 1 0 2).setReg (clB 0) 1).setCell 0
    { planes := [(0, { v with st := .running })], code := [(0, BitVec.ofNat 64 w)] }

/-- The same with a plane as after reset. -/
def wWord (w : Nat) : State := wPlane {} w

/-- The same with one word of format S: opcode, RD, RA, RB, IMM. -/
def wS (op d a b imm : Nat) : Nat := op * 2 ^ 56 + d * 2 ^ 40 + a * 2 ^ 36 + b * 2 ^ 32 + imm

/-- A word of format B: opcode, RA, RB, K, COND, IMM20, TARGET. -/
def wB (op a b k c imm t : Nat) : Nat :=
  op * 2 ^ 56 + a * 2 ^ 40 + b * 2 ^ 36 + k * 2 ^ 33 + c * 2 ^ 30 + imm * 2 ^ 10 + t

/-- A word of format Q with a wait bound of 4 ns when it can wait: opcode, DST, SRCA, FMT, MOD. -/
def wQ (op wb d a fmt mod : Nat) : Nat := op * 2 ^ 56 + wb * 2 ^ 44 + d * 2 ^ 39 + a * 2 ^ 34 + 24 * 2 ^ 29 + fmt * 2 ^ 25 + mod

/-- The instruction at the front of cell 0 issues, with its fields in order. -/
def WMeets (s : State) (op : Nat) (ok : Nat → Bool) : Prop :=
  (s.advanceTo 0).issues 0 op ∧ ok ((s.advanceTo 0).curWord 0) = true

theorem witness_ScalarForms :
    (∀ r ∈ scalarOps, WMeets (wWord (wS r.2.1 15 1 15 0)) r.2.1 (fun w => okS w true true true)) ∧
    ∀ r ∈ scalarImmOps, WMeets (wWord (wS r.2.1 15 1 0 0xFFFFFFFF)) r.2.1 (fun w => okS w true true false) := by
  unfold WMeets; decide

theorem witness_FloatForms :
    (∀ r ∈ floatOps, WMeets (wWord (wS r.2.1 15 1 15 0)) r.2.1 (fun w => okS w true true true) ∧
      WMeets (wWord (wS r.2.2.2.1 0 15 0 0x7FC00000)) r.2.2.2.1 (fun w => okS w true true false)) ∧
    WMeets (wWord (wS 0x1F 3 3 0 0)) 0x1F (fun w => okS w true true true && decide (rbS w < 2)) ∧
    WMeets (wWord (wS 0x1F 15 0 1 0)) 0x1F (fun w => okS w true true true && decide (rbS w < 2)) := by
  unfold WMeets; decide

theorem witness_MoveCounterFlagForms :
    WMeets (wWord (wS 0x20 15 0 0 0x80000000)) 0x20 (fun w => okS w true false false) ∧
    WMeets (wWord (wS 0x21 15 0 0 0xFFFFFFFF)) 0x21 (fun w => okS w true false false) ∧
    WMeets (wWord (wS 0x22 14 0 0 0)) 0x22 (fun w => okS w true false false && rdS w % 2 == 0) ∧
    WMeets (wWord (wS 0x09 15 0 0 0)) 0x09 (fun w => okS w true false false) ∧
    WMeets (wWord (wS 0x0C 15 7 0 0)) 0x0C (fun w => okS w true true false && decide (raS w < 8)) ∧
    WMeets (wWord (wS 0x23 0 0 0 0)) 0x23 (fun w => okS w true false true && decide (rbS w < 2)) ∧
    WMeets (wWord (wS 0x23 15 0 1 0)) 0x23 (fun w => okS w true false true && decide (rbS w < 2)) ∧
    WMeets (wWord (wS 0x0B 7 0 0 0xFFFFFFFF)) 0x0B (fun w => okS w true false false && decide (rdS w < 8)) ∧
    WMeets (wWord (wS 0x0D 7 15 0 0)) 0x0D (fun w => okS w true true false && decide (rdS w < 8)) ∧
    WMeets (wWord (wS 0x0A 0 0 0 0x7F)) 0x0A (fun w => okS w false false false) := by
  unfold WMeets; decide

theorem witness_ControlForms :
    WMeets (wWord (wB 0x00 0 0 0 0 0 0)) 0x00 (fun w => okB w false false) ∧
    WMeets (wWord (wB 0x01 0 0 0 0 0 0)) 0x01 (fun w => okB w false false) ∧
    WMeets (wWord (wB 0x02 0 0 0 0 0 0)) 0x02 (fun w => okB w false false) ∧
    (let s := (wWord (wB 0x02 0 0 0 0 0 0)).setReg (clB 0 + 0xC) 0x10001
     WMeets s 0x02 (fun w => okB w false false) ∧ s.factor 0 ≠ 0 ∧ (s.pl 0 0).step = false) ∧
    WMeets (wWord (wB 0x03 0 0 0 0 0 1023)) 0x03 (fun w => okB w false false) ∧
    (∀ c ∈ List.range 6, WMeets (wWord (wB 0x04 0 15 0 c 0 1023)) 0x04 (fun w => okB w true false)) ∧
    WMeets (wWord (wB 0x05 0 0 0 0 127 5)) 0x05 (fun w => okB w false false && decide (imm20B w < 128)) ∧
    WMeets (wWord (wB 0x06 0 0 7 0 0 5)) 0x06 (fun w => okB w false true) ∧
    WMeets (wWord (wB 0x07 0 0 7 0 0xFFFFF 5)) 0x07 (fun w => okB w false true && imm20B w != 0) ∧
    WMeets (wWord (wB 0x07 0 0 7 0 0 5)) 0x07 (fun w => okB w false true && imm20B w == 0) := by
  unfold WMeets; decide

theorem witness_ControlForms_br : brTaken 0 0 0 ∧ ¬ brTaken 1 0 0 := by simp [brTaken]

theorem witness_FaultingForms :
    WMeets (wWord (wS 0x08 0 0 0 0xFFFF)) 0x08 (fun w => okS w false false false && decide (immS w < 2 ^ 16)) ∧
    ((wWord (wS 0xFF 0 0 0 0)).advanceTo 0).canRun 0 = true ∧ ((wWord (wS 0xFF 0 0 0 0)).advanceTo 0).turnOver 0 = false ∧
    definedOp (opF (((wWord (wS 0xFF 0 0 0 0)).advanceTo 0).curWord 0)) = false := by
  unfold WMeets; decide

end Sys2Proof.Machine
end

