-- ==== Sys2Proof/Tests/CellQueues.lean ====
section
/-! SUPPORT. Witnesses of the statements about queues, SRAM, requests, the MAC slab, steering, links, drains and the registers
of a cell. -/

namespace Sys2Proof.Machine

set_option Elab.async false

/-- Cell 0 of a part with PW01 on and RUN = 1, holding what is given, with plane 0 and one instruction word at address 0. -/
def wCell (c : Cell) (w : Nat) (v : Plane := {}) : State :=
  ((State.reset.setRf (pwB 1 + 4) 1 0 2).setReg (clB 0) 1).setCell 0
    { c with planes := [(0, { v with st := .running })], code := [(0, BitVec.ofNat 64 w)] }

/-- A token of a kind. -/
def wTok (kind payload : Nat) : Token := { kind := kind, epoch := 0, seq := 0, payload := BitVec.ofNat 128 payload }

/-- A cell with one data token in qi7 and one in qi0. -/
def wQueues : Cell := { q := [(0, [wTok 0 5]), (7, [wTok 0 9])] }

/-- A word of format M: opcode, wait bound, OPND, RA, MQ, C, OFFSET. -/
def wM (op wb o a mq c off : Nat) : Nat :=
  op * 2 ^ 56 + wb * 2 ^ 44 + o * 2 ^ 39 + a * 2 ^ 35 + mq * 2 ^ 34 + c * 2 ^ 33 + off

/-- A word of format T with a wait bound: opcode, CQ, DQ, OQ, LIST. -/
def wT (op c d o l : Nat) : Nat := op * 2 ^ 56 + 2 ^ 44 + c * 2 ^ 41 + d * 2 ^ 38 + o * 2 ^ 35 + l * 2 ^ 27

/-- The hypotheses of MOV. -/
def WMov (s : State) : Prop :=
  let s1 := s.advanceTo 0
  let w := s1.curWord 0
  let a := srcaQ w
  let d := dstQ w
  s1.issues 0 0x40 ∧ okQ w (isSrcQ a || isDstQ d) = true ∧ isSrc a = true ∧ isDst d = true ∧
  (if isPair a && isDstQ d then fmtQ w ≤ 4 else fmtQ w = 0) ∧
  (∃ k ∈ s1.srcTok 0 0 a, k.kind < 5) ∧ (isPair d = true ∨ ((s1.cell 0).queue (qoIdx d)).length < 16)

theorem witness_QueueForms_mov :
    WMov (wCell wQueues (wQ 0x40 1 7 7 0 0)) ∧ WMov (wCell wQueues (wQ 0x40 1 23 0 0 0)) ∧
    WMov (wCell wQueues (wQ 0x40 1 0 16 4 0)) ∧ WMov (wCell wQueues (wQ 0x40 0 16 23 0 0)) := by
  unfold WMov; decide

theorem witness_QueueForms_drop :
    let s1 := (wCell wQueues (wQ 0x41 1 24 7 0 0)).advanceTo 0
    let w := s1.curWord 0
    s1.issues 0 0x41 ∧ okQ w true = true ∧ isSrcQ (srcaQ w) = true ∧ dstQ w = 24 ∧ (s1.cell 0).queue (srcaQ w) ≠ [] := by
  decide

/-- The hypotheses of WAITQ. -/
def WWaitq (s : State) : Prop :=
  let s1 := s.advanceTo 0
  let w := s1.curWord 0
  let a := srcaQ w
  let d := dstQ w
  s1.issues 0 0x42 ∧ okQ w true = true ∧ ((a = 24 ∧ d ≤ 9) ∨ (d = 24 ∧ a ≤ 9)) ∧
  1 ≤ fld (modQ w) 5 0 ∧ fld (modQ w) 5 0 ≤ (s1.waitqFill 0 w).2 ∧
  fld (modQ w) 5 0 ≤ (if a = 24 then (s1.waitqFill 0 w).2 - (s1.waitqFill 0 w).1 else (s1.waitqFill 0 w).1)

theorem witness_QueueForms_waitq :
    WWaitq (wCell wQueues (wQ 0x42 1 24 7 0 1)) ∧ WWaitq (wCell wQueues (wQ 0x42 1 7 24 0 16)) ∧
    WWaitq (wCell wQueues (wQ 0x42 1 9 24 0 32)) := by
  unfold WWaitq; decide

theorem witness_QueueForms_waitt :
    let s1 := (wCell {} (wQ 0x43 1 24 16 0 0)).advanceTo 0
    let w := s1.curWord 0
    let v := s1.pl 0 0
    s1.issues 0 0x43 ∧ okQ w true = true ∧ isPair (srcaQ w) = true ∧ dstQ w = 24 ∧ v.deadline = none ∧
    unpack96 (v.pair (srcaQ w - 16) % 2 ^ 96) ≤ s1.sn := by
  decide

theorem witness_UnmetConditionsWait_mov :
    let s1 := (wCell wQueues (wQ 0x40 1 23 1 0 0)).advanceTo 0
    let w := s1.curWord 0
    s1.issues 0 0x40 ∧ okQ w true = true ∧ isSrcQ (srcaQ w) = true ∧ isDst (dstQ w) = true ∧ fmtQ w = 0 ∧
    (s1.cell 0).queue (srcaQ w) = [] := by
  decide

theorem witness_UnmetConditionsWait_lds :
    let s1 := (wCell { q := [(23, List.replicate 16 (wTok 0 1))] } (wM 0x50 1 7 0 0 0 49136)).advanceTo 0
    let w := s1.curWord 0
    let v := s1.pl 0 0
    s1.issues 0 0x50 ∧ okM w true false = true ∧ isDstQ (opndM w) = true ∧ v.addr w % 16 = 0 ∧ v.addr w + 16 ≤ 49152 ∧
    16 ≤ ((s1.cell 0).queue (qoIdx (opndM w))).length := by
  decide

/-- The hypotheses of an SRAM instruction of an access length on an address in bounds (`good`) or not. -/
def WSram (s : State) (op len : Nat) (waits : Nat → Bool) (opnd : Nat → Bool) (inside : Nat → Bool) : Prop :=
  let s1 := s.advanceTo 0
  let w := s1.curWord 0
  let a := (s1.pl 0 0).addr w
  s1.issues 0 op ∧ okM w (waits (opndM w)) false = true ∧ opnd (opndM w) = true ∧ a % len = 0 ∧ inside a = true

/-- No operand waits. -/
def never (_ : Nat) : Bool := false

theorem witness_SramForms :
    WSram (wCell {} (wM 0x50 1 7 0 0 0 0)) 0x50 16 isDstQ isDst (fun a => decide (a + 16 ≤ 49152)) ∧
    WSram (wCell {} (wM 0x50 0 23 0 0 0 49136)) 0x50 16 isDstQ isDst (fun a => decide (a + 16 ≤ 49152)) ∧
    WSram (wCell wQueues (wM 0x51 1 7 0 0 0 49136)) 0x51 16 isSrcQ isSrc (fun a => decide (a + 16 ≤ 49152)) ∧
    (∃ k ∈ ((wCell wQueues (wM 0x51 1 7 0 0 0 49136)).advanceTo 0).srcTok 0 0 7, k.kind = 0) ∧
    WSram (wCell {} (wM 0x51 0 16 0 0 0 0)) 0x51 16 isSrcQ isSrc (fun a => decide (a + 16 ≤ 49152)) ∧
    (∃ k ∈ ((wCell {} (wM 0x51 0 16 0 0 0 0)).advanceTo 0).srcTok 0 0 16, k.kind = 0) ∧
    WSram (wCell {} (wM 0x52 0 15 0 0 0 49144)) 0x52 8 never (fun o => decide (o < 16)) (fun a => decide (a + 8 ≤ 49152)) ∧
    WSram (wCell {} (wM 0x53 0 15 0 0 0 49144)) 0x53 8 never (fun o => decide (o < 16)) (fun a => decide (a + 8 ≤ 49152)) ∧
    WSram (wCell {} (wM 0x54 0 24 0 0 0 49088)) 0x54 64 never (fun o => o == 24) (fun a => decide (a + 64 ≤ 49152)) ∧
    WSram (wCell {} (wM 0x55 0 24 0 0 0 49088)) 0x55 64 never (fun o => o == 24) (fun a => decide (a + 64 ≤ 49152)) := by
  unfold WSram; decide

theorem witness_SramAddressFaults :
    (∀ x ∈ [(0x50, 1, 7, 16), (0x51, 1, 7, 16)],
      (∀ off ∈ [49152, 0xFFFFFFF0],
        WSram (wCell wQueues (wM x.1 x.2.1 x.2.2.1 0 0 0 off)) x.1 x.2.2.2 isDstQ isDst (fun a => decide (49152 < a + x.2.2.2))) ∧
      WSram (wCell wQueues (wM x.1 x.2.1 x.2.2.1 0 0 0 8)) x.1 1 isDstQ isDst (fun a => a % 16 != 0)) ∧
    (∀ x ∈ [(0x52, 15, 8), (0x53, 15, 8), (0x54, 24, 64), (0x55, 24, 64)],
      WSram (wCell {} (wM x.1 0 x.2.1 0 0 0 49152)) x.1 x.2.2 never (fun o => o == x.2.1) (fun a => decide (49152 < a + x.2.2)) ∧
      WSram (wCell {} (wM x.1 0 x.2.1 0 0 0 49151)) x.1 1 never (fun o => o == x.2.1) (fun a => a % x.2.2 != 0)) := by
  unfold WSram; decide

theorem witness_CellRequests_mld_mst :
    (let s1 := (wCell {} (wM 0x58 1 24 0 1 0 16)).advanceTo 0
     let w := s1.curWord 0
     s1.issues 0 0x58 ∧ okM w true false = true ∧ opndM w = 24 ∧ (s1.pl 0 0).addr w % 16 = 0 ∧
     ((s1.cell 0).mqq (mqM w)).length < 32) ∧
    (let s1 := (wCell wQueues (wM 0x59 1 7 0 0 1 16)).advanceTo 0
     let w := s1.curWord 0
     s1.issues 0 0x59 ∧ okM w true true = true ∧ isSrc (opndM w) = true ∧ (s1.pl 0 0).addr w % 16 = 0 ∧
     ((s1.cell 0).mqq (mqM w)).length < 32 ∧ ∃ k ∈ s1.srcTok 0 0 (opndM w), k.kind = 0) := by
  decide

/-- A read request waiting in mq1. -/
def wMq : MqEntry := { write := false, addr := 0, data := 0, answered := true, plane := 0, epoch := 0, pc := 0 }

/-- Its answer, once it has left as request 3. -/
def wAns : MemAns :=
  { req := { id := 3, issuer := .cell 0 0 1 true, addr := 0, write := false, len := 16 }, code := 0, data := leBytes 16 77 }

theorem witness_CellRequests_issue_answer :
    (let s1 := (wCell { mq := [(1, [wMq])] } 0).advanceTo 0
     s1.cellOn 0 = true ∧ (s1.cell 0).mqq 1 = wMq :: [] ∧ ((s1.cell 0).queue 9).length + (s1.cell 0).reserved 1 < 32) ∧
    (let o : OutReq := { mq := 1, id := 3, answered := true, pc := 0 }
     let s1 := ({ wCell { outst := [o] } 0 with mem := { answers := [wAns] } }).advanceTo 0
     s1.nextAnswer 0 1 = some (o, wAns) ∧ o.dead = false ∧ wAns.req.epoch = s1.clEpoch 0 ∧ wAns.code = 0 ∧
     wAns.poison = false ∧ wAns.req.write = false) := by
  decide

theorem witness_MacForms :
    (let s1 := (wCell wQueues (wQ 0x60 1 24 7 6 447)).advanceTo 0
     let w := s1.curWord 0
     s1.issues 0 0x60 ∧ okQ w (isSrcQ (srcaQ w)) = true ∧ isSrc (srcaQ w) = true ∧ dstQ w = 24 ∧ fmtQ w ≤ 6 ∧ modQ w < 512 ∧
     modQ w % 256 < 192 ∧ ∃ k ∈ s1.srcTok 0 0 (srcaQ w), k.kind = 0) ∧
    (let s1 := (wCell {} (wQ 0x60 0 24 23 0 0)).advanceTo 0
     let w := s1.curWord 0
     s1.issues 0 0x60 ∧ okQ w (isSrcQ (srcaQ w)) = true ∧ isSrc (srcaQ w) = true ∧ dstQ w = 24 ∧ fmtQ w ≤ 6 ∧ modQ w < 512 ∧
     modQ w % 256 < 192 ∧ ∃ k ∈ s1.srcTok 0 0 (srcaQ w), k.kind = 0) ∧
    (∀ f ∈ [0, 1], let s1 := (wCell wQueues (wQ 0x61 1 24 0 f 3)).advanceTo 0
     let w := s1.curWord 0
     s1.issues 0 0x61 ∧ okQ w (isSrcQ (srcaQ w)) = true ∧ isSrc (srcaQ w) = true ∧ dstQ w = 24 ∧ fmtQ w ≤ 1 ∧ modQ w < 4 ∧
     ∃ k ∈ s1.srcTok 0 0 (srcaQ w), k.kind = 0) := by
  decide

theorem witness_OutputForms_aout :
    ∀ x ∈ [(1, 7), (0, 23)], let s1 := (wCell { apsn := true } (wQ 0x62 x.1 x.2 24 1 3)).advanceTo 0
     let w := s1.curWord 0
     s1.issues 0 0x62 ∧ okQ w (isDstQ (dstQ w)) = true ∧ isDst (dstQ w) = true ∧ srcaQ w = 24 ∧ fmtQ w ≤ 1 ∧ modQ w < 4 ∧
     emitRoom s1 0 0 (dstQ w) 1 := by
  decide

theorem witness_OutputForms_act :
    ∀ x ∈ [(1, 7, 4, 3072 + 131072), (0, 23, 1, 0), (0, 16, 0, 1024)],
     let s1 := (wCell {} (wQ 0x63 x.1 x.2.1 24 x.2.2.1 x.2.2.2)).advanceTo 0
     let w := s1.curWord 0
     let m := modQ w
     let v := s1.pl 0 0
     s1.issues 0 0x63 ∧ okQ w (isDstQ (dstQ w)) = true ∧ isDst (dstQ w) = true ∧ srcaQ w = 24 ∧ fmtQ w ≤ 4 ∧ m < 2 ^ 18 ∧
     (bit m 10 = true ∨ fmtQ w < 3) ∧ (isDstQ (dstQ w) = true ∨ fmtQ w < 2) ∧
     (bit m 11 = true → v.xr (m % 16) % 64 = 0 ∧ v.xr (m % 16) + 64 ≤ 49152) ∧ emitRoom s1 0 0 (dstQ w) 3 := by
  decide

/-- A steering cell: control token in qi0 (SEL 1, PASS, COUNT 2), data in qi1 and qi2, qo empty. -/
def wSteer : Cell := { q := [(0, [wTok 0 (0x111)]), (1, [wTok 0 1, wTok 0 2]), (2, [wTok 3 7, wTok 2 0, wTok 0 3])] }

theorem witness_SteeringForms :
    (∀ ct ∈ (wSteer.queue 0).head?, ct.kind < 2 ∧ countC ct = 2 ∧ selC ct = 1 ∧ passC ct = true) ∧
    (let s1 := (wCell wSteer (wT 0x70 0 1 7 0)).advanceTo 0
     let w := s1.curWord 0
     s1.issues 0 0x70 ∧ okT w = true ∧ listT w = 0 ∧ cqT w ≠ dqT w ∧
     takeData 2 ((s1.cell 0).queue (dqT w)) = some [wTok 0 1, wTok 0 2] ∧ badData (wTok 0 1) = false) ∧
    (let s1 := (wCell wSteer (wT 0x71 0 2 0 0x81)).advanceTo 0
     let w := s1.curWord 0
     s1.issues 0 0x71 ∧ okT w = true ∧ oqT w = 0 ∧ listT w ≠ 0 ∧ cqT w ≠ dqT w ∧ (listQ w)[1]? = some 7 ∧
     takeData 2 ((s1.cell 0).queue (dqT w)) = some [wTok 3 7, wTok 2 0, wTok 0 3]) ∧
    (let s1 := (wCell wSteer (wT 0x73 0 0 7 6)).advanceTo 0
     let w := s1.curWord 0
     s1.issues 0 0x73 ∧ okT w = true ∧ dqT w = 0 ∧ listT w ≠ 0 ∧ bit (listT w) (cqT w) = false ∧ (listQ w)[1]? = some 2) ∧
    (let s1 := (wCell wSteer (wT 0x72 0 2 0 0)).advanceTo 0
     let w := s1.curWord 0
     s1.issues 0 0x72 ∧ okT w = true ∧ listT w = 0 ∧ cqT w ≠ dqT w) := by
  decide

theorem witness_SteeringForms_first :
    let s1 := ((wCell wSteer (wT 0x74 0 0 7 0xFE)).setRb (clB 0 + 8) 16 true).advanceTo 0
    let w := s1.curWord 0
    s1.issues 0 0x74 ∧ okT w = true ∧ cqT w = 0 ∧ dqT w = 0 ∧ listT w ≠ 0 ∧ s1.relaxed 0 = true ∧
    (listQ w).find? (fun q => !((s1.cell 0).queue q).isEmpty) = some 1 ∧ ((s1.cell 0).queue (qoIdx (oqT w))).length < 16 := by
  decide

/-- Cells 1 and 2 with a circuit from qo0 of cell 1 over its E port into qi3 of cell 2, the map as after reset. -/
def wLink : State :=
  let s := ((State.reset.setRf (pwB 1 + 4) 1 0 2).setReg (mapReg 0 1) 1).setReg (mapReg 0 2) 2
  (s.setCell 1 { q := [(16, [wTok 0 9])], slotOut := [(16, 1)] }).setCell 2 { slotIn := [(48, 1 + 3 * 8)] }

theorem witness_LinkAndBoundCommands_cells :
    let s1 := wLink.advanceTo 0
    let e := (s1.cell 1).outE 1 0
    s1.cellOn 1 = true ∧ s1.cellOn 2 = true ∧ s1.neighbour 1 .e = some 2 ∧ s1.routeOpen 1 = false ∧ s1.routeOpen 2 = false ∧
    bit e 0 = true ∧ bit e 1 = false ∧ (s1.cell 1).queue (qoIdx (fld e 7 5)) = [wTok 0 9] ∧
    s1.accepts 2 3 0 3 { wTok 0 9 with seq := 0 } ∧ s1.usableOf 1 = some 1 := by
  decide

/-- Cell 0 with an incoming circuit into qi3 at its W port, and cell 95 with one at its E port; a token waits at each edge. -/
def wEdge : State :=
  let s := (((State.reset.setRf (pwB 1 + 4) 1 0 2).setReg (mapReg 0 95) 95).setReg (tgOut 0 0) 1).setReg (paOut 0 0) 1
  let s := (s.setCell 0 { slotIn := [(48, 1 + 3 * 8)] }).setCell 95 { slotIn := [(16, 1 + 3 * 8)] }
  (s.setWest 0 { out := [(0, [wTok 0 9])] }).setEast 0 { out := [(0, [wTok 0 9])] }

theorem witness_LinkAndBoundCommands_edges :
    let s1 := wEdge.advanceTo 0
    s1.physOf 0 0 = 0 ∧ s1.cellOn 0 = true ∧ s1.edgeStop 0 = false ∧ s1.routeOpen 0 = false ∧ s1.routeOpen 95 = false ∧
    s1.rb (tgOut 0 0) 0 = true ∧
    Sparse.get (fun _ => []) (s1.west 0).out 0 = [wTok 0 9] ∧ s1.accepts 0 3 0 3 (wTok 0 9) ∧
    s1.physOf 0 95 = 95 ∧ s1.cellOn 95 = true ∧ s1.edgeStop 95 = false ∧ s1.rb (paOut 0 0) 0 = true ∧
    Sparse.get (fun _ => []) (s1.east 0).out 0 = [wTok 0 9] ∧ s1.accepts 95 1 0 3 (wTok 0 9) := by
  decide

theorem witness_LinkAndBoundCommands_bound :
    (let s0 := wCell {} (wQ 0x40 1 23 1 0 0) { waitFrom := some 0 }
     let s1 := { s0 with clk := { s0.clk with saf := 4 * tns * fine } }.advanceTo 0
     s1.canRun 0 = true ∧ (s1.pl 0 0).waitFrom = some 0 ∧ (∃ x, s1.unmet 0 = some x) ∧ s1.isPaused (s1.clBind 0) = false ∧
     0 + boundF (s1.curWord 0) ≤ s1.sn ∧ opF (s1.curWord 0) ≠ 0x43) ∧
    (let s1 := (wPlane { owed := [7] } 0).advanceTo 0
     7 ∈ (s1.pl 0 0).owed ∧ ((s1.cell 0).queue (qoIdx 7)).length < 16) := by
  refine ⟨⟨by decide, by decide, ⟨(1, Code.QUEUE_UNDERFLOW, 0), by decide⟩, by decide, by decide, by decide⟩, by decide⟩

theorem witness_CellRegisterCommands :
    (let s1 := ((wCell wQueues 0).setReg (clB 0) 0).advanceTo 0
     s1.cellOn 0 = true ∧ s1.running 0 = false ∧ s1.factor 0 = 0 ∧ (s1.cell 0).throughBroken = false) ∧
    (let s1 := (wCell wQueues 0).advanceTo 0
     s1.cellOn 0 = true ∧ s1.running 0 = true ∧ s1.written (clB 0 + 8) 0x7FF01 = (s1, 0x7FF01)) ∧
    (∀ x ∈ [(0, 1023), (1, 15), (2, 7), (3, 15), (4, 255)],
     let s1 := (((wCell wQueues 0).setReg (clB 0) 0).setReg (clB 0 + 0x80) (x.1 + x.2 * 256)).advanceTo 0
     s1.running 0 = false ∧ s1.indAddr 0 = (x.1, 0, 0, x.2)) := by
  decide

theorem witness_SlotEntryWrites :
    (∀ x ∈ [(5, 511), (5, 0), (6, 63), (6, 0)],
     let s1 := ((wCell { slotOut := [(63, 1)], slotIn := [(63, 1)] } 0).setReg (clB 0 + 0x80) (x.1 + 3 * 32 + 15 * 256)).advanceTo 0
     s1.cellOn 0 = true ∧ s1.indAddr 0 = (x.1, 0, 3, 15) ∧ bit ((s1.cell 0).outE 3 15) 0 = true ∧
     bit ((s1.cell 0).inE 3 15) 0 = true) ∧
    (let d := 1 + 4 * 4 + 256
     d < 512 ∧ fld d 4 2 < 5 ∧ bit d 0 = true) ∧ ((57 : Nat) < 64 ∧ fld 57 2 1 ≠ 3 ∧ bit 57 0 = true) := by
  decide

theorem witness_DrainCommands_go : (State.reset.advanceTo 0).rb 0x30038 9 = false := by decide

/-- A drain of binding 1 in progress, with cell 0 its only cell. -/
def wDrain (st : PlaneState) : State :=
  ((State.reset.setReg 0x30038 0x201).setReg (clB 0 + 8) 0x100).setCell 0 { planes := [(0, { st := st })] }

theorem wDrain_bind (st : PlaneState) (n : Nat) (hn : n < 6400) (h0 : n ≠ 0) : ((wDrain st).advanceTo 0).clBind n = 0 := by
  have h1 : ¬ clB n + 8 = 0x30038 := by unfold clB; omega
  have h2 : ¬ clB n + 8 = clB 0 + 8 := by unfold clB; omega
  have e : ((wDrain st).advanceTo 0).regs = [(0x30038, 0x201), (clB 0 + 8, 0x100)] := by
    cases st <;> decide
  unfold State.clBind State.rf State.reg
  rw [e]
  simp only [Sparse.get, if_neg h1, if_neg h2, regReset_cell n 8 hn (by omega) _ rfl]
  rfl

theorem witness_DrainCommands_done :
    let s1 := (wDrain .halted).advanceTo 0
    s1.rb 0x30038 9 = true ∧ s1.clk.now ≤ s1.rv.drainFrom + s1.drainBound ∧
    ∀ n, n < 6400 → s1.clBind n = s1.rf 0x30038 7 0 → s1.drained n = true := by
  refine ⟨by decide, by decide, fun n hn h => ?_⟩
  by_cases h0 : n = 0
  · subst h0; decide
  · rw [wDrain_bind _ n hn h0] at h; exact absurd h (by decide)

theorem witness_DrainCommands_expiry :
    let s0 := wDrain .running
    let s1 := { s0 with clk := { s0.clk with now := 100 * tus } }.advanceTo 0
    s1.rb 0x30038 9 = true ∧ s1.rv.drainFrom + s1.drainBound ≤ s1.clk.now ∧
    0 < 6400 ∧ s1.clBind 0 = s1.rf 0x30038 7 0 ∧ s1.drained 0 = false := by
  decide

end Sys2Proof.Machine
end

