-- ==== Sys2Proof/Tests/Engines.lean ====
section
/-! SUPPORT. Witnesses of the statements about engines, their contexts and Clove. -/

namespace Sys2Proof.Machine

set_option Elab.async false

/-- A word of an engine instruction: opcode, context, OPF, TIME, OPERAND. -/
def wWordE (op n opf time oper : Nat) : Nat := op * 2 ^ 120 + n * 2 ^ 112 + opf * 2 ^ 104 + time * 2 ^ 64 + oper

/-- Where the operands of a witness stand: the Shared Store. -/
abbrev wA : Nat := 0x2000000000

/-- The memory cells of bytes from an address on. -/
def wPlace : Nat → List Byte → List Host.Cell
  | _, [] => []
  | a, b :: r => if b = 0 then wPlace (a + 1) r else (a, b) :: wPlace (a + 1) r

/-- Context `n` of a powered engine, RUNNING at slot 0, which holds one word; the Shared Store holds what is given. -/
def wEng (n op opf time oper : Nat) (data : List (Nat × List Byte) := []) (c : Ctx := {}) : State :=
  let s := ((State.reset.setRf (pwB (engDom (engineOf n)) + 4) 1 0 2).setRf (pwB 17 + 4) 1 0 2).setCxState n 1
  { s.setCx n { c with phase := .ready, len := 1 } with
    mem := { bytes := data.flatMap (fun d => wPlace d.1 d.2) ++ wPlace (winAt n 0) (leBytes 16 (wWordE op n opf time oper)) } }

/-- Context `n` of a powered engine, with nothing in its window. -/
def wCx (n : Nat) (c : Ctx) (st : Nat := 0) : State :=
  ((State.reset.setRf (pwB (engDom (engineOf n)) + 4) 1 0 2).setCxState n st).setCx n c

theorem witness_DispatchAndCommands_stores :
    (let s1 := (wCx 99 {}).advanceTo 0
     s1.engOn (engineOf 99) = true ∧ 8191 ∉ (s1.cx 99).present ∧ ¬ (0 = s1.cxBind 99 ∧ 0 ≠ 0 ∧ 5 ≠ s1.cxEpoch 99)) ∧
    (let s1 := ((wCx 0 { present := [8191] }).setReg (cxB 0 + 8) 0x100).advanceTo 0
     s1.engOn (engineOf 0) = true ∧ 8191 ∈ (s1.cx 0).present ∧ ¬ (1 = s1.cxBind 0 ∧ 1 ≠ 0 ∧ 0 ≠ s1.cxEpoch 0) ∧
     (1 = s1.cxBind 0 ∧ 1 ≠ 0 ∧ 5 ≠ s1.cxEpoch 0)) := by
  decide

theorem witness_DispatchAndCommands_run :
    (let s1 := ((wCx 0 { present := [0] }).setBytes (winAt 0 0) (leBytes 16 (wWordE 1 0 0 0 0))).advanceTo 0
     s1.engOn (engineOf 0) = true ∧ s1.cxIdle 0 = true ∧ s1.unsealed 0 = false ∧
     s1.cmdLen 0 (s1.cx 0).present (s1.cxHead 0) slots 0 = some 1) ∧
    (let s1 := (wCx 0 { phase := .sealed, len := 8192 } 1).advanceTo 0
     (s1.cx 0).phase = .sealed ∧ s1.cxLive 0 = true ∧ s1.cxState 0 ≠ 5 ∧ (s1.cx 0).dbg = false ∧ (s1.cx 0).stopReq = 0 ∧
     s1.cxWrites 0 = false ∧ (s1.cx 0).atEnd = [] ∧ (s1.cx 0).len ≤ 8192) ∧
    (let s1 := (wCx 0 { phase := .busy } 1).advanceTo 0
     (s1.cx 0).phase = .busy ∧ s1.cxLive 0 = true ∧ (s1.cx 0).stopReq = 0 ∧ s1.rv.replay ≠ some 0) := by
  decide

theorem witness_SequencerForms_plain :
    ∀ op ∈ [0x00, 0x01, 0x07], ((wEng 0 op 1 0 0).advanceTo 0).cxIssues 0 op := by
  decide

theorem witness_SequencerForms_waits :
    (let s1 := (wEng 99 0x06 0 0 0).advanceTo 0
     s1.cxIssues 99 0x06 ∧ s1.cxState 99 ≠ 5 ∧ s1.cxWrites 99 = false) ∧
    (let s1 := (wEng 0 0x03 0 0 1).advanceTo 0
     s1.cxIssues 0 0x03 ∧ (s1.cx 0).deadline = none ∧ s1.cxState 0 ≠ 5 ∧ s1.sn < s1.nearTime (operE (s1.cxWord 0))) ∧
    (let s1 := (wEng 0 0x05 0 0 wA).advanceTo 0
     s1.cxIssues 0 0x05 ∧ operE (s1.cxWord 0) % 16 = 0 ∧ s1.cxWrites 0 = false) := by
  decide

theorem witness_SequencerForms_loop :
    let s0 := (wEng 0 0 0 0 0).setBytes (winAt 0 16) (leBytes 16 (wWordE 0x02 0 0 0 (1 + 5 * 2 ^ 16)))
    let s1 := (s0.setCx 0 { s0.cx 0 with slot := 1 }).advanceTo 0
    let w := s1.cxWord 0
    s1.cxIssues 0 0x02 ∧ fld w 12 0 ≠ 0 ∧ fld w 12 0 ≤ ((s1.cx 0).slot + slots - s1.cxHead 0) % slots := by
  decide

theorem witness_SequencerForms_waitq :
    (let s1 := (wEng 0 0x04 1 1 99).advanceTo 0
     let w := s1.cxWord 0
     s1.cxIssues 0 0x04 ∧ bit (opfE w) 0 = true ∧ fld w 7 0 < 100 ∧ s1.cxState 0 ≠ 5) ∧
    (let s1 := (wEng 0 0x04 0 1 wA).advanceTo 0
     let a := operE (s1.cxWord 0)
     s1.cxIssues 0 0x04 ∧ a % 16 = 0 ∧ s1.cxState 0 ≠ 5 ∧ s1.isLocal a = true ∧
     s1.staleAt (a % 2 ^ 48) (s1.cxBind 0) (s1.cxEpoch 0) = false ∧ (s1.target (a % 2 ^ 48)).noRead = false ∧
     (s1.target (a % 2 ^ 48)) ≠ .regs (a % 2 ^ 48 - 0x2200000000) ∧ bit (opfE (s1.cxWord 0)) 0 = false ∧ (s1.cx 0).waitq = none) ∧
    (let s0 := wEng 0 0x04 0 1 wA [] { waitq := some (0, 0) }
     let s1 := { s0 with clk := { now := 100 * tns } }.advanceTo 0
     s1.cxIssues 0 0x04 ∧ (s1.cx 0).waitq = some (0, 0) ∧ 0 + (0 + 1) * 100 * tns ≤ s1.clk.now) := by
  decide

/-- A tensor descriptor: address, rows, columns, stride, CTRL, address of the quantisation descriptor. -/
def wTD (a rows cols ctrl q : Nat) : List Byte :=
  leBytes 8 a ++ leBytes 4 rows ++ leBytes 4 cols ++ leBytes 4 0 ++ leBytes 4 ctrl ++ leBytes 8 q

theorem witness_TensorEngineResults_mat :
    let s1 := (wEng 0 0x10 0 0 wA [(wA, leBytes 8 (wA + 0x100) ++ leBytes 8 (wA + 0x100) ++ leBytes 8 (wA + 0x120)),
      (wA + 0x100, wTD (wA + 0x200) 1 1 0 0), (wA + 0x120, wTD (wA + 0x210) 1 1 10 0), (wA + 0x200, [3])]).advanceTo 0
    let x := (s1.reader 0).matIn (operE (s1.cxWord 0))
    s1.cxRuns 0 0x10 ∧ x.1.ok = true ∧ x.2.1.d.y.quant = false := by
  decide +kernel

theorem witness_TensorEngineResults_tbuild :
    let s1 := (wEng 40 0x30 0 0 wA [(wA, leBytes 8 (wA + 0x100) ++ leBytes 8 (wA + 0x200) ++ leBytes 4 31 ++ leBytes 4 0 ++ leBytes 8 (wA + 0x400)),
      (wA + 0x100, wTD (wA + 0x300) 1 2 6 0)]).advanceTo 0
    s1.cxRuns 40 0x30 ∧ ((s1.reader 40).tbIn (operE (s1.cxWord 40))).1.ok = true := by
  decide +kernel

theorem witness_TensorEngineResults_vector :
    (∀ r ∈ vectorOps.take 4,
     let s1 := (wEng 32 r.2.1 0 0 wA [(wA, leBytes 8 (wA + 0x100) ++ leBytes 8 (wA + 0x100) ++ leBytes 8 (wA + 0x100) ++ leBytes 8 (wA + 0x120) ++
         leBytes 8 0 ++ leBytes 8 (wA + 0x200)),
       (wA + 0x100, wTD (wA + 0x200) 1 1 8 0), (wA + 0x120, wTD (wA + 0x210) 1 1 8 0)]).advanceTo 0
     let x := r.2.2 (s1.reader 32) (s1.cxWord 32)
     s1.cxRuns 32 r.2.1 ∧ x.1.ok = true ∧ x.2.y.quant = false) ∧
    ∀ r ∈ vectorOps.drop 4,
     let s1 := (wEng 32 r.2.1 0 0 wA [(wA, leBytes 8 (wA + 0x100) ++ leBytes 16 0 ++ leBytes 8 (wA + 0x120)),
       (wA + 0x100, wTD (wA + 0x200) 1 32 8 0), (wA + 0x120, wTD (wA + 0x280) 1 32 16 (wA + 0x140)),
       (wA + 0x140, leBytes 4 1 ++ leBytes 4 32 ++ leBytes 4 1 ++ leBytes 4 0 ++ leBytes 8 (wA + 0x300))]).advanceTo 0
     s1.cxRuns 32 r.2.1 ∧ (r.2.2 (s1.reader 32) (s1.cxWord 32)).1.ok = true := by
  decide +kernel

theorem witness_TensorEngineResults_sample :
    let s1 := (wEng 48 0x38 0 0 wA [(wA, leBytes 8 (wA + 0x100) ++ leBytes 8 (wA + 0x200) ++ leBytes 8 7 ++ leBytes 4 0 ++ leBytes 4 1 ++
        leBytes 4 0x3F800000 ++ leBytes 4 0x3F800000), (wA + 0x100, wTD (wA + 0x300) 1 1 8 0)]).advanceTo 0
    let x := (s1.reader 48).spIn (operE (s1.cxWord 48))
    s1.cxRuns 48 0x38 ∧ x.1.ok = true ∧ (x.2.draw (s1.reg (cxB 48 + 0x80))).isSome = true := by
  decide +kernel

theorem witness_TensorEngineResults_collectives :
    ∀ r ∈ collectiveOps,
     let s1 := (wEng 52 r.2.1 0 0 wA [(wA, leBytes 8 (wA + 0x100) ++ leBytes 8 (wA + 0x120) ++ leBytes 8 (wA + 0x140) ++ leBytes 4 (2 * 2 ^ 24)),
       (wA + 0x100, wTD (wA + 0x200) 1 1 8 0), (wA + 0x120, wTD (wA + 0x210) 1 1 8 0)]).advanceTo 0
     let d := (s1.reader 52).collD r.2.2 (s1.cxWord 52)
     let c := d.2
     let x := d.1.collOwn c
     s1.cxRuns 52 r.2.1 ∧ s1.rv.replaying = [] ∧ x.1.ok = true ∧ c.q = 0 ∧ c.log = false ∧
     (∀ p ∈ s1.eng.parts, s1.collOther c p = false) ∧
     (r.2.2 < 2 → ∀ k ∈ c.kids 0, (x.1.s.partFull c k x.2.length).isSome = true) ∧
     (r.2.2 = 2 → ∀ k ∈ c.subtree 0, k ≠ 0 → (x.1.s.partFull c k x.2.length).isSome = true) := by
  decide +kernel

/-- The engine whose context runs an opcode. -/
def wOf (op : Nat) : Nat :=
  if op = 0x10 then 0 else if op < 0x30 then 32 else if op = 0x30 then 40 else if op = 0x38 then 48 else if op < 0x50 then 52
  else if op < 0x80 then 56 else 68

/-- It is a fault that reaches the context. -/
def wFaults (n : Nat) : EngOut → Bool
  | .fault s2 code _ =>
    decide (code < 2 ^ 16) && s2.cxState n != 4 && s2.cxState n != 5 && s2.rv.replay != some n && (s2.cx n).stopReq == 0
  | _ => false

theorem witness_EngineInstructionFaults :
    (∀ r ∈ engineOps.filter (fun r => r.2.1 % 16 == 0 || r.2.1 == 0x38),
     let s1 := (wEng (wOf r.2.1) r.2.1 0 0 (wA + 8)).advanceTo 0
     s1.cxRuns (wOf r.2.1) r.2.1 ∧ wFaults (wOf r.2.1) (r.2.2 (s1.startTimeout (wOf r.2.1)) (wOf r.2.1) (s1.cxWord (wOf r.2.1))) = true) ∧
    (let s1 := (wEng 0 0x20 0 0 0).advanceTo 0
     s1.cxIssues 0 0x20 ∧ engDefines (engineOf 0) 0x20 = false ∧ s1.cxState 0 ≠ 5) := by
  decide +kernel

/-- The hypotheses of a check instruction on a descriptor of `len` bytes. -/
def WCheck (s : State) (op len : Nat) : Prop :=
  let s1 := s.advanceTo 0
  let a := operE (s1.cxWord 56)
  let rd := Rd.bytes { s := s1.startTimeout 56, n := 56 } a len
  let x := rd.1.bytes (leAt rd.2 0 8) (leAt rd.2 8 4)
  s1.cxRuns 56 op ∧ a % 16 = 0 ∧ rd.1.ok = true ∧ x.1.ok = true ∧
  (op = 0x50 → 1 ≤ leAt rd.2 0x2C 4 % 128 ∧ leAt rd.2 0x2C 4 % 128 ≤ 64)

theorem witness_CheckEngineResults :
    ∀ x ∈ [(0x50, 48), (0x51, 20), (0x52, 24), (0x53, 48), (0x54, 20)],
      WCheck (wEng 56 x.1 0 0 wA [(wA, leBytes 8 (wA + 0x100) ++ leBytes 4 1 ++ leBytes 8 (wA + 0x200)), (wA + 0x2C, [64]), (wA + 0x100, [49])])
        x.1 x.2 := by
  unfold WCheck; decide +kernel

/-- A mover's descriptor: SRC, DST, two counts, two strides, LIST. -/
def wMv (src dst a b list : Nat) : List Byte := leBytes 8 src ++ leBytes 8 dst ++ leBytes 4 a ++ leBytes 4 b ++ leBytes 16 0 ++ leBytes 8 list

theorem witness_MoverResults :
    (let s1 := (wEng 68 0x80 0 0 wA [(wA, wMv (wA + 0x200) (wA + 0x100) 1 0 0)]).advanceTo 0
     let md := Rd.mvD { s := s1.startTimeout 68, n := 68 } (operE (s1.cxWord 68))
     let d := md.2
     s1.cxRuns 68 0x80 ∧ operE (s1.cxWord 68) % 16 = 0 ∧ md.1.ok = true ∧ d.a ≠ 0 ∧
     ¬ (d.src / 2 ^ 48 = d.dst / 2 ^ 48 ∧ d.src < d.dst ∧ d.dst < d.src + d.a) ∧ (md.1.bytes d.src d.a).1.ok = true) ∧
    (let s1 := (wEng 99 0x81 0 0 wA [(wA, wMv (wA + 0x200) (wA + 0x100) 1 2 0)]).advanceTo 0
     let md := Rd.mvD { s := s1.startTimeout 99, n := 99 } (operE (s1.cxWord 99))
     let d := md.2
     s1.cxRuns 99 0x81 ∧ md.1.ok = true ∧ d.a ≠ 0 ∧
     (Rd.each (fun r j => r.bytes (addAddr d.src (Int.ofNat j * d.ss)) d.a) md.1 (List.range d.b)).1.ok = true) ∧
    (let s1 := (wEng 68 0x82 0 0 wA [(wA, wMv wA (wA + 0x100) 16 1 (wA + 0x200)), (wA + 0x200, leBytes 8 wA)]).advanceTo 0
     let md := Rd.mvD { s := s1.startTimeout 68, n := 68 } (operE (s1.cxWord 68))
     let d := md.2
     let l := md.1.bytes d.list (8 * d.b)
     s1.cxRuns 68 0x82 ∧ md.1.ok = true ∧ listLen d.a = true ∧ l.1.ok = true ∧
     (Rd.each (fun r j => r.bytes (leAt l.2 (8 * j) 8) d.a) l.1 (List.range d.b)).1.ok = true) ∧
    (let s1 := (wEng 68 0x83 0 0 wA [(wA, wMv wA (wA + 0x100) 16 1 (wA + 0x200)), (wA + 0x200, leBytes 8 wA)]).advanceTo 0
     let md := Rd.mvD { s := s1.startTimeout 68, n := 68 } (operE (s1.cxWord 68))
     let d := md.2
     let l := md.1.bytes d.list (8 * d.b)
     s1.cxRuns 68 0x83 ∧ md.1.ok = true ∧ listLen d.a = true ∧ l.1.ok = true ∧
     (Rd.each (fun r j => r.bytes (d.src + j * d.a) d.a) l.1 (List.range d.b)).1.ok = true) ∧
    (let s1 := (wEng 68 0x84 0 0 wA [(wA, wMv wA (wA + 0x100) 16 1 0)]).advanceTo 0
     let md := Rd.mvD { s := s1.startTimeout 68, n := 68 } (operE (s1.cxWord 68))
     s1.cxRuns 68 0x84 ∧ md.1.ok = true ∧ md.2.dst % 16 = 0 ∧ md.2.a % 16 = 0) := by
  refine ⟨by decide +kernel, by decide +kernel, by decide +kernel, by decide +kernel, by decide +kernel⟩

theorem witness_ContextControl :
    (let s1 := (wCx 0 { phase := .ready } 2).advanceTo 0
     s1.cxCtl 0 = true ∧ s1.cxView 0 ≤ 2 ∧ (s1.cx 0).phase ≠ .busy ∧ (s1.cx 0).phase ≠ .reading ∧ s1.cxWrites 0 = false) ∧
    (let s1 := (wCx 99 { phase := .busy } 1).advanceTo 0
     s1.cxCtl 99 = true ∧ s1.cxView 99 ≤ 2 ∧ (s1.cx 99).phase = .busy) ∧
    (let s1 := (wCx 0 { phase := .ready } 3).advanceTo 0
     s1.cxCtl 0 = true ∧ s1.cxState 0 = 3) ∧
    (let s1 := (wCx 0 { phase := .ready } 4).advanceTo 0
     s1.cxCtl 0 = true ∧ s1.cxState 0 = 4 ∧ (s1.cx 0).dbg = false ∧ (s1.cx 0).phase ≠ .none) := by
  decide

/-- Clove at work on engine `e` in a phase and a step that began at instant 0. -/
def wClove (e phase : Nat) (rv : Clove) (now : Nat := 0) : State :=
  { State.reset.setReg 0x30004 phase with rv := { rv with queue := [e] }, clk := { now := now } }

theorem witness_HungEngineCommands :
    (let s0 := wCx 0 { phase := .busy, timeout := 1 } 1
     let s1 := { s0 with clk := { now := tus } }.advanceTo 0
     s1.overdue 0 = true ∧ s1.rv.replay ≠ some 0 ∧ s1.rv.chip = none) ∧
    (let s1 := (wClove 14 1 {}).advanceTo 0
     s1.rvOn 14 1 = true ∧ s1.engDrained 14 = true ∧ s1.rv.late = none ∧ s1.rv.dumpReplay = false) ∧
    (let s0 := (wClove 0 1 {} (100 * tus)).setCx 0 { phase := .busy }
     let s1 := s0.advanceTo 0
     s1.rvOn 0 1 = true ∧ s1.engDrained 0 = false ∧ s1.rv.from_ + s1.drainBound ≤ s1.clk.now ∧ s1.rv.late = none) ∧
    (let s1 := (wClove 0 2 { step := 1 } (255 * tus)).advanceTo 0
     s1.imaging = true ∧ s1.rv.stepFrom + s1.rf 0x3000C 7 0 * tus ≤ s1.clk.now ∧ (∀ x ∈ s1.rv.units, x.1 ≠ 65535) ∧
     s1.rv.queue = 0 :: [] ∧ s1.rv.demand = none ∧ s1.rv.step = 1) ∧
    (let s1 := (wClove 0 2 { step := 2 } (50 * tus)).advanceTo 0
     s1.rvOn 0 2 = true ∧ s1.rv.step = 2 ∧ s1.rv.stepFrom + 50 * tus ≤ s1.clk.now) ∧
    (let s1 := (wClove 0 2 { step := 3 } (500 * tus)).advanceTo 0
     s1.rvOn 0 2 = true ∧ s1.rv.step = 3 ∧ s1.rv.stepFrom + 500 * tus ≤ s1.clk.now ∧ s1.rv.chip = none) ∧
    (let k : Ckpt := { head := 0, consumed := 0, done := 0, loops := [], ref := 0, rng := 0 }
     let s1 := ((wClove 0 3 { suspects := [0] }).setCx 0 { ckpt := some k }).advanceTo 0
     s1.rvOn 0 3 = true ∧ s1.rv.replay = none ∧ s1.rv.suspects = 0 :: [] ∧ (s1.cx 0).ckpt = some k) ∧
    (let s1 := (((wClove 0 3 {}).setCx 0 { prior := 2 }).setCx 1 { wasActive := true, prior := 1 }).advanceTo 0
     s1.rvOn 0 3 = true ∧ s1.rv.queue = [0] ∧ s1.rv.replay = none ∧ s1.rv.suspects = [] ∧ s1.rv.late = none ∧ s1.rv.guilty = false ∧
     (s1.cx 0).wasActive = false ∧ (s1.cx 0).guilty = false ∧ (s1.cx 1).wasActive = true ∧ (s1.cx 1).guilty = false ∧
     (s1.cx 1).prior ≠ 4 ∧ (s1.cx 1).stopReq = 0) := by
  refine ⟨by decide, by decide, by decide, by decide, by decide, by decide, by decide, by decide⟩

theorem witness_CellTestAndChipRecovery :
    (let s1 := { State.reset with rv := { suspectCells := [0, 6399] } }.advanceTo 0
     6399 ∈ s1.rv.suspectCells ∧ 0 ∈ s1.rv.suspectCells ∧ 6399 ≠ 0 ∧ s1.rv.chip = none) ∧
    (∀ k ∈ [1, 2, 6], let s1 := { State.reset with rv := { chip := some k } }.advanceTo 0
     s1.rv.chip = some k ∧ s1.rv.replaying = [] ∧ k < 8) := by
  decide

end Sys2Proof.Machine
end

