-- ==== Sys2Proof/Tests/Fabric.lean ====
section
/-! SUPPORT. Witnesses of the statements about the Nenath fabric. -/

namespace Sys2Proof.Machine

set_option Elab.async false

/-- The part with PW20 to PW23 on, port `p` in a state, its lane `8 p` in another. -/
def wPort (p st lane : Nat) (n : NPort := {}) : State :=
  let s := [20, 21, 22, 23].foldl (fun s d => s.setRf (pwB d + 4) 1 0 2) State.reset
  (((s.setRf (nfB p + 4) 1 0 st).setRf (nfB p) 6 3 1).setRf (lnB (8 * p) + 4) 2 0 lane).setNp p n

/-- A flit: word 0, CTRL and lane mask, unit directory, first unit. -/
def wFlit (w ctrl mask dir : Nat) (u0 : List Byte) : List Byte :=
  mkFlit (leBytes 4 w ++ leBytes 4 0 ++ leBytes 1 ctrl ++ leBytes 1 mask ++ leBytes 6 0) (leBytes 12 dir ++ (u0 ++ List.replicate 464 0))

theorem wFlit_ok (w ctrl mask dir : Nat) (u0 : List Byte) (h : u0.length = 16) : flitOk (wFlit w ctrl mask dir u0) = true := by
  apply flitOk_mkFlit
  simp only [List.length_append, leBytes_length, List.length_replicate, h]

theorem witness_PortLife_training :
    (let s1 := (wPort 19 0 1).advanceTo 0
     s1.npOn 19 = true ∧ s1.npState 19 = 0 ∧ 1 ≤ s1.laneSt (8 * 19 + 0) ∧ s1.laneSt (8 * 19 + 0) ≤ 4) ∧
    (let s0 := wPort 0 1 4
     let s1 := { s0 with clk := { now := 280 * tms } }.advanceTo 0
     s1.npOn 0 = true ∧ s1.npState 0 = 1 ∧ s1.enoughLanes 0 = true ∧ s1.laneSt 0 ≠ 0 ∧ s1.laneSt 0 ≠ 5 ∧ s1.rb (lnB 0) 3 = false ∧
     (s1.np 0).trainFrom + 280 * tms ≤ s1.clk.now) := by
  decide

theorem witness_PortLife_recovering :
    (let s1 := (wPort 19 3 4).advanceTo 0
     s1.npOn 19 = true ∧ s1.npState 19 = 3 ∧ s1.enoughLanes 19 = true ∧ (s1.np 19).resuming = false) ∧
    (let s1 := (wPort 19 2 3).advanceTo 0
     s1.npOn 19 = true ∧ s1.npState 19 = 2 ∧ s1.enoughLanes 19 = false) ∧
    (let s0 := wPort 0 3 4
     let s1 := { s0 with clk := { now := s0.reg 0x540004 * tms } }.advanceTo 0
     s1.npState 0 = 3 ∧ (s1.np 0).recFrom + s1.reg 0x540004 * tms ≤ s1.clk.now) := by
  decide

theorem witness_PortLife_flits :
    (∀ c ∈ [1, 2, 3], flitType (wFlit 2 c 255 0 (leBytes 16 0)) = 2 ∧ flitCtrl (wFlit 2 c 255 0 (leBytes 16 0)) = c ∧
      flitMask (wFlit 2 c 255 0 (leBytes 16 0)) = 255) ∧
    (∀ c, flitOk (wFlit 2 c 255 0 (leBytes 16 0)) = true) ∧ (((wPort 0 2 4).advanceTo 0).rf (nfB 0 + 4) 9 2 ≠ 255) :=
  ⟨by decide, fun _ => wFlit_ok _ _ _ _ _ (leBytes_length _ _), by decide⟩

/-- An idle flit that acknowledges SEQ 9, or asks for what is not acknowledged. -/
def wIdle (nak : Bool) : List Byte := wFlit (if nak then 2 ^ 29 else 9 * 2 ^ 16 + 2 ^ 28) 0 0 0 (leBytes 16 0)

theorem witness_FlitCommands_idle :
    (let s1 := (wPort 19 2 4 { replay := [{ seq := 8, bytes := [], sent := 0 }, { seq := 9, bytes := [], sent := 0 }] }).advanceTo 0
     s1.npOn 19 = true ∧ s1.npState 19 = 2 ∧ (s1.np 19).tx = [] ∧
     (s1.np 19).replay = [{ seq := 8, bytes := [], sent := 0 }] ++ { seq := 9, bytes := [], sent := 0 } :: [] ∧ (8 : Nat) ≠ flitAck (wIdle false) ∧
     (9 : Nat) = flitAck (wIdle false)) ∧
    (∀ b ∈ [true, false], flitType (wIdle b) = 0 ∧ flitNak (wIdle b) = b ∧ flitAckValid (wIdle b) = !b) ∧
    (∀ b, flitOk (wIdle b) = true) ∧ flitType [] = 0 ∧ flitOk [] = false :=
  ⟨by decide, by decide, fun _ => wFlit_ok _ _ _ _ _ (leBytes_length _ _), by decide, by decide⟩

/-- A DATA flit of SEQ 0 that holds one message of no data. -/
def wData : List Byte := wFlit 1 0 0 1 (leBytes 16 0)

theorem witness_FlitCommands_data :
    (let s1 := (wPort 0 2 4).advanceTo 0
     s1.npOn 0 = true ∧ s1.npState 0 = 2 ∧ flitType wData = 1 ∧ flitSeq wData = ((s1.np 0).rxSeq + 1) % 4096 ∧
     headUnits (flitUnit wData 0) = 0 ∧ flitDir wData 0 = 1 ∧ ∀ u < 30, 0 < u → flitDir wData u = 0) ∧
    (flitSeq wData ≠ (((wPort 0 2 4 { rxSeq := 0 }).advanceTo 0).np 0).rxSeq + 1) ∧ flitOk wData = true ∧
    flitType [1] = 1 ∧ flitOk [1] = false :=
  ⟨by decide, by decide, wFlit_ok _ _ _ _ _ (leBytes_length _ _), by decide, by decide⟩

/-- A TIME flit whose t1 is 1 ns. -/
def wTime : List Byte := wFlit 3 0 0 0 (stampUnit tns)

theorem witness_FlitCommands_time :
    (let s1 := ((wPort 0 2 4).setRb (nfB 0) 1 true).advanceTo 0
     s1.npOn 0 = true ∧ s1.npState 0 = 2 ∧ s1.rb (nfB 0) 1 = true ∧ (s1.np 0).timeSent = 0 ∧
     s1.rf (domB .a) 2 1 ≠ 2 ∧ s1.rf (domB .b) 2 1 ≠ 2) ∧
    flitType wTime = 3 ∧ Int.ofNat (unitStamp (flitUnit wTime 0)) ≠ 0 ∧ flitOk wTime = true ∧ flitType [3] = 3 ∧ flitOk [3] = false :=
  ⟨by decide, by decide, by decide, wFlit_ok _ _ _ _ _ (by simp [stampUnit]), by decide, by decide⟩

/-- A message of an operation from chip `src` to an address. -/
def wMsg (op src addr : Nat) : Msg := { addr := addr, src := src, op := op }

/-- It waits at a source: 20 = this chip's own, 21 = answers of its own router, else a port. -/
def wSrc (src : Nat) (m : Msg) : State :=
  let s := wPort 0 2 4
  if src = 20 then { s with nen := { s.nen with own := [m] } }
  else if src = 21 then { s with nen := { s.nen with self := [m] } }
  else s.setNp src { rx := [m] }

/-- The route of a chip by a table: port 0, or 30 = here. -/
def wRoute (s : State) (table dest port : Nat) : State := s.setReg (0x550000 + table * 0x4000 + 4 * dest) (64 + port)

/-- The message `m` is taken and the state that is left is as `f` says. -/
def wTakes (s : State) (src : Nat) (m : Msg) (f : State → Bool) : Bool :=
  ((s.advanceTo 0).nenTake src).any fun x => decide (x.1 = m) && f x.2

theorem witness_MessageCommands_routes :
    (∀ r ∈ messageOps, ∀ src ∈ [0, 20],
      wTakes (wRoute (wSrc src (wMsg r.2 5 (5 * 2 ^ 48))) src 5 0) src (wMsg r.2 5 (5 * 2 ^ 48))
        (fun s2 => decide (s2.routeOf src (wMsg r.2 5 (5 * 2 ^ 48)) = .port 0 0)) = true) ∧
    (∀ op ∈ [0, 1, 8, 10], (wMsg op 0 (5 * 2 ^ 48)).isReq = true ∧
      wTakes (wSrc 20 (wMsg op 0 (5 * 2 ^ 48))) 20 (wMsg op 0 (5 * 2 ^ 48))
        (fun s2 => decide (s2.routeOf 20 (wMsg op 0 (5 * 2 ^ 48)) = .none)) = true) ∧
    (∀ op ∈ [2, 3, 4, 5, 6, 7, 9], (wMsg op 5 0).isReq = false ∧
      wTakes (wSrc 20 (wMsg op 5 0)) 20 (wMsg op 5 0) (fun s2 => decide (s2.routeOf 20 (wMsg op 5 0) = .none)) = true) ∧
    (wPort 0 2 4).chip = 0 := by
  decide +kernel

theorem witness_MessageCommands_recovering :
    let m := wMsg 0 5 0
    let s := (wRoute (wRoute (wSrc 0 m) 0 0 30) 20 5 0).setRb 0x540000 1 true
    (s.advanceTo 0).rb 0x540000 1 = true ∧ m.isReq = true ∧ m.src ≠ (s.advanceTo 0).chip ∧
    wTakes s 0 m (fun s2 => decide (s2.routeOf 0 m = .here) &&
      decide (s2.routeOf 20 { m with op := 7, data := [], vc := 2, timed := false, mirror := false } = .port 0 2)) = true := by
  decide +kernel

/-- A request of the debug port with tag 7 to chip 5. -/
def wOut : Outst :=
  { tag := 7, req := { id := 1, issuer := .debug, addr := 5 * 2 ^ 48, write := false, len := 8 }, msg := wMsg 0 0 (5 * 2 ^ 48) }

/-- An answer with tag 7 in the queue of this chip's own answers, with that request outstanding. -/
def wAnswer (op : Nat) : State :=
  let s := wPort 0 2 4
  { s with nen := { s.nen with self := [{ wMsg op 0 0 with tag := 7 }], outst := [wOut] } }

theorem witness_MessageCommands_here :
    (∀ op ∈ [2, 3, 4, 5, 6, 7],
      ((wAnswer op).advanceTo 0).rb 0x540000 1 = false ∧ wOut.msg.op ≠ 8 ∧ wOut.req.issuer = .debug ∧
      ((wAnswer op).advanceTo 0).destSt wOut.msg.dest = 0 ∧
      wTakes (wAnswer op) 21 { wMsg op 0 0 with tag := 7 }
        (fun s2 => decide (s2.nen.outst.find? (fun o => o.tag == 7) = some wOut)) = true) ∧
    (∀ op ∈ [0, 1, 8], wTakes (wRoute (wSrc 20 (wMsg op 0 0)) 20 0 30) 20 (wMsg op 0 0)
      (fun s2 => decide (s2.routeOf 20 (wMsg op 0 0) = .here)) = true) ∧
    (wPort 0 2 4).rv.takeover = false := by
  decide +kernel

theorem witness_MessageCommands_ready_coll :
    (let m := wMsg 9 5 (5 * 2 ^ 48)
     let s0 := (wSrc 21 m).setRf (destR 5) 1 0 1
     let s := { s0 with nen := { s0.nen with dests := [(5, some { from_ := 0, probed := 0 })] } }
     m.addr / 2 ^ 48 % 4096 = 5 ∧ (s.advanceTo 0).destSt 5 = 1 ∧ (s.advanceTo 0).rb 0x540000 1 = false ∧
     wTakes s 21 m (fun s2 => decide (Sparse.get (fun _ => none) s2.nen.dests 5 = some { from_ := 0, probed := 0 })) = true) ∧
    (let m : Msg := { wMsg 10 0 0x2000000000 with data := List.replicate 32 0 }
     let s := (wRoute (wSrc 20 m) 20 0 30).setRf (pwB 17 + 4) 1 0 2
     let s1 := s.advanceTo 0
     let off := m.addr % 2 ^ 48
     s1.staleAt off m.bind m.epoch = false ∧ (s1.target off).noRead = false ∧ leAt m.data 10 4 = 0 ∧
     partFind s1.eng.parts off (leAt m.data 0 8) (leAt m.data 8 2) = none ∧ s1.collPast off (leAt m.data 0 8) = false ∧
     (∀ n < 56, 52 ≤ n → (s1.cx n).phase ≠ .reading) ∧ m.src = s1.chip ∧
     wTakes s 20 m (fun s2 => decide (s2.routeOf 20 m = .here)) = true) := by
  decide +kernel

theorem witness_DestinationCommands :
    (let r : DestRec := { from_ := 0, probed := 0 }
     let s0 := State.reset.setRf (destR 4095) 1 0 1
     let s1 := { s0 with nen := { dests := [(4095, some r)] }, clk := { now := 100000 * tms } }.advanceTo 0
     Sparse.get (fun _ => none) s1.nen.dests 4095 = some r ∧ s1.destSt 4095 = 1 ∧ s1.canSend = true ∧
     r.probed + s1.reg 0x540008 * tus ≤ s1.clk.now ∧ r.from_ + s1.grace ≤ s1.clk.now) ∧
    (let s1 := (State.reset.setRf (destR 0) 1 0 2).advanceTo 0
     s1.destSt 0 = 2 ∧ s1.destSt 1 ≠ 2) := by
  decide

end Sys2Proof.Machine
end

