-- ==== Sys2Proof/Tests/Lanes.lean ====
section
/-! SUPPORT. Witnesses of the statements about serial lanes. -/

namespace Sys2Proof.Machine

set_option Elab.async false

/-- The part with every lane's domain on: PW20 to PW26. -/
def wLanes : State := [20, 21, 22, 23, 24, 25, 26].foldl (fun s d => s.setRf (pwB d + 4) 1 0 2) State.reset

/-- Lane `n` in a state with EN = 1. -/
def wLaneAt (n st : Nat) (l : Lane := {}) (now : Nat := 0) : State :=
  { ((wLanes.setRf (lnB n + 4) 2 0 st).setRb (lnB n) 0 true).setLane n l with clk := { now := now } }

theorem witness_LaneStateCommands_enable :
    (let s1 := wLanes.advanceTo 0
     s1.laneOn 0 = true ∧ s1.rb (lnB 0) 0 = false ∧ isFront 0 = false ∧ isSensor 0 = false) ∧
    (let s1 := ((wLanes.setRb (emB 7) 0 true).setRf (emB 7 + 4) 7 5 3).advanceTo 0
     s1.laneOn 191 = true ∧ s1.rb (lnB 191) 0 = false ∧ isFront 191 = true ∧ s1.frontUsed 191 = true) ∧
    (∀ r ∈ [2500, 32000], let s1 := (wLanes.setRf (lnB 287 + 8) 14 0 r).advanceTo 0
     s1.laneOn 287 = true ∧ s1.rb (lnB 287) 0 = false ∧ isSensor 287 = true ∧ 2500 ≤ s1.rf (lnB 287 + 8) 14 0 ∧
     s1.rf (lnB 287 + 8) 14 0 ≤ 32000) := by
  decide

theorem witness_LaneStateCommands_moves :
    (let s1 := (wLaneAt 0 4).advanceTo 0
     s1.laneOn 0 = true ∧ s1.laneSt 0 ≠ 0 ∧ s1.laneSt 0 ≠ 5 ∧ s1.rb (lnB 0) 3 = false ∧ isFront 0 = false ∧ s1.txUsable 0 = true) ∧
    (isFront 160 = true ∧ (wLanes.advanceTo 0).laneOn 160 = true) ∧
    (let s1 := (wLaneAt 287 5 { trained := true }).advanceTo 0
     s1.laneOn 287 = true ∧ isFront 287 = false ∧ s1.laneSt 287 = 5 ∧ (s1.lane 287).trained = true) ∧
    (∀ b ∈ [true, false], let s1 := (wLaneAt 192 1 { trained := b }).advanceTo 0
     s1.laneOn 192 = true ∧ s1.laneSt 192 = 1 ∧ s1.rb (lnB 192 + 4) 4 = false ∧ isSensor 192 = true ∧ (s1.lane 192).trained = b) ∧
    (∀ b ∈ [true, false], let s1 := (wLaneAt 159 1 { relock := b } (280 * tms)).advanceTo 0
     s1.laneOn 159 = true ∧ s1.laneSt 159 = 1 ∧ s1.rb (lnB 159 + 4) 4 = false ∧ (s1.lane 159).from_ + 280 * tms ≤ s1.clk.now ∧
     (s1.lane 159).relock = b) ∧
    (let s1 := ((wLaneAt 0 1).setRb (lnB 0 + 4) 4 true).advanceTo 0
     s1.laneOn 0 = true ∧ s1.rb (lnB 0 + 4) 4 = true) := by
  decide +kernel

theorem witness_LaneReceiveCommands_training :
    (let s1 := (wLaneAt 159 2).advanceTo 0
     s1.laneOn 159 = true ∧ s1.laneSt 159 = 2 ∧ 1 % 128 ≠ 0 ∧ (s1.lane 159).status % 128 = 0 ∧ (s1.lane 159).done = false) ∧
    (let s1 := (wLaneAt 192 2 { req := 0x40 }).advanceTo 0
     s1.laneOn 192 = true ∧ s1.laneSt 192 = 2 ∧ (s1.lane 192).req ≠ 0 ∧ answered (s1.lane 192).req (0x40 % 256) = true) ∧
    (let s1 := (wLaneAt 191 2).advanceTo 0
     s1.laneOn 191 = true ∧ s1.laneSt 191 = 2 ∧ s1.rf (lnB 191 + 0x1C) 7 0 ≤ 255 % 256 ∧ s1.rf (lnB 191 + 0x1C) 23 16 ≤ 255 % 256) ∧
    (let s1 := (wLaneAt 287 3).advanceTo 0
     s1.laneOn 287 = true ∧ isSensor 287 = true ∧ s1.laneSt 287 = 3) := by
  decide

theorem witness_LaneReceiveCommands_codewords :
    codewordFate (List.replicate 34 0) = 0 ∧ codewordFate (List.replicate 33 0 ++ [1]) = 1 ∧
    codewordFate (List.replicate 32 0 ++ [1, 3]) = 2 ∧
    (let s1 := (wLaneAt 159 4 { badRun := 15 }).advanceTo 0
     s1.laneOn 159 = true ∧ s1.laneSt 159 = 4 ∧ s1.rb (lnB 159 + 8) 15 = false ∧ 16 ≤ (s1.lane 159).badRun + 1) ∧
    (let s1 := (wLaneAt 0 1 { goodRun := 63 }).advanceTo 0
     s1.laneOn 0 = true ∧ s1.laneSt 0 = 1 ∧ s1.rb (lnB 0 + 4) 4 = false ∧ (s1.lane 0).goodRun = 63) := by
  decide +kernel

/-! ### Codewords of an Ethernet port -/

theorem gf10Mul_zero (b : Nat) : gf10Mul 0 b = 0 := by
  have h : ∀ l : List Nat, (l.foldl (fun (x : Nat × Nat) i => (if bit b i then Nat.xor x.1 x.2 else x.1, gf10X x.2)) (0, 0)) = (0, 0) := by
    intro l
    induction l with
    | nil => rfl
    | cons i l ih => rw [List.foldl_cons]; convert ih using 2; cases bit b i <;> rfl
  unfold gf10Mul; rw [h]

theorem gf10Eval_zeros (x n : Nat) (l : List Nat) : gf10Eval x (List.replicate n 0 ++ l) = gf10Eval x l := by
  induction n with
  | zero => rfl
  | succ n ih => rw [List.replicate_succ, List.cons_append, ← ih]; unfold gf10Eval; rw [List.foldl_cons, gf10Mul_zero]; rfl

/-- The symbols of a codeword but those after `n` zeros decide its fate. -/
theorem fecFate_tail (bytes : List Byte) (n : Nat) (l : List Nat)
    (h : ((List.range 544).map fun i => fld (ofLe bytes) (10 * i + 9) (10 * i)) = List.replicate n 0 ++ l) :
    fecFate bytes =
      (let syn := (List.range 30).map fun j => gf10Eval (gf10Exp j) l
       if syn.all (· == 0) then 0
       else
         let x := Locator.run {} 0 [] syn
         let roots := (List.range 544).filter fun p => gf10Eval (gf10Exp ((1023 - p) % 1023)) x.c.reverse == 0
         if x.len ≤ 15 ∧ roots.length = x.len then 1 else 2) := by
  unfold fecFate
  simp only [h, gf10Eval_zeros]

theorem fec_good : fecFate (List.replicate 680 0) = 0 := by
  rw [fecFate_tail (List.replicate 680 0) 544 [] (by decide +kernel)]; decide +kernel

theorem fec_corrected : fecFate (List.replicate 679 0 ++ [128]) = 1 := by
  rw [fecFate_tail _ 543 [512] (by decide +kernel)]; decide +kernel

/-- Sixteen symbols in error, which vanish at the first fifteen roots of the code. -/
def wBad : List Byte :=
  List.replicate 660 0 ++ [1, 96, 28, 112, 119, 197, 211, 82, 64, 208, 168, 43, 106, 130, 148, 172, 42, 4, 59, 172]

theorem fec_uncorrectable : fecFate wBad = 2 := by
  rw [fecFate_tail wBad 528 [1, 792, 769, 477, 965, 180, 5, 833, 936, 650, 38, 594, 684, 266, 944, 688] (by decide +kernel)]
  decide +kernel

theorem witness_LaneReceiveCommands_fec :
    isFront 191 = true ∧ (List.replicate 680 (0 : Byte)).length = 680 ∧ (List.replicate 679 (0 : Byte) ++ [128]).length = 680 ∧
    wBad.length = 680 ∧ fecFate (List.replicate 680 0) = 0 ∧ fecFate (List.replicate 679 0 ++ [128]) = 1 ∧ fecFate wBad = 2 ∧
    (let s1 := ((wLaneAt 191 4).setRb (emB 7) 0 true).advanceTo 0
     s1.laneOn 191 = true ∧ s1.laneSt 191 = 4 ∧ s1.epOf 191 = 7 ∧ s1.rb (emB (s1.epOf 191)) 0 = true) :=
  ⟨by decide, List.length_replicate, by decide +kernel, by decide +kernel, fec_good, fec_corrected, fec_uncorrectable, by decide⟩

theorem witness_LaneReceiveCommands_characters :
    decode10 185 false = (Chr.d 0, false) ∧ (decode10 0 false).1 = Chr.bad ∧ (decode10 380 false).1 = Chr.k 0xBC ∧
    (let s0 := ((wLaneAt 192 4 { block := some 0 }).setRf (lnB 192 + 0x34) 6 4 1).setRf (snB 0 + 8) 4 0 16
     let s1 := s0.advanceTo 0
     let l := s1.lane 192
     s1.laneOn 192 = true ∧ isSensor 192 = true ∧ s1.laneSt 192 = 4 ∧ s1.rb (lnB 192 + 8) 15 = false ∧ l.block = some 0 ∧
     0 < s1.blockLen 192 ∧ s1.nch 192 ≠ 0 ∧ l.grp.length + 1 < s1.groupLen 192 ∧
     (((false :: l.viol).take 16).filter id).length < 4) ∧
    (let s1 := (wLaneAt 287 1 { commas := 2 }).advanceTo 0
     s1.laneOn 287 = true ∧ isSensor 287 = true ∧ s1.laneSt 287 = 1 ∧ 2 ≤ (s1.lane 287).commas ∧ s1.rb (lnB 287 + 4) 4 = false ∧
     (s1.lane 287).trained = false) := by
  decide +kernel

theorem witness_LaneReceiveCommands_fix :
    (∀ g ∈ [0, 1],
     let s1 := wLanes.advanceTo 0
     let lo := 192 + 48 * g
     let r := s1.reg (lnB lo + 0x80)
     s1.laneOn lo = true ∧ roundUp (max (fld r 9 0 * grain) (0 + fld r 17 10 * grain)) grain ≤ 400 * tns) ∧
    (∀ c < 384, (wLanes.advanceTo 0).rb (snB c) 0 = false) ∧ (∀ m < 288, (wLanes.advanceTo 0).laneSt m ≠ 4) ∧
    (let s1 := ((wLaneAt 287 4).setReg (lnB 287 + 0x30) (400 * tns)).advanceTo 0
     let r := s1.reg (lnB 240 + 0x80)
     s1.laneSt 287 = 4 ∧ s1.reg (lnB 287 + 0x30) = 400 * tns ∧
     400 * tns < roundUp (max (fld r 9 0 * grain) (400 * tns + fld r 17 10 * grain)) grain) := by
  decide +kernel

end Sys2Proof.Machine
end

