-- ==== Sys2Proof/Tests/Memory.lean ====
section
/-! SUPPORT. Witnesses of the statements about memory requests, DRAM stacks and remote access. -/

namespace Sys2Proof.Machine

set_option Elab.async false

/-- Local DRAM offset of the witnesses, which lies in stack 0. -/
abbrev wOff : Nat := 0x2000

/-- The part with PW17 and PW18 on, one region over DRAM, outside a refresh window, and one request under way. -/
def wMem (rg : Nat) (r : MemReq) (m : Mem := {}) : State :=
  let s := (((State.reset.setRf (pwB 17 + 4) 1 0 2).setRf (pwB 18 + 4) 1 0 2).setReg64 (rgB 0 + 8) 0x10000).setReg (rgB 0 + 0x10) rg
  { s with mem := { m with inflight := [r] }, clk := { saf := 1000 * tns * fine } }

/-- A cell's request. -/
def wReq (a : Nat) (write : Bool) : MemReq :=
  { id := 7, issuer := .cell 0 0 0 true, addr := a, write := write, len := if write then 0 else 1, data := if write then [1] else []
    bind := 1, epoch := 1 }

theorem witness_MemoryRequests_local :
    (let s1 := (wMem 0 (wReq wOff true)).advanceTo 0
     s1.mem.inflight.find? (fun e => e.id == 7) = some (wReq wOff true) ∧ s1.mayPerform (wReq wOff true) = true ∧
     s1.isLocal wOff = true ∧ s1.inRefresh = false ∧ s1.mem.justNow = [] ∧ s1.staleAt wOff 1 1 = false ∧ s1.classAt wOff ≠ 1 ∧
     0 < (wReq wOff true).data.length) ∧
    (let s1 := (wMem 0 (wReq wOff false)).advanceTo 0
     s1.mem.inflight.find? (fun e => e.id == 7) = some (wReq wOff false) ∧ s1.mayPerform (wReq wOff false) = true ∧
     s1.isLocal wOff = true ∧ s1.inRefresh = false ∧ s1.mem.justNow = [] ∧ s1.staleAt wOff 1 1 = false ∧ 0 < (wReq wOff false).len) ∧
    (((wMem 0x20101 (wReq wOff true)).advanceTo 0).staleAt wOff 1 1 = true) ∧
    (let s1 := (wMem 0 (wReq 0x1FFFFFFFFF false)).advanceTo 0
     s1.staleAt 0x1FFFFFFFFF 1 1 = false ∧ s1.target 0x1FFFFFFFFF = .unmapped) ∧
    (let r : MemReq := { wReq wOff true with data := leBytes 16 1 }
     let s1 := ((wMem 3 r).setRf (rgB 0 + 0x18) 15 0 1).advanceTo 0
     s1.mayPerform r = true ∧ s1.classAt wOff = 1 ∧ s1.buddyOf wOff = some 1 ∧ wOff % 16 = 0 ∧ r.data.length % 16 = 0 ∧
     wOff % 256 + r.data.length ≤ 256) := by
  decide +kernel

theorem witness_MemoryRequests_range : ((wMem 0 (wReq wOff true)).advanceTo 0).plainRange wOff 1 := by
  intro b h1 h2
  obtain rfl : b = wOff := by omega
  decide +kernel

/-- The host link is up, and BAR4 begins at an address of this chip. -/
def wBar (a : Nat) : State :=
  let s := (((wMem 0 (wReq wOff true)).setRf (pwB 28 + 4) 1 0 2).setRb 0x80000 0 true).setReg64 0x80008 a
  { s with mem := {} }

theorem witness_MemoryRequests_bar :
    (let s1 := (wBar wOff).advanceTo 0
     let a := (s1.reg64 0x80008 + 0) % 2 ^ 48
     s1.rb 0x80000 0 = true ∧ s1.domOn 28 = true ∧ s1.mem.inflight = [] ∧ s1.nen.outst = [] ∧ s1.target a = .dram 0 ∧
     s1.target (a + 1 - 1) = .dram 0 ∧ s1.inRefresh = false ∧ s1.classAt a ≠ 1 ∧ a = wOff) ∧
    (let s1 := (wBar 0x2000000000).advanceTo 0
     s1.rb 0x80000 0 = true ∧ s1.target ((s1.reg64 0x80008 + 0) % 2 ^ 48) = .store) := by
  decide +kernel

theorem witness_MemoryRequests_bar_range : ((wBar wOff).advanceTo 0).plainRange wOff 1 := by
  intro b h1 h2
  obtain rfl : b = wOff := by omega
  decide +kernel

theorem witness_MemoryRequests_waits :
    (let s1 := { wMem 0 (wReq wOff false) with clk := {} }.advanceTo 0
     s1.mem.inflight.find? (fun e => e.id == 7) = some (wReq wOff false) ∧ s1.mayPerform (wReq wOff false) = true ∧
     s1.isLocal wOff = true ∧ s1.target wOff = .dram 0 ∧ s1.inRefresh = true ∧ (wReq wOff false).waited = false) ∧
    (let s1 := { wMem 0 (wReq wOff false) with mem := { inflight := [{ wReq wOff false with id := 6 }, wReq wOff false] } }.advanceTo 0
     s1.mem.inflight.find? (fun e => e.id == 7) = some (wReq wOff false) ∧ s1.mayPerform (wReq wOff false) = false) ∧
    (let r : MemReq := { wReq (0xFFF * 2 ^ 48) true with data := leBytes 16 1 }
     let s1 := (wMem 0 r).advanceTo 0
     s1.mem.inflight.find? (fun e => e.id == 7) = some r ∧ s1.mayPerform r = true ∧ s1.isLocal r.addr = false ∧
     s1.inReplay r.bind = false ∧ s1.canSend = true ∧ r.addr % 16 = 0 ∧ r.data.length % 16 = 0 ∧
     s1.destSt (r.addr / 2 ^ 48 % 65536) = 0) := by
  decide +kernel

theorem witness_StackAndRemoteCommands_scrub :
    ∀ d ∈ [none, some false, some true],
      let s1 := (((wMem 0 (wReq wOff true)).setRb (dmB 0 + 0x18) 0 true).setEcc wOff d).advanceTo 0
      s1.rb (dmB 0 + 0x18) 0 = true ∧ s1.inRefresh = false ∧ s1.target wOff = .dram 0 ∧ s1.eccAt wOff = d := by
  decide +kernel

/-- The part out of reset, with its first temperature sample due. -/
def wTemp : State :=
  { (wMem 0 (wReq wOff true)).setRb 0x20100 0 false with pwr := { tempFrom := some 0 } }

theorem witness_StackAndRemoteCommands_temps :
    (let s1 := wTemp.advanceTo 0
     s1.pwr.tempFrom = some 0 ∧ s1.inReset = false ∧ 0 + s1.pwr.tempCnt * tms ≤ s1.clk.now ∧ s1.rb 0x20100 0 = false ∧
     s1.clk.refNew = none ∧ s1.stackOn 0 = true) ∧
    (∀ v ∈ [86, 94], ([v] : List Nat)[0]? = some v ∧ 85 < v ∧ v < 95) ∧ ([100] : List Nat)[0]? = some 100 ∧ 100 ≤ 100 % 256 ∧
    (([97] : List Nat)[0]? = some 97 ∧ 95 ≤ 97 ∧ 97 < 100 ∧ (wTemp.advanceTo 0).rb (dmB 0) 3 = false) := by
  decide +kernel

theorem witness_StackAndRemoteCommands_temps_all (k v : Nat) (h : ([94] : List Nat)[k]? = some v) : v < 95 := by
  match k, h with
  | 0, h => cases h; decide
  | k + 1, h => cases h

/-- The part with the remote access service enabled over SC0. -/
def wRemote : State :=
  { (((wMem 0 (wReq wOff true)).setRf (pwB 29 + 4) 1 0 2).setReg 0x80030 0x11).setReg 0x180000 1 with mem := {} }

/-- A remote access datagram. -/
def wDatagram (op len a : Nat) : List Byte := leBytes 1 op ++ leBytes 1 0 ++ leBytes 2 len ++ leBytes 4 9 ++ leBytes 8 a

theorem witness_StackAndRemoteCommands_remote :
    (let s1 := wRemote.advanceTo 0
     s1.rb 0x80030 0 = true ∧ s1.rb 0x80030 4 = true ∧ s1.domOn 29 = true ∧ s1.rb 0x180000 0 = true ∧ s1.host.ra = [] ∧
     s1.isLocal 0x2000000000 = true ∧ s1.target (0x2000000000 % 2 ^ 48) = .store ∧ s1.staleAt (0x2000000000 % 2 ^ 48) 0 0 = false ∧
     s1.mem.inflight = [] ∧ s1.nen.outst = [] ∧ s1.mem.justNow = []) ∧
    (let l := wDatagram 1 16 0x2000000000
     16 ≤ l.length ∧ byteAt l 0 = 1 ∧ leAt l 2 2 = 16 ∧ leAt l 8 8 % 16 = 0 ∧ leAt l 8 8 = 0x2000000000) ∧
    (∀ op ∈ [1, 2], ∀ x ∈ [(8, 16), (0, 16), (1040, 16), (16, 8)],
      let l := wDatagram op x.1 x.2
      byteAt l 0 = op ∧ (leAt l 2 2 % 16 ≠ 0 ∨ leAt l 2 2 < 16 ∨ 1024 < leAt l 2 2 ∨ leAt l 8 8 % 16 ≠ 0)) := by
  decide +kernel

end Sys2Proof.Machine
end

