-- ==== Sys2Proof/Tests/Ports.lean ====
section
/-! SUPPORT. Witnesses of the statements about Ethernet ports, the slow-control port and host rings. -/

namespace Sys2Proof.Machine

set_option Elab.async false

/-- The part with PW24, PW28 and PW29 on. -/
def wNet : State := [17, 24, 28, 29].foldl (fun s d => s.setRf (pwB d + 4) 1 0 2) State.reset

/-- Port `n` enabled, its link up, at rate code `rate`. -/
def wPortUp (n rate : Nat) (p : EPort := {}) : State :=
  (((wNet.setRb (emB n) 0 true).setRb (emB n + 4) 0 true).setRf (emB n + 4) 7 5 rate).setEp n p

/-- A held frame. -/
def wSent (b : List Byte) : Held := { launch := none, complete := 0, body := .frame b true false false }

theorem witness_EthernetPortCommands_enable :
    (∀ n ∈ [0, 7], ∀ r ∈ [0, 3],
      let s1 := (wNet.setRf (emB n + 8) 2 0 r).advanceTo 0
      s1.epThere n = true ∧ s1.rb (emB n) 0 = false ∧ s1.rf (emB n + 8) 2 0 ≤ 3) ∧
    (∀ r ∈ [4, 5, 7], let s1 := (wNet.setRf (emB 7 + 8) 2 0 r).advanceTo 0
      s1.epThere 7 = true ∧ s1.rb (emB 7) 0 = false ∧ (4 < s1.rf (emB 7 + 8) 2 0 ∨ (s1.rf (emB 7 + 8) 2 0 = 4 ∧ 7 % 2 = 1))) ∧
    (let s1 := (wNet.setRf (emB 6 + 8) 2 0 4).advanceTo 0
     s1.epThere 6 = true ∧ s1.rb (emB 6) 0 = false ∧ s1.rf (emB 6 + 8) 2 0 = 4 ∧ 6 % 2 = 0 ∧ s1.rb (emB (6 + 1)) 0 = false) := by
  decide +kernel

theorem witness_EthernetPortCommands_link :
    (let s1 := (wNet.setRb (emB 7) 0 true).advanceTo 0
     s1.epThere 7 = true ∧ s1.rb (emB 7) 0 = true ∧ s1.rb (emB 7 + 8) 3 = false ∧ s1.linkOn 7 = false) ∧
    (let s1 := (((wNet.setRb (emB 7) 0 true).setRb (emB 7 + 8) 4 true).setRb (emB 7 + 0x10) 0 true).advanceTo 0
     s1.rb (emB 7 + 8) 4 = true ∧ s1.rb (emB 7 + 8) 5 = false ∧ s1.rb (emB 7 + 0x10) 0 = true ∧ s1.rb (emB 7 + 0x10) 1 = false) ∧
    (let s1 := ((wPortUp 0 3).setRf (emB 0 + 0x10) 26 24 1).advanceTo 0
     s1.epThere 0 = true ∧ s1.linkOn 0 = true ∧ s1.rf (emB 0 + 0x10) 26 24 = 1) := by
  decide +kernel

theorem witness_EthernetPortCommands_idle :
    (let s1 := { ((wPortUp 0 3).setRb (emB 0 + 8) 4 true) with clk := { saf := 70000 * tus * fine } }.advanceTo 0
     s1.epThere 0 = true ∧ s1.linkOn 0 = true ∧ s1.rb (emB 0 + 8) 4 = true ∧ s1.rb (emB 0 + 8) 5 = false ∧ s1.rb (emB 0 + 4) 3 = false ∧
     (s1.stage 0).held = [] ∧ (s1.stage 0).wait = [] ∧
     max (s1.lineIdle 0) (s1.ep 0).wakeAt + s1.rf (emB 0 + 0x28) 15 0 * tus ≤ s1.sn) ∧
    (let s1 := (((wPortUp 0 3).setRb (emB 0 + 4) 3 true).setStage 0 { held := [wSent []] }).advanceTo 0
     s1.rb (emB 0 + 4) 3 = true ∧ (s1.stage 0).held = [wSent []] ∧ (wSent []).launch = none ∧ (wSent []).entered ≤ s1.sn) ∧
    (∀ idle ∈ [true, false], let s1 := ((wPortUp 0 3).setRb (emB 0 + 4) 4 !idle).advanceTo 0
     s1.linkOn 0 = true ∧ s1.rb (emB 0 + 4) 4 = !idle) := by
  decide +kernel

theorem witness_EthernetPortCommands_auto :
    ∀ x ∈ [(0, 1), (2, 3), (255, 1)],
      let s1 := { (((((wPortUp 0 2).setRb (emB 0 + 8) 5 true).setRf (emB 0 + 8) 2 0 3).setRf (emB 0 + 0x30) 6 0 2).setRf (emB 0 + 0x30) 14 8 3) with
                  clk := { now := 65536 * tms } }.advanceTo 0
      s1.linkOn 0 = true ∧ s1.rb (emB 0 + 8) 5 = true ∧ s1.rb (emB 0 + 8) 3 = false ∧
      (s1.ep 0).rateFrom + s1.rf (emB 0 + 0x30) 31 16 * tms ≤ s1.clk.now ∧ s1.rf (emB 0 + 0x30) 6 0 = 2 ∧
      s1.rf (emB 0 + 0x30) 14 8 = 3 ∧ 0 < s1.epRate 0 ∧ s1.epRate 0 < s1.rf (emB 0 + 8) 2 0 ∧
      (max x.1 x.2 < 2 ∨ (2 ≤ max x.1 x.2 ∧ max x.1 x.2 ≤ 3) ∨ 3 < max x.1 x.2) := by
  decide +kernel

/-- A frame of 64 bytes with a good FCS. -/
def wFrame : List Byte :=
  let l : List Byte := List.replicate 60 (1 : Byte)
  l ++ leBytes 4 (crc32 l)

theorem witness_EthernetFrameCommands_receive :
    (let s1 := ((wPortUp 7 3).setRf (emB 7 + 0x20) 7 0 0x80).advanceTo 0
     s1.epThere 7 = true ∧ s1.linkOn 7 = true ∧ s1.rb (emB 7) 0 = true ∧ s1.claimedFrame 7 0 = none ∧
     verdictOf (s1.rf (emB 7 + 0xC) 13 0) false wFrame = .good ∧ verdictOf (s1.rf (emB 7 + 0xC) 13 0) false [] = .runt ∧
     be16 wFrame 12 ≠ 0x8808 ∧ s1.forService false 7 wFrame = false ∧ (s1.rxRing 7 (framePrio wFrame (s1.rf (emB 7 + 8) 10 8))).isSome = true ∧
     ((s1.ep 7).rx.map fun f => f.bytes.length).sum + wFrame.length ≤ 65536) ∧
    (let s1 := ((wPortUp 0 0).setRf (emB 0 + 0x14) 7 0 0xFF).advanceTo 0
     s1.epThere 0 = true ∧ s1.linkOn 0 = true ∧ s1.rb (emB 0 + 0x14) 0 = true ∧ s1.rb (emB 0 + 0x14) 7 = true) := by
  decide +kernel

theorem witness_EthernetFrameCommands_pfc :
    (let s1 := ((((wPortUp 0 0).setRf (emB 0 + 0x20) 7 0 0x80).setReg (emB 0 + 0x14) 0x0100).setReg (emB 0 + 0x18) 0x00020001).advanceTo 0
     s1.epThere 0 = true ∧ s1.linkOn 0 = true ∧ s1.pfcCount 0 0 = some 0 ∧ 0 < s1.rf (emB 0 + 0x18) 15 0 ∧ (s1.ep 0).xoff = []) ∧
    (let s1 := ((((wPortUp 0 0 { xoff := [(0, 0)] }).setRf (emB 0 + 0x20) 7 0 0x80).setReg (emB 0 + 0x14) 0x0100).setReg (emB 0 + 0x18) 0x00020001).advanceTo 0
     s1.pfcCount 0 0 = some 0 ∧ 0 < s1.rf (emB 0 + 0x18) 31 16 ∧ (0, 0) ∈ (s1.ep 0).xoff ∧
     0 + s1.rf (emB 0 + 0x14) 31 16 * 64 * byteTime (s1.epRate 0) / 50 ≤ s1.sn) ∧
    (let s1 := (wPortUp 0 0).advanceTo 0; Sparse.get (fun _ => 0) (s1.ep 0).pause 0 ≤ s1.sn) := by
  decide +kernel

/-- A descriptor: buffer address, length or its fields, last byte. -/
def wDesc (a len fl : Nat) (own : Nat := 0x80) : List Byte :=
  leBytes 8 a ++ leBytes 2 len ++ leBytes 2 fl ++ leBytes 19 0 ++ leBytes 1 own

/-- A ring enabled with a DIR code. -/
def wRing (r dir : Nat) (g : Ring) (p : EPort := {}) : State :=
  (((wPortUp 7 3 p).setRb (ringB r + 8) 0 true).setRf (ringB r + 8) 2 1 dir).setRing r g

theorem witness_EthernetFrameCommands_buffer :
    (let s1 := (wPortUp 7 3 { rx := [{ stamp := 0, bytes := wFrame, prio := 0, ip4 := 0, l4 := 0 }] }).advanceTo 0
     (s1.ep 7).rx = { stamp := 0, bytes := wFrame, prio := 0, ip4 := 0, l4 := 0 } :: [] ∧ s1.rxRing 7 0 = none) ∧
    (let f : RxFrame := { stamp := 0, bytes := wFrame, prio := 0, ip4 := 0, l4 := 0 }
     let d := wDesc 0x2000000000 2048 0
     let s1 := ((wRing 3 0 { descs := [d] } { rx := [f] }).setRf (emB 7 + 0x20) 7 0 0x83).advanceTo 0
     (s1.ep 7).rx = f :: [] ∧ s1.rxRing 7 f.prio = some 3 ∧ s1.ringOn 3 = true ∧ s1.ringRecv 3 = true ∧ (s1.ring 3).descs = d :: [] ∧
     s1.rf (ringB 3 + 0x18) 19 16 = 0 ∧ f.bytes.length ≤ leAt d 8 4 ∧ s1.isLocal (leAt d 0 8) = true ∧
     leAt d 0 8 % 4096 + f.bytes.length ≤ 4096 ∧ 4 < f.bytes.length) := by
  decide +kernel

theorem witness_EthernetFrameCommands_slow :
    (let s1 := (wNet.setRb 0x180000 0 true).advanceTo 0
     s1.domOn 29 = true ∧ s1.rb 0x180000 0 = true ∧ verdictOf (s1.rf 0x180004 10 0) false [] = .runt ∧
     verdictOf (s1.rf 0x180004 10 0) false (List.replicate 64 0) = .fcs ∧ verdictOf (s1.rf 0x180004 10 0) false wFrame = .good ∧
     s1.forService true 0 wFrame = false ∧ s1.ringOn (s1.rf 0x180004 17 11) = false) ∧
    (let s1 := { wNet.setRb 0x180000 0 true with eth := { sc := { tx := [(1, 2, wFrame)], tries := 14 } } }.advanceTo 0
     s1.eth.sc.tx = (1, 2, wFrame) :: [] ∧ s1.eth.sc.tries < 15) ∧
    bit (0x8000000 : Word).toNat 27 = true ∧ bit (0x8000000 : Word).toNat 26 = false ∧ bit (0xC000000 : Word).toNat 27 = true ∧
    bit (0xC000000 : Word).toNat 26 = true := by
  decide +kernel

theorem staleAt_unbound (s : State) (x e : Nat) : s.staleAt x 0 e = false := by
  unfold State.staleAt
  split
  · rfl
  · simp

theorem witness_HostRingCommands_poll :
    (let a : Nat := 0x800000000000
     let s1 := ((((wRing 127 0 {}).setRf (ringB 127 + 8) 15 7 1).setReg64 (ringB 127) a).setRb 0x80000 0 true).advanceTo 0
     s1.ringOn 127 = true ∧ (s1.ring 127).poll = [] ∧ (s1.ring 127).polled = 0 ∧ s1.descAddr 127 0 = a ∧ s1.isLocal a = true ∧
     s1.target (a % 2 ^ 48) = .host ∧ s1.target ((a + 32 * s1.ringSize 127 - 1) % 2 ^ 48) = .host ∧ a % 16 = 0 ∧
     s1.prefetch 127 = 1 ∧ s1.rf (ringB 127 + 0xC) 15 0 < s1.ringSize 127 ∧ s1.returning 127 (s1.rf (ringB 127 + 0xC) 15 0) = false) ∧
    (let s1 := (((wRing 0 0 {}).setRf (ringB 0 + 8) 15 7 1).setReg64 (ringB 0) (2 ^ 48)).advanceTo 0
     s1.ringOn 0 = true ∧ (s1.ring 0).poll = [] ∧ (s1.ring 0).polled = 0 ∧ s1.isLocal (s1.descAddr 0 0) = false ∧
     s1.descAddr 0 0 % 256 = 0 ∧ s1.prefetch 0 = 1 ∧ s1.rf (ringB 0 + 0xC) 15 0 < s1.ringSize 0) := by
  decide +kernel

theorem witness_HostRingCommands_transmit :
    (let d := wDesc 0x2000000000 64 7
     let s1 := (wRing 5 1 { descs := [d], fetch := some (0, d), parts := [(9, some wFrame)] }).advanceTo 0
     s1.txNext 5 = some (0, d) ∧ (s1.ring 5).fetch = some (0, d) ∧ (s1.ring 5).parts ≠ [] ∧
     joinParts (s1.ring 5).parts = some (wFrame ++ []) ∧ s1.txTurn (descPort d) = some 5 ∧ descPort d < 8 ∧
     s1.epThere (descPort d) = true ∧ s1.rb (emB (descPort d)) 0 = true) := by
  decide +kernel

theorem witness_HostRingCommands_returns :
    (let s1 := { wRing 129 0 { buf := some (16, 1, 0, 0) } with clk := { now := 65536 * tus } }.advanceTo 0
     (s1.ring 129).buf = some (16, 1, 0, 0) ∧ 0 + s1.rf (ringB 129 + 0x14) 15 0 * tus ≤ s1.clk.now) ∧
    (let s1 := ((wRing 0 0 { owing := true }).setRb (0x88000 + 12) 0 false).advanceTo 0
     (s1.ring 0).owing = true ∧ (s1.ring 0).quiet ≤ s1.clk.now ∧ s1.rb (0x88000 + 16 * (s1.rf (ringB 0 + 8) 21 16) + 12) 0 = false) ∧
    (∀ b ∈ [true, false], let s1 := (wNet.setRb (0x89000 + 63 / 32 * 4) 31 b).advanceTo 0
      s1.rb (0x89000 + 63 / 32 * 4) (63 % 32) = b) ∧
    (wNet.advanceTo 0).domOn 28 = true := by
  decide +kernel

end Sys2Proof.Machine
end

