-- ==== Sys2Proof/Tests/ParserCases.lean ====
section
/-! SUPPORT. Witnesses of the statements about the parser and reply composer. -/

namespace Sys2Proof.Machine

set_option Elab.async false

/-- Context 3 walks port 7 from node 0, which has word `w0`; circuit 2 of row 63 carries its field 1. -/
def wParse (w0 : Nat) (k : PCtx := { running := true, ports := 0x80 }) : State :=
  ((((wPortUp 7 3).setRf (paB + 0x100) 30 28 7).setReg (paNode 0 0) w0).setPctx 3 k).setReg (paOut 63 2) 0x0F |>.setReg (paField 3 1) 1

/-- A claimed frame, number 0, of port 7. -/
def wClaim (v : Option (Bool × Nat) := none) : PFrame :=
  { num := 0, port := 7, stamp := 0, ref := 0, fields := [(2, 0, some [1])], meta_ := [], verdict := v }

/-- A reply of context 3, frame 0. -/
def wReply (st : ReplyState) (cancel : Bool := false) : Reply :=
  { id := 5, ctx := 3, entry := 1, frame := 0, tpl := 0, port := 7, cancel := cancel, wants := true, data := 0, launch := 0, drop := false
    len := 600, state := st }

theorem witness_ParserCommands_walk :
    (∀ w0 ∈ [0x1000, 0x1800],
      let s1 := (wParse w0).advanceTo 0
      s1.pa.waiting = [] ∧ 9 ∉ s1.rv.queue ∧ s1.walker 7 = some 3 ∧ s1.domOn 24 = true ∧ s1.epThere 7 = true ∧ s1.linkOn 7 = true ∧
      wFrame.take (s1.rf (emB 7 + 0xC) 13 0) ≠ [] ∧ be16 (wFrame.take (s1.rf (emB 7 + 0xC) 13 0)) 12 ≠ 0x8808 ∧
      s1.claimedFrame 7 0 = none ∧
      ((s1.walkFrame (wFrame.take (s1.rf (emB 7 + 0xC) 13 0)) (s1.pctx 3).root).claim = none ↔ w0 = 0x1000)) ∧
    (let s1 := (wParse 0x1800).advanceTo 0
     (∀ x ∈ s1.paCircuits 3, s1.paRoom x.1 x.2.1 = true) ∧ (63, 2, 1) ∈ s1.paCircuits 3) ∧
    (let s0 := wParse 0x1800
     let s1 := { s0 with pa := { s0.pa with toks := List.replicate 16 { row := 63, slot := 2, due := 1, kind := 0, payload := 0 } } }.advanceTo 0
     (63, 2, 1) ∈ s1.paCircuits 3 ∧ s1.paRoom 63 2 = false) := by
  decide +kernel

theorem witness_ParserCommands_tokens :
    (let x : FieldTok := { row := 63, slot := 15, due := 0, kind := 2, payload := 0 }
     firstDue 63 15 ({ wNet with pa := { toks := [x] } }.advanceTo 0).pa.toks = some x ∧
     x.due ≤ ({ wNet with pa := { toks := [x] } }.advanceTo 0).sn) ∧
    (∀ v ∈ [(0x0F, 0, 2), (0x0F, 1, 2), (0x0F, 0, 4)],
      let tok : Token := { kind := v.2.2, epoch := v.2.1, seq := 0, payload := 0 }
      let s1 := (((wNet.setReg (paIn 63 15) v.1).setEast 63 { inq := [(15, tok)] }).setPctx 3 { claims := 1 }).advanceTo 0
      (s1.east 63).inq = (15, tok) :: [] ∧ bit (s1.reg (paIn 63 15)) 0 = true ∧ fld (s1.reg (paIn 63 15)) 2 1 = 3 ∧
      (tok.epoch = s1.cxEpoch (60 + 3) ↔ v.2.1 = 0) ∧ Sparse.get (fun _ => 0) (s1.pctx 3).counts 1 < (s1.pctx 3).claims) := by
  decide +kernel

theorem witness_ParserCommands_send :
    let tok : Token := { kind := 0, epoch := 0, seq := 0, payload := BitVec.ofNat 128 (1 + 7 * 2 ^ 7) }
    let s1 := ((((((wPortUp 7 3).setReg (paIn 0 0) 0x0F).setEast 0 { inq := [(0, tok)] }).setPctx 3 { claims := 1, frames := [wClaim] }).setReg
      (paDec 3 1) 5).setReg (paTpl 0) (0x800000 + 64)).advanceTo 0
    let p := tok.payload.toNat
    let cfg := s1.reg (paDec 3 1)
    (s1.east 0).inq = (0, tok) :: [] ∧ bit (s1.reg (paIn 0 0)) 0 = true ∧ fld (s1.reg (paIn 0 0)) 2 1 = 3 ∧
    fld (s1.reg (paIn 0 0)) 4 3 = 1 ∧ tok.epoch = s1.cxEpoch (60 + 3) ∧ tok.kind = 0 ∧
    (s1.pctx 3).frames.find? (fun f => f.run == (s1.pctx 3).run && f.num == 0) = some wClaim ∧ 1 ∉ wClaim.decided ∧ wClaim.applied = false ∧ bit p 0 = true ∧
    bit cfg 0 = true ∧ wClaim.fields.find? (fun y => y.1 == fld cfg 5 1) = some (fld cfg 5 1, 0, some [1]) ∧
    s1.tplValid (fld p 6 1) = true ∧ s1.epThere (fld p 9 7) = true ∧ s1.linkOn (fld p 9 7) = true := by
  decide +kernel

theorem witness_ParserCommands_fill :
    ∀ c ∈ [true, false],
      let r := wReply .filling c
      let s0 := wNet.setPctx 3 { claims := 1, frames := [wClaim] }
      let s1 := { s0 with pa := { s0.pa with fill := [(7, [5])], replies := [r] } }.advanceTo 0
      Sparse.get (fun _ => []) s1.pa.fill 7 = 5 :: [] ∧ s1.pa.replies.find? (fun r => r.id == 5 && r.state == .filling) = some r ∧
      (s1.pctx r.ctx).frames.find? (r.of r.ctx) = some wClaim ∧ r.ctx < 4 := by
  decide +kernel

theorem witness_ParserCommands_verdict :
    ∀ st ∈ [ReplyState.held, .gone 0 0],
      let f := wClaim (some (true, 0))
      let r := wReply st
      let s0 := wNet.setPctx 3 { claims := 1, frames := [f] }
      let s1 := { s0 with clk := { saf := 1000 * tns * fine }, pa := { s0.pa with replies := [r] } }.advanceTo 0
      s1.verdictNext 7 = some (3, f) ∧ s1.pa.replies.filter (fun r => r.of 3 f && !r.cancel) = [r] ∧
      25 * (0 + paDelay + 14 * tns) ≤ 25 * 0 + (r.len - 4) * byteTime (s1.epRate r.port) := by
  decide +kernel

theorem witness_ParserInstructions_runs :
    (let s1 := ((wEng 63 0x60 0 0 0x8000).setRf (paB + 0x100) 30 28 7).advanceTo 0
     s1.pa.waiting = [] ∧ s1.cxIssues (60 + 3) 0x60 ∧ (s1.pctx 3).running = false ∧ fld (s1.cxWord 63) 15 8 = 0x80 ∧
     s1.rf 0x690100 30 28 = 4 + 3) ∧
    (let s1 := (wEng 63 0x60 0 0 0x8000).advanceTo 0
     s1.cxIssues 63 0x60 ∧ s1.cxState 63 ≠ 5 ∧ s1.rf 0x690100 30 28 ≠ 4 + 3) ∧
    (∀ b : Bool, let s1 := ((wEng 63 0x61 0 0 0).setPctx 3 { running := b }).advanceTo 0
     s1.pa.waiting = [] ∧ s1.cxIssues 63 0x61 ∧ (s1.pctx 3).running = b) :=
  ⟨by decide +kernel, by decide +kernel, fun b => by cases b <;> decide +kernel⟩

theorem witness_ParserInstructions_owns :
    let s1 := ((wEng 63 0x60 0 0 0x8000).setRf (paB + 0x100) 30 28 7).advanceTo 0
    ∀ p, p < 8 → bit (fld (s1.cxWord 63) 15 8) p = true → s1.rf 0x690100 (4 * p + 2) (4 * p) = 4 + 3 := by
  decide +kernel

theorem witness_ParserInstructions_templates :
    (let s1 := ((wEng 60 0x62 0 0 wA [(wA, leBytes 8 (wA + 256))]).setReg (paTpl 0) (0x800000 + 64)).advanceTo 0
     let w := s1.cxWord 60
     let x : Rd × Nat := Rd.num { s := s1.startTimeout 60, n := 60 } (operE w) 16
     let k := fld x.2 69 64
     s1.cxIssues 60 0x62 ∧ operE w % 16 = 0 ∧ x.1.ok = true ∧ s1.tplValid k = true ∧ s1.tplUsed k = false ∧
     (x.1.bytes (fld x.2 63 0) (s1.rf (paTpl k) 13 0)).1.ok = true) ∧
    (∀ v ∈ [0x800000 + 64, 0x800000], let s1 := ((wEng 62 0x63 0 0 0).setReg (paTpl 0) v).advanceTo 0
     s1.cxIssues (60 + 2) 0x63 ∧ (s1.tplValid (fld (s1.cxWord 62) 5 0) = true ↔ v ≠ 0x800000) ∧ s1.cxState 62 ≠ 5) := by
  decide +kernel

end Sys2Proof.Machine
end

