-- ==== Sys2Proof/Tests/Part.lean ====
section
/-! SUPPORT. Witnesses of the statements about registers, the time base, holding stages, power and resets. -/

namespace Sys2Proof.Machine

set_option Elab.async false

/-- A part with a power domain on. -/
def wOn (d : Nat) : State := State.reset.setRf (pwB d + 4) 1 0 2

/-- The hypotheses common to a register access, and those of one clause. -/
def WReg (off value : Nat) (ok : RegWord → Bool) : Prop :=
  let s1 := State.reset.advanceTo 0
  s1.pa.waiting = [] ∧ value < 2 ^ 32 ∧ off % 4 = 0 ∧ s1.blockOn off = true ∧ s1.cloveAt off = false ∧
  tplOf off = none ∧ s1.hidden off = false ∧ Sparse.get (fun _ => none) s1.rcOld off = none ∧
  Sparse.get (fun _ => none) s1.rcOld (off + 4) = none ∧
  ∃ w ∈ regWord off, Nat.land value w.dfn = value ∧ ok w = true

theorem witness_RegisterAccesses_writes :
    WReg 96 0xFFFF (fun w => w.act == 0 && w.w1c == 0 && w.rw != 0) ∧ WReg 128 4 (fun w => w.act == 0 && w.rw == 0 && w.w1c != 0) ∧
    WReg 32 0 (fun w => w.act == 0 && w.rw == 0 && w.w1c == 0) := by
  unfold WReg; decide

theorem witness_RegisterAccesses_reads :
    WReg 96 0 (fun w => w.first == 96 && w.words == 1 && !w.rc) ∧ WReg 132 0 (fun w => w.first == 132 && w.words == 1 && w.rc) ∧
    WReg 80 0 (fun w => w.first == 80 && w.words == 2 && w.rc && regWord 84 == some w) ∧
    (State.reset.advanceTo 0).blockOn 84 = true ∧ (State.reset.advanceTo 0).cloveAt 84 = false ∧
    (State.reset.advanceTo 0).hidden 84 = false := by
  unfold WReg; decide

theorem witness_IrregularAccesses :
    (let s1 := State.reset.advanceTo 0
     s1.pa.waiting = [] ∧ s1.ringOn 129 = false ∧ s1.host.faults.length < 64 ∧ s1.blockOn 80 = true ∧ s1.cloveAt 80 = false ∧ s1.hidden 80 = false ∧
     s1.blockOn 0x100000 = false) ∧
    ¬ ((2 = 4 ∨ 2 = 8 ∨ 2 = 16) ∧ 0 % 2 = 0) ∧ ¬ ((8 = 4 ∨ 8 = 8 ∨ 8 = 16) ∧ 4 % 8 = 0) ∧
    (∃ w ∈ regWord 80, w.words = 2 ∧ w.first = 80 ∧ w.rc = true) ∧ (∃ w ∈ regWord 64, w.words = 2 ∧ w.first = 64 ∧ w.rc = false) ∧
    (∀ i < 4, regWord (0x0FF0 + 4 * i) = none) ∧ 0x0FF0 % 16 = 0 := by
  decide

/-- Region entry 63 with a 4 KiB range of DRAM, entry 0 valid with the same range or not. -/
def wRegion (valid : Nat) : State :=
  let s := (((wOn 17).setRf (pwB 18 + 4) 1 0 2).setRf (pwB 19 + 4) 1 0 2).setReg64 (rgB 63 + 8) 0x1000
  (s.setReg64 (rgB 0 + 8) 0x1000).setReg (rgB 0 + 0x10) valid

theorem witness_RegionConfiguration :
    (let s1 := (wRegion 0).advanceTo 0
     s1.domOn 17 = true ∧ (0 : Word).toNat &&& 0xFFFF07 = 0 ∧ s1.rb (rgB 63 + 0x10) 0 = false ∧ s1.rgBreaks 63 1 = false) ∧
    (let s1 := (wRegion 1).advanceTo 0
     s1.rb (rgB 63 + 0x10) 0 = false ∧ s1.rb (rgB 0 + 0x10) 0 = true ∧ s1.reg64 (rgB 63) < s1.reg64 (rgB 0 + 8) ∧
     s1.reg64 (rgB 0) < s1.reg64 (rgB 63 + 8)) := by
  decide +kernel

/-- Domains A and B in given states, with a source and ENABLE. -/
def wDom (a b : Nat) (good : Nat := 0) : State :=
  let s := (((State.reset.setReg 0x20040 7).setReg 0x20080 7).setRf 0x20004 2 1 a).setRf 0x20004 4 3 b
  { s with clk := { s.clk with domA := { good := good } } }

theorem witness_DomainCommands :
    (let s1 := (wDom 0 0).advanceTo 0
     s1.domSt .a = 0 ∧ s1.domSt .b = 0 ∧ s1.rf (domB .a) 2 1 ≠ 0 ∧ s1.rf (domB .b) 2 1 ≠ 0 ∧ s1.selDom = .a ∧ s1.rb (domB .b) 0 = true) ∧
    (let s1 := (wDom 1 1 7).advanceTo 0
     let lock : Int := Int.ofNat (s1.rf (domB .a + 4) 15 0 * tns)
     s1.domSt .a = 1 ∧ lock ≤ Int.ofNat lock.natAbs ∧ Int.ofNat (1 - lock).natAbs < lock ∧ (s1.dom .a).good = 7 ∧ s1.selDom = .a ∧
     s1.rb 0x20004 6 = false ∧ (s1.dom .b).good < 7) ∧
    (let s1 := (wDom 1 2).advanceTo 0
     s1.domSt .b = 2 ∧ Int.ofNat (s1.rf (domB .b + 4) 31 16 * tns) < Int.ofNat (-(2 : Int) ^ 40).natAbs ∧ s1.selDom ≠ .b) ∧
    (let s0 := wDom 1 2
     let s1 := { s0 with clk := { s0.clk with now := 4 * tsec } }.advanceTo 0
     s1.domSt .b = 2 ∧ (s1.dom .b).lastMeas + s1.silentAfter .b ≤ s1.clk.now ∧ s1.selDom ≠ .b) ∧
    (let s1 := (wDom 1 2).advanceTo 0
     s1.sourceIs .a .pps = true ∧ s1.sourceIs .b .pps = true ∧ s1.sourceIs .a (.nenath 0) = false) := by
  decide

theorem witness_SaffronSelectionCommands :
    (let s1 := ((wDom 2 2).setRb 0x20004 6 true).advanceTo 0
     s1.selDom ≠ .b ∧ s1.domSt .b = 2 ∧ s1.rb 0x20004 6 = true ∧ s1.clk.resid = 0) ∧
    (let s1 := (wDom 2 3).advanceTo 0
     s1.selDom ≠ .b ∧ s1.domSt .b ≠ 2) := by
  decide

theorem witness_OnePpsCommands :
    (let s0 := wDom 1 0
     let s1 := { s0 with clk := { s0.clk with ppsFresh := true } }.advanceTo 0
     s1.rb (domB .a) 0 = true ∧ s1.rf (domB .a) 2 1 = 3 ∧ s1.domSt .a = 1 ∧ s1.clk.ppsFresh = true) ∧
    (let s1 := State.reset.advanceTo 0
     s1.rf (domB .a) 2 1 ≠ 3 ∧ s1.rf (domB .b) 2 1 ≠ 3) ∧
    (let s1 := { State.reset with clk := { ppsIn := some 0, now := 1100 * tms + 1 } }.advanceTo 0
     s1.clk.ppsIn = some 0 ∧ 0 + 1100 * tms < s1.clk.now) ∧
    (let s1 := { State.reset.setReg 0x20000 4 with clk := { saf := tsec * fine } }.advanceTo 0
     s1.rb 0x20000 2 = true ∧ s1.clk.ppsOutSec < s1.sn / tsec ∧ s1.holdsPins = false) ∧
    (let s1 := { State.reset with pin := { ppsOut := true }, clk := { saf := tsec * fine } }.advanceTo 0
     s1.pin.ppsOut = true ∧ s1.clk.ppsRose + Int.ofNat (s1.rf 0x200C0 19 0 * tus) ≤ Int.ofNat s1.sn) := by
  decide

theorem witness_RefreshAndQuietCommands :
    (let s1 := { State.reset with clk := { saf := (3900 * tns) * fine } }.advanceTo 0
     let g := gridAt (s1.rb 0x20100 0) s1.sn
     s1.clk.refOn = false ∧ s1.clk.refNew = none ∧ s1.clk.refStart + 280 * tns ≤ g ∧ s1.sn < g + 280 * tns) ∧
    (let s1 := { State.reset with clk := { saf := (280 * tns) * fine, refOn := true } }.advanceTo 0
     s1.clk.refOn = true ∧ s1.clk.refStart + 280 * tns ≤ s1.sn) ∧
    ∀ c ∈ [0, 1], (let q : Quiet := { code := 5, unit := 0, until_ := 0, count := c, arg := [], len := 9 }
     let s1 := { State.reset with host := { quiets := [q] } }.advanceTo 0
     quietOf 5 0 s1.host.quiets = some q ∧ q.until_ ≤ s1.sn) := by
  decide

/-- A result in the stage of the Lattice of stream 0 or of an LVDS output. -/
def wHeld (launch : Option Nat) (complete : Nat) : Held := { launch := launch, complete := complete, drop := true, body := .edge true }

/-- Ethernet port `n` up, with a stage. -/
def wStage (n : Nat) (st : Stage) : State :=
  (((wOn 24).setRb (emB n) 0 true).setRb (emB n + 4) 0 true).setStage n st

/-- A frame held without a launch time. -/
def wFrameHeld : Held := { launch := none, complete := 0, body := .frame (List.replicate 60 1) false false false }

theorem witness_HoldingStageCommands_enter :
    (∀ l ∈ [none, some (2 ^ 32 * grain)],
     let s1 := (State.reset.setStage 28 { wait := [wHeld l 0] }).advanceTo 0
     (s1.stage 28).wait = wHeld l 0 :: [] ∧ (s1.stage 28).taken < stageCap 28 ∧ s1.inReplay 0 = false) ∧
    (let s1 := (wStage 7 { wait := [wFrameHeld] }).advanceTo 0
     (s1.stage 7).wait = wFrameHeld :: [] ∧ (s1.stage 7).taken < stageCap 7 ∧ wFrameHeld.launch = none ∧ s1.linkOn 7 = true ∧
     wFrameHeld.macEntry.body.len ≤ s1.rf (emB 7 + 0xC) 13 0) ∧
    ∀ n, bit (((wStage 7 { wait := [wFrameHeld] }).advanceTo 0).cx n).stopReq 1 = false := by
  refine ⟨by decide, by decide +kernel, fun n => ?_⟩
  have h : ((wStage 7 { wait := [wFrameHeld] }).advanceTo 0).eng = {} := by decide +kernel
  unfold State.cx
  rw [h]
  simp [Sparse.get, bit]

theorem witness_HoldingStageCommands_release :
    (let s1 := { State.reset.setStage 30 { held := [wHeld (some (5 * grain)) 0] } with clk := { saf := 0 } }.advanceTo 0
     firstLaunched (s1.stage 30).held = some (wHeld (some (5 * grain)) 0) ∧ 5 * grain - egress 30 ≤ s1.sn ∧ s1.holdsPins = false ∧
     s1.mem.inflight = [] ∧ s1.departAt 30 (wHeld (some (5 * grain)) 0) (5 * grain) = 5 * grain) ∧
    (let s1 := { State.reset.setStage 30 { held := [wHeld (some (5 * grain)) grain] } with clk := { saf := grain * fine } }.advanceTo 0
     firstLaunched (s1.stage 30).held = some (wHeld (some (5 * grain)) grain) ∧ 5 * grain - egress 30 ≤ s1.sn ∧
     s1.holdsPins = false ∧ s1.departAt 30 (wHeld (some (5 * grain)) grain) (5 * grain) ≠ 5 * grain ∧
     (wHeld (some (5 * grain)) grain).origin = .unit) ∧
    (let s1 := (State.reset.setStage 28 { held := [wHeld none 0] }).advanceTo 0
     firstUntimed (s1.stage 28).held = some (wHeld none 0) ∧
     s1.edgeReady 28 (wHeld none 0) (roundUp (max 0 0) grain + egress 28) - egress 28 ≤ s1.sn) ∧
    (let s1 := { wStage 0 { held := [wFrameHeld] } with clk := { saf := tus * fine } }.advanceTo 0
     s1.rb (emB 0 + 4) 3 = false ∧ (s1.stage 0).frag = none ∧ (s1.ep 0).pause = [] ∧ (∀ x ∈ (s1.stage 0).held, x.launch = none) ∧
     firstUntimed (s1.stage 0).held = some wFrameHeld ∧
     s1.edgeReady 0 wFrameHeld (roundUp (max 0 0) grain + egress 0) - egress 0 ≤ s1.sn) := by
  decide +kernel

theorem witness_PowerDomainCommands :
    (let s1 := (State.reset.setRf (pwB 24 + 4) 1 0 0).advanceTo 0
     s1.domReal 24 = true ∧ s1.rf (pwB 24 + 4) 1 0 = 0) ∧
    (∀ l ∈ [[], [24]], let s1 := { (wOn 24).setReg (pwB 24) 3 with pwr := { claimed := l } }.advanceTo 0
     s1.domReal 24 = true ∧ s1.rf (pwB 24 + 4) 1 0 = 2 ∧ s1.domHeld 24 = false ∧ s1.rb (pwB 24) 1 = true ∧ s1.rb (pwB 24) 0 = true ∧
     s1.pwr.claimed = l) ∧
    (let s1 := ((wOn 24).setReg (emB 0) 1).advanceTo 0
     s1.domReal 24 = true ∧ s1.domHeld 24 = true) ∧
    (∀ d ∈ [1, 8], let s1 := (State.reset.setRf (pwB d + 4) 1 0 1).advanceTo 0
     s1.domReal d = true ∧ s1.rf (pwB d + 4) 1 0 = 1) ∧
    (∀ d ∈ [9, 16], let s1 := (wOn d).advanceTo 0
     s1.domReal d = true ∧ s1.rf (pwB d + 4) 1 0 = 2 ∧ s1.domBound d = false ∧ ∀ e ∈ s1.rv.queue, engDom e ≠ d) := by
  decide +kernel

theorem witness_GovernorCommands :
    (let s1 := State.reset.advanceTo 0
     s1.pwr.raised ≤ 820 ∧ (0 : Word).toNat = 0 ∧ (500 ≤ (820 : Word).toNat ∧ (820 : Word).toNat ≤ 820) ∧
     (2047 : Word).toNat < 2048 ∧ s1.reg 0x1E004 ≤ max 100 (min 1250 (0 : Word).toNat) * 1000 ∧ s1.launchDoms = [] ∧ s1.pwr.avsFail = false ∧
     s1.vdd ≤ 1023 ∧ 1000 * min 1250 (s1.reg 0x1E008) < 2 ^ 32 - 1 ∧ 0 ≤ 1000 * min 1250 (s1.reg 0x1E008) ∧
     (∀ g ∈ groupBudgets, (g.1.map fun d => s1.reg (pwB d + 0x10)).sum ≤ 1000 * g.2)) ∧
    (let s1 := (State.reset.setReg 0x1E000 (820 + 500 * 1024)).advanceTo 0
     s1.launchDoms = [] ∧ s1.rf 0x1E000 19 10 < s1.vdd ∧ s1.vdd ≤ 1023 ∧ s1.pwr.avsFail = false ∧
     1000 * min 1250 (s1.reg 0x1E008) < 2 ^ 32 - 1 ∧ (([0], 30) ∈ groupBudgets ∧ 1000 * 30 < (([30001] : List Nat)[0]?).elim 0 fun v => v % 2 ^ 32)) ∧
    (let s1 := { State.reset with pwr := { goodFrom := some 0, avsFail := true }, clk := { now := tsec } }.advanceTo 0
     s1.pwr.goodFrom = some 0 ∧ 0 + tsec ≤ s1.clk.now ∧ s1.pwr.avsFail = true) := by
  decide +kernel

theorem witness_ThermalProtection :
    let s1 := (wOn 29).advanceTo 0
    s1.domOn 29 = true ∧ (List.replicate 29 (0 : Int) ++ [114])[29]? = some 114 ∧ (List.replicate 29 (0 : Int) ++ [115])[29]? = some 115 ∧
    (List.replicate 29 (0 : Int) ++ [103])[29]? = some 103 ∧ (∀ d < 29, 0 < d → s1.domOn d = false) := by
  decide

theorem witness_ResetCommands :
    (let s1 := State.reset.advanceTo 0
     s1.pin.porst = true ∧ s1.inReset = false ∧ s1.fuse.hostless = false ∧ s1.pin.aon = true ∧ s1.holdsPins = false ∧
     s1.fuse.zeroised = false) ∧
    (let s1 := { State.reset with pin := { porst := false }, pwr := { causeAt := some 0 } }.advanceTo 0
     s1.inReset = true ∧ s1.pwr.causeAt = some s1.clk.now ∧ s1.fuse.hostless = false) ∧
    (let s1 := { State.reset with pin := { porst := false } }.advanceTo 0
     s1.pin.porst = false ∧ s1.pin.pwrGood = true ∧ s1.pin.aon = true) ∧
    bit (0x51570001 : Word).toNat 0 = true ∧ fld (0x51570001 : Word).toNat 15 1 = 0 ∧ fld (0x51570001 : Word).toNat 31 16 = 0x5157 := by
  decide

end Sys2Proof.Machine
end

