-- ==== Sys2Proof/WellFormed.lean ====
section
/-! DEFINITION. The range of every operand of a command: numbers of units that the full grade has, widths of fields, and
lengths of what a line carries.  A meaning does not assume it: a command out of range names no unit of the part and has
no effect. -/

namespace Sys2Proof

/-- A link of the Lattice that exists in numbering: 6,400 cells (R82) and 64 rows. -/
def LinkId.wf : LinkId → Bool
  | .out n _ => decide (n < 6400)
  | .westIn row => decide (row < 64)
  | .eastIn row => decide (row < 64)

/-- A cell or a context that exists in numbering (R82, R251). -/
def Waiter.wf : Waiter → Bool
  | .cell n => decide (n < 6400)
  | .context n => decide (n < 100)

/-- Every operand of the command lies in its range. -/
def Instr.wf : Instr → Bool
  | .registerWrite _ off width value => decide (off < 67108864) && decide (value < 256 ^ width)
  | .registerReadClear _ off _ => decide (off < 67108864)
  | .domainEnable _ _ _ => true
  | .reacquire _ _ => true
  | .domainMeasurement _ _ ⟨.ptp port profile number, _⟩ => decide (port < 8) && decide (profile < 3) && decide (number < 256)
  | .domainMeasurement _ _ ⟨.nenath port, _⟩ => decide (port < 20)
  | .domainMeasurement _ _ ⟨.pps, _⟩ => true
  | .sourceSilentTimeout _ _ => true
  | .selWrite _ _ => true
  | .slewComplete _ => true
  | .ppsInPulse _ => true
  | .ppsOutRise _ => true
  | .ppsOutFall _ => true
  | .refclkLoss _ => true
  | .refclkReturn _ => true
  | .resultEnterHold _ edge => decide (edge < 44)
  | .holdRelease _ edge => decide (edge < 44)
  | .untimedRelease _ edge => decide (edge < 44)
  | .eventQuietIntervalEnd _ code unit => decide (code < 65536) && decide (unit < 65536)
  | .refreshWindowStart _ => true
  | .refreshWindowEnd _ => true
  | .governorInterval _ _ _ _ => true
  | .slackHoldExpiry _ => true
  | .linkHandshake _ link => link.wf
  | .waitBoundExpiry _ cell => decide (cell < 6400)
  | .poisonPushDeferred _ cell queue => decide (cell < 6400) && decide (queue < 8)
  | .mqRequestIssue _ cell mq => decide (cell < 6400) && decide (mq < 2)
  | .memoryResponseArrive _ cell mp => decide (cell < 6400) && decide (mp < 2)
  | .nop _ cell => decide (cell < 6400)
  | .halt _ cell => decide (cell < 6400)
  | .rot _ cell => decide (cell < 6400)
  | .jmp _ cell => decide (cell < 6400)
  | .br _ cell => decide (cell < 6400)
  | .brf _ cell => decide (cell < 6400)
  | .loopI _ cell => decide (cell < 6400)
  | .kcyc _ cell => decide (cell < 6400)
  | .faultI _ cell => decide (cell < 6400)
  | .rdflg _ cell => decide (cell < 6400)
  | .clrflg _ cell => decide (cell < 6400)
  | .kset _ cell => decide (cell < 6400)
  | .ktox _ cell => decide (cell < 6400)
  | .xtok _ cell => decide (cell < 6400)
  | .addR _ cell => decide (cell < 6400)
  | .subR _ cell => decide (cell < 6400)
  | .mulR _ cell => decide (cell < 6400)
  | .andR _ cell => decide (cell < 6400)
  | .orR _ cell => decide (cell < 6400)
  | .xorR _ cell => decide (cell < 6400)
  | .shlR _ cell => decide (cell < 6400)
  | .shrR _ cell => decide (cell < 6400)
  | .sraR _ cell => decide (cell < 6400)
  | .minR _ cell => decide (cell < 6400)
  | .maxR _ cell => decide (cell < 6400)
  | .fadd _ cell => decide (cell < 6400)
  | .fmul _ cell => decide (cell < 6400)
  | .fmax _ cell => decide (cell < 6400)
  | .fmin _ cell => decide (cell < 6400)
  | .cvt _ cell => decide (cell < 6400)
  | .addImmediate _ cell => decide (cell < 6400)
  | .subImmediate _ cell => decide (cell < 6400)
  | .mulImmediate _ cell => decide (cell < 6400)
  | .andImmediate _ cell => decide (cell < 6400)
  | .orImmediate _ cell => decide (cell < 6400)
  | .xorImmediate _ cell => decide (cell < 6400)
  | .shlImmediate _ cell => decide (cell < 6400)
  | .shrImmediate _ cell => decide (cell < 6400)
  | .sraImmediate _ cell => decide (cell < 6400)
  | .minImmediate _ cell => decide (cell < 6400)
  | .maxImmediate _ cell => decide (cell < 6400)
  | .faddImmediate _ cell => decide (cell < 6400)
  | .fmulImmediate _ cell => decide (cell < 6400)
  | .fmaxImmediate _ cell => decide (cell < 6400)
  | .fminImmediate _ cell => decide (cell < 6400)
  | .movi _ cell => decide (cell < 6400)
  | .movhi _ cell => decide (cell < 6400)
  | .rdt _ cell => decide (cell < 6400)
  | .amax _ cell => decide (cell < 6400)
  | .mov _ cell => decide (cell < 6400)
  | .dropTok _ cell => decide (cell < 6400)
  | .waitq _ cell => decide (cell < 6400)
  | .waitt _ cell => decide (cell < 6400)
  | .lds _ cell => decide (cell < 6400)
  | .sts _ cell => decide (cell < 6400)
  | .ldx _ cell => decide (cell < 6400)
  | .stx _ cell => decide (cell < 6400)
  | .accld _ cell => decide (cell < 6400)
  | .accst _ cell => decide (cell < 6400)
  | .mld _ cell => decide (cell < 6400)
  | .mst _ cell => decide (cell < 6400)
  | .wave _ cell => decide (cell < 6400)
  | .aadd _ cell => decide (cell < 6400)
  | .aout _ cell => decide (cell < 6400)
  | .act _ cell => decide (cell < 6400)
  | .joinI _ cell => decide (cell < 6400)
  | .routeTok _ cell => decide (cell < 6400)
  | .gateTok _ cell => decide (cell < 6400)
  | .mergeTok _ cell => decide (cell < 6400)
  | .firstTok _ cell => decide (cell < 6400)
  | .runWrite _ cell _ => decide (cell < 6400)
  | .edgeStopWrite _ cell _ => decide (cell < 6400)
  | .cellReset _ cell => decide (cell < 6400)
  | .clBindWrite _ cell _ => decide (cell < 6400)
  | .clIndDataWrite _ cell _ => decide (cell < 6400)
  | .ldrainGo _ bind => decide (bind < 256)
  | .ldrainDone _ => true
  | .ldrainBoundExpiry _ => true
  | .dispatchStore _ win off _ bind epoch => decide (win < 128) && decide (off < 131072) && decide (bind < 256) && decide (epoch < 256)
  | .commandStart _ ctx => decide (ctx < 100)
  | .engineInstructionComplete _ ctx => decide (ctx < 100)
  | .commandComplete _ ctx => decide (ctx < 100)
  | .cmdTimeout _ ctx => decide (ctx < 100)
  | .seqNop _ ctx => decide (ctx < 100)
  | .seal _ ctx => decide (ctx < 100)
  | .seqLoop _ ctx => decide (ctx < 100)
  | .seqWaitt _ ctx => decide (ctx < 100)
  | .seqWaitq _ ctx => decide (ctx < 100)
  | .waitqPoll _ ctx => decide (ctx < 100)
  | .signalStore _ ctx => decide (ctx < 100)
  | .fence _ ctx => decide (ctx < 100)
  | .setref _ ctx => decide (ctx < 100)
  | .mat _ ctx => decide (ctx < 100)
  | .vew _ ctx => decide (ctx < 100)
  | .vred _ ctx => decide (ctx < 100)
  | .softmax _ ctx => decide (ctx < 100)
  | .normV _ ctx => decide (ctx < 100)
  | .vquant _ ctx => decide (ctx < 100)
  | .tbuild _ ctx => decide (ctx < 100)
  | .sampleTok _ ctx => decide (ctx < 100)
  | .allreduce _ ctx => decide (ctx < 100)
  | .redscat _ ctx => decide (ctx < 100)
  | .allgather _ ctx => decide (ctx < 100)
  | .bcast _ ctx => decide (ctx < 100)
  | .crc _ ctx => decide (ctx < 100)
  | .ipsum _ ctx => decide (ctx < 100)
  | .shake _ ctx => decide (ctx < 100)
  | .slhver _ ctx => decide (ctx < 100)
  | .slhsign _ ctx => decide (ctx < 100)
  | .copyMem _ ctx => decide (ctx < 100)
  | .copy2d _ ctx => decide (ctx < 100)
  | .gather _ ctx => decide (ctx < 100)
  | .scatter _ ctx => decide (ctx < 100)
  | .fillMem _ ctx => decide (ctx < 100)
  | .cxHalt _ ctx => decide (ctx < 100)
  | .cxGo _ ctx => decide (ctx < 100)
  | .cxSkip _ ctx => decide (ctx < 100)
  | .cxReset _ ctx => decide (ctx < 100)
  | .samplePresent _ lane => decide (lane < 288)
  | .featureTokenSend _ row slot => decide (row < 64) && decide (slot < 16)
  | .tgEdgeTokenReceive _ row => decide (row < 64)
  | .lvdsInputEdge _ input _ => decide (input < 8)
  | .combinerEventReceive _ comb => decide (comb < 64)
  | .combinerDecide _ comb => decide (comb < 64)
  | .deadTimeEnd _ comb => decide (comb < 64)
  | .markRecordDeliver _ comb => decide (comb < 64)
  | .sampleReachCheckPoint _ chan => decide (chan < 384)
  | .streamHeadPoll _ stream => decide (stream < 4)
  | .streamTimeWrap _ stream => decide (stream < 4)
  | .tstart _ ctx => decide (ctx < 100)
  | .tstop _ ctx => decide (ctx < 100)
  | .tarm _ ctx => decide (ctx < 100)
  | .tdisarm _ ctx => decide (ctx < 100)
  | .trearm _ ctx => decide (ctx < 100)
  | .tsoft _ ctx => decide (ctx < 100)
  | .snEnable _ chan _ => decide (chan < 384)
  | .snRearm _ chan => decide (chan < 384)
  | .laneEnable _ lane _ => decide (lane < 288)
  | .retrain _ lane => decide (lane < 288)
  | .txSleep _ lane _ => decide (lane < 288)
  | .rxSleep _ lane _ => decide (lane < 288)
  | .laneLock _ lane => decide (lane < 288)
  | .laneLockLoss _ lane => decide (lane < 288)
  | .trainingFrameReceive _ lane req req2 status status2 => decide (lane < 288) && decide (req < 256) && decide (req2 < 256) && decide (status < 256) && decide (status2 < 256)
  | .eyeMeasure _ lane width height => decide (lane < 288) && decide (width < 256) && decide (height < 256)
  | .laneTrainTimeout _ lane => decide (lane < 288)
  | .measureDone _ lane _ => decide (lane < 288)
  | .signalLoss _ lane => decide (lane < 288)
  | .codewordReceive _ lane bytes => decide (lane < 288) && decide (bytes.length = 34)
  | .sensorCharacterReceive _ lane code => decide (lane < 288) && decide (code < 1024)
  | .groupFix _ group => decide (group < 2)
  | .emEnable _ port _ => decide (port < 8)
  | .restartAn _ port => decide (port < 8)
  | .linkUp _ port twTx twRx => decide (port < 8) && decide (twTx < 65536) && decide (twRx < 65536)
  | .linkDown _ port => decide (port < 8)
  | .frameReceive _ port _ bytes later _ => decide (port < 8) && later.all fun x => decide (x.1 < bytes.length)
  | .pfcFrameReceive _ port times => decide (port < 8) && (times.all fun p => decide (p.1 < 8) && decide (p.2 < 65536))
  | .pfcPauseExpiry _ port prio => decide (port < 8) && decide (prio < 8)
  | .hostPathFrameWrite _ port => decide (port < 8)
  | .pfcFrameSend _ port => decide (port < 8)
  | .pfcRepeat _ port => decide (port < 8)
  | .preemptVerify _ port _ => decide (port < 8)
  | .lpiEnter _ port => decide (port < 8)
  | .lpiWake _ port => decide (port < 8)
  | .autoRateInterval _ port txUtil rxUtil => decide (port < 8) && decide (txUtil < 101) && decide (rxUtil < 101)
  | .scFrameReceive _ _ => true
  | .scFrameTransmit _ => true
  | .scCollision _ sent => decide (sent < 65536)
  | .mdioGo _ _ phyData => decide (phyData < 65536)
  | .headerWalk _ port a bytes => decide (port < 8) && a.later.all fun x => decide (x.1 < bytes.length)
  | .fieldTokenSend _ row slot => decide (row < 64) && decide (slot < 16)
  | .decisionReceive _ row => decide (row < 64)
  | .replyFillComplete _ port => decide (port < 8)
  | .verdictApply _ port => decide (port < 8)
  | .pstart _ ctx => decide (ctx < 100)
  | .pstop _ ctx => decide (ctx < 100)
  | .tload _ ctx => decide (ctx < 100)
  | .psend _ ctx => decide (ctx < 100)
  | .nfEnable _ port _ => decide (port < 20)
  | .nfRetrain _ port => decide (port < 20)
  | .portUp _ port peer peerPort => decide (port < 20) && decide (peer < 4096) && decide (peerPort < 20)
  | .portTrainTimeout _ port => decide (port < 20)
  | .lanesBelowMin _ port => decide (port < 20)
  | .portGraceExpiry _ port => decide (port < 20)
  | .dataFlitReceive _ port flit => decide (port < 20) && decide (flit.length = 512)
  | .recoverFlit _ port flit => decide (port < 20) && decide (flit.length = 512)
  | .resumedFlit _ port flit => decide (port < 20) && decide (flit.length = 512)
  | .laneMap _ port flit => decide (port < 20) && decide (flit.length = 512)
  | .timeFlitSend _ port => decide (port < 20)
  | .timeFlitReceive _ port flit => decide (port < 20) && decide (flit.length = 512)
  | .readMsg _ src => decide (src < 22)
  | .writeMsg _ src => decide (src < 22)
  | .readData _ src => decide (src < 22)
  | .writeAck _ src => decide (src < 22)
  | .epochMismatch _ src => decide (src < 22)
  | .unmappedAns _ src => decide (src < 22)
  | .noRouteAns _ src => decide (src < 22)
  | .recoveringAns _ src => decide (src < 22)
  | .probeMsg _ src => decide (src < 22)
  | .probeSend _ dest => decide (dest < 4096)
  | .readyMsg _ src => decide (src < 22)
  | .collMsg _ src => decide (src < 22)
  | .destGraceExpiry _ dest => decide (dest < 4096)
  | .nfDestWrite _ dest _ => decide (dest < 4096)
  | .injectHold _ _ => true
  | .localRecovering _ _ => true
  | .memoryRequestPerform _ (.waiting _) => true
  | .memoryRequestPerform _ (.barRead off len) => decide (0 < len) && decide (off + len ≤ 2 ^ 37)
  | .memoryRequestPerform _ (.barWrite off data) => decide (0 < data.length) && decide (off + data.length ≤ 2 ^ 37)
  | .patrolScrub _ stack addr => decide (stack < 16) && decide (addr < 2 ^ 37)
  | .dramTempSample _ temps => decide (temps.length ≤ 16)
  | .rgCfgWrite _ entry _ => decide (entry < 64)
  | .ringPoll _ ring => decide (ring < 130)
  | .transmitFrameEnqueue _ ring => decide (ring < 130)
  | .recordBufferCoal _ ring => decide (ring < 130)
  | .ringDisable _ ring => decide (ring < 130)
  | .msixHoldoffExpiry _ ring => decide (ring < 130)
  | .msixUnmask _ vector => decide (vector < 64)
  | .raRequest _ bytes => decide (16 ≤ bytes.length)
  | .pwOnWrite _ dom _ => decide (dom < 30)
  | .pwReset _ dom => decide (dom < 30)
  | .domainPowerSettled _ dom => decide (dom < 30)
  | .autoPowerOff _ dom => decide (dom < 30)
  | .floorBindWrite _ bind _ => decide (bind < 256)
  | .pwLimitWrite _ _ => true
  | .thermalSample _ temps => decide (temps.length = 30)
  | .avsTransactionFail _ => true
  | .avsRetry _ _ => true
  | .porst _ _ _ => true
  | .perst _ => true
  | .glResetWarm _ _ => true
  | .bootPhaseComplete _ _ _ failedCells chFail => (failedCells.all fun n => decide (n < 6400)) && decide (chFail.length ≤ 16)
  | .fixedOnlyWrite _ _ => true
  | .detSigComputed _ => true
  | .measGo _ _ => true
  | .measClear _ _ => true
  | .measurementComplete _ => true
  | .attGo _ => true
  | .attestationComplete _ => true
  | .tamperFire _ sensor => decide (sensor < 5)
  | .engineDrainComplete _ eng => decide (eng < 15)
  | .engineDrainBoundExpiry _ eng => decide (eng < 15)
  | .scanUnitTimeout _ unit => decide (unit < 65536)
  | .dumpImageComplete _ _ => true
  | .scopeResetComplete _ eng => decide (eng < 15)
  | .scopeCheckComplete _ eng _ => decide (eng < 15)
  | .contextReplayStart _ eng => decide (eng < 15)
  | .engineRelease _ eng => decide (eng < 15)
  | .cellPatternTest _ cellA cellB _ _ => decide (cellA < 6400) && decide (cellB < 6400)
  | .chipRecover _ => true
  | .chipRecoveryPhaseComplete _ _ => true
  | .extest _ _ => true
  | .idcode _ _ => true
  | .samplePreload _ _ => true
  | .clamp _ _ => true
  | .highz _ _ => true
  | .bypass _ _ => true
  | .dbgreq _ _ _ byteEn _ => decide (byteEn < 65536)
  | .debugAccessComplete _ => true
  | .dbHalt _ _ => true
  | .dbGo _ _ => true
  | .dbStep _ _ => true
  | .dbDump _ _ => true
  | .breakpointTimeMatch _ bp => decide (bp < 16)
  | .lifetimeSample _ _ vcore _ => decide (vcore < 65536)
  | .lifetimeAggregate _ _ => true
  | .aggNow _ _ => true
  | .waittDeadline _ who => who.wf
  | .undefinedCellOpcode _ cell => decide (cell < 6400)
  | .undefinedEngineOpcode _ ctx => decide (ctx < 100)
  | .signalReturn _ lane => decide (lane < 288)
  | .txHalfAwake _ lane => decide (lane < 288)
  | .idleFlitReceive _ port flit => decide (port < 20) && decide (flit.length = 512)
  | .hostLinkUp _ speed lanes => decide (speed < 8) && decide (lanes < 32)
  | .hostLinkDown _ => true
  | .ppsInLoss _ => true
  | .partnerLowPowerIdle _ port _ => decide (port < 8)
  | .tapReset _ => true
  | .vddAonLoss _ => true
  | .vddAonRise _ => true
  | .smbusTransaction _ _ _ => true

end Sys2Proof
end

