-- ==== Sys2Proof/Tests/Slice0.lean ====
section
/-! SUPPORT. The well-formedness smoke, the queue of commands, and one-step tests whose expected values come from the worked
numbers of the manual or from a calculation by hand. -/

namespace Sys2Proof

set_option Elab.async false

/-! ### Well-formedness: one good and one ill-formed term of every check -/

theorem test_wellFormed_a :
    ([.registerWrite 0 67108863 4 4294967295, .registerReadClear 0 67108863 0, .domainEnable 0 .a true, .reacquire 0 .a,
     .domainMeasurement 0 .a ⟨(.ptp 7 2 255), 0⟩, .domainMeasurement 0 .a ⟨(.nenath 19), 0⟩, .sourceSilentTimeout 0 .a, .selWrite 0 .a, .slewComplete 0, .ppsInPulse 0, .ppsOutRise 0,
     .ppsOutFall 0, .refclkLoss 0, .refclkReturn 0, .resultEnterHold 0 43, .holdRelease 0 43, .untimedRelease 0 43,
     .eventQuietIntervalEnd 0 65535 65535, .refreshWindowStart 0, .refreshWindowEnd 0, .governorInterval 0 0 [] [],
     .slackHoldExpiry 0, .linkHandshake 0 (.westIn 63), .waitBoundExpiry 0 6399, .poisonPushDeferred 0 6399 7,
     .mqRequestIssue 0 6399 1, .memoryResponseArrive 0 6399 1, .nop 0 6399, .halt 0 6399, .rot 0 6399, .jmp 0 6399, .br 0 6399,
     .brf 0 6399, .loopI 0 6399, .kcyc 0 6399, .faultI 0 6399, .rdflg 0 6399, .clrflg 0 6399, .kset 0 6399, .ktox 0 6399,
     .xtok 0 6399, .addR 0 6399, .subR 0 6399, .mulR 0 6399, .andR 0 6399, .orR 0 6399, .xorR 0 6399, .shlR 0 6399,
     .shrR 0 6399, .sraR 0 6399, .minR 0 6399, .maxR 0 6399] : List Instr).all Instr.wf = true := by decide +kernel

theorem test_wellFormed_b :
    ([.fadd 0 6399, .fmul 0 6399, .fmax 0 6399, .fmin 0 6399, .cvt 0 6399, .addImmediate 0 6399, .subImmediate 0 6399,
     .mulImmediate 0 6399, .andImmediate 0 6399, .orImmediate 0 6399, .xorImmediate 0 6399, .shlImmediate 0 6399,
     .shrImmediate 0 6399, .sraImmediate 0 6399, .minImmediate 0 6399, .maxImmediate 0 6399, .faddImmediate 0 6399,
     .fmulImmediate 0 6399, .fmaxImmediate 0 6399, .fminImmediate 0 6399, .movi 0 6399, .movhi 0 6399, .rdt 0 6399,
     .amax 0 6399, .mov 0 6399, .dropTok 0 6399, .waitq 0 6399, .waitt 0 6399, .lds 0 6399, .sts 0 6399, .ldx 0 6399,
     .stx 0 6399, .accld 0 6399, .accst 0 6399, .mld 0 6399, .mst 0 6399, .wave 0 6399, .aadd 0 6399, .aout 0 6399,
     .act 0 6399, .joinI 0 6399, .routeTok 0 6399, .gateTok 0 6399, .mergeTok 0 6399, .firstTok 0 6399, .runWrite 0 6399 true,
     .edgeStopWrite 0 6399 true, .cellReset 0 6399, .clBindWrite 0 6399 0, .clIndDataWrite 0 6399 0, .ldrainGo 0 255] : List Instr).all Instr.wf = true := by decide +kernel

theorem test_wellFormed_c :
    ([.ldrainDone 0, .ldrainBoundExpiry 0, .dispatchStore 0 127 131071 [] 255 255, .commandStart 0 99,
     .engineInstructionComplete 0 99, .commandComplete 0 99, .cmdTimeout 0 99, .seqNop 0 99, .seal 0 99, .seqLoop 0 99,
     .seqWaitt 0 99, .seqWaitq 0 99, .waitqPoll 0 99, .signalStore 0 99, .fence 0 99, .setref 0 99, .mat 0 99, .vew 0 99,
     .vred 0 99, .softmax 0 99, .normV 0 99, .vquant 0 99, .tbuild 0 99, .sampleTok 0 99, .allreduce 0 99, .redscat 0 99,
     .allgather 0 99, .bcast 0 99, .crc 0 99, .ipsum 0 99, .shake 0 99, .slhver 0 99, .slhsign 0 99, .copyMem 0 99,
     .copy2d 0 99, .gather 0 99, .scatter 0 99, .fillMem 0 99, .cxHalt 0 99, .cxGo 0 99, .cxSkip 0 99, .cxReset 0 99,
     .samplePresent 0 287, .featureTokenSend 0 63 15, .tgEdgeTokenReceive 0 63, .lvdsInputEdge 0 7 true,
     .combinerEventReceive 0 63, .combinerDecide 0 63, .deadTimeEnd 0 63, .markRecordDeliver 0 63, .sampleReachCheckPoint 0 383] : List Instr).all Instr.wf = true := by decide +kernel

theorem test_wellFormed_d :
    ([.streamHeadPoll 0 3, .streamTimeWrap 0 3, .tstart 0 99, .tstop 0 99, .tarm 0 99, .tdisarm 0 99, .trearm 0 99, .tsoft 0 99,
     .snEnable 0 383 true, .snRearm 0 383, .laneEnable 0 287 true, .retrain 0 287, .txSleep 0 287 true, .rxSleep 0 287 true,
     .laneLock 0 287, .laneLockLoss 0 287, .trainingFrameReceive 0 287 255 255 255 255, .eyeMeasure 0 287 255 255,
     .laneTrainTimeout 0 287, .measureDone 0 287 0, .signalLoss 0 287, .codewordReceive 0 287 (List.replicate 34 0),
     .sensorCharacterReceive 0 287 1023, .groupFix 0 1, .emEnable 0 7 true, .restartAn 0 7, .linkUp 0 7 65535 65535,
     .linkDown 0 7, .frameReceive 0 7 0 [0, 0] [(1, 5)] none, .pfcFrameReceive 0 7 [(7, 65535)], .pfcPauseExpiry 0 7 7,
     .hostPathFrameWrite 0 7, .pfcFrameSend 0 7, .pfcRepeat 0 7, .preemptVerify 0 7 true, .lpiEnter 0 7, .lpiWake 0 7,
     .autoRateInterval 0 7 100 100, .scFrameReceive 0 [], .scFrameTransmit 0, .scCollision 0 65535, .mdioGo 0 0 65535,
     .headerWalk 0 7 ⟨0, [(1, 5)]⟩ [0, 0], .fieldTokenSend 0 63 15, .decisionReceive 0 63, .replyFillComplete 0 7, .verdictApply 0 7,
     .pstart 0 99, .pstop 0 99, .tload 0 99, .psend 0 99] : List Instr).all Instr.wf = true := by decide +kernel

theorem test_wellFormed_e :
    ([.nfEnable 0 19 true, .nfRetrain 0 19, .portUp 0 19 4095 19, .portTrainTimeout 0 19, .lanesBelowMin 0 19,
     .portGraceExpiry 0 19, .dataFlitReceive 0 19 (List.replicate 512 0), .recoverFlit 0 19 (List.replicate 512 0),
     .resumedFlit 0 19 (List.replicate 512 0), .laneMap 0 19 (List.replicate 512 0), .timeFlitSend 0 19,
     .timeFlitReceive 0 19 (List.replicate 512 0), .readMsg 0 21, .writeMsg 0 21, .readData 0 21, .writeAck 0 21,
     .epochMismatch 0 21, .unmappedAns 0 21, .noRouteAns 0 21, .recoveringAns 0 21, .probeMsg 0 21, .probeSend 0 4095,
     .readyMsg 0 21, .collMsg 0 21, .destGraceExpiry 0 4095, .nfDestWrite 0 4095 0, .injectHold 0 true,
     .localRecovering 0 true, .memoryRequestPerform 0 (.waiting 0), .memoryRequestPerform 0 (.barRead (2 ^ 37 - 1) 1),
     .memoryRequestPerform 0 (.barWrite (2 ^ 37 - 1) [0]), .patrolScrub 0 15 137438953471,
     .dramTempSample 0 (List.replicate 16 0), .rgCfgWrite 0 63 0, .ringPoll 0 129, .transmitFrameEnqueue 0 129,
     .recordBufferCoal 0 129, .ringDisable 0 129, .msixHoldoffExpiry 0 129, .msixUnmask 0 63,
     .raRequest 0 (List.replicate 16 0), .pwOnWrite 0 29 true, .pwReset 0 29, .domainPowerSettled 0 29, .autoPowerOff 0 29,
     .floorBindWrite 0 255 0, .pwLimitWrite 0 0, .thermalSample 0 (List.replicate 30 0), .avsTransactionFail 0,
     .avsRetry 0 true, .porst 0 true true, .perst 0, .glResetWarm 0 0] : List Instr).all Instr.wf = true := by decide +kernel

theorem test_wellFormed_f :
    ([.bootPhaseComplete 0 true true [6399] (List.replicate 16 0), .fixedOnlyWrite 0 true, .detSigComputed 0, .measGo 0 0,
     .measClear 0 0, .measurementComplete 0, .attGo 0, .attestationComplete 0, .tamperFire 0 4, .engineDrainComplete 0 14,
     .engineDrainBoundExpiry 0 14, .scanUnitTimeout 0 65535, .dumpImageComplete 0 [], .scopeResetComplete 0 14,
     .scopeCheckComplete 0 14 true, .contextReplayStart 0 14, .engineRelease 0 14, .cellPatternTest 0 6399 6399 true true,
     .chipRecover 0, .chipRecoveryPhaseComplete 0 true, .extest 0 0, .idcode 0 0, .samplePreload 0 0, .clamp 0 0, .highz 0 0,
     .bypass 0 0, .dbgreq 0 0 0 65535 true, .debugAccessComplete 0, .dbHalt 0 0, .dbGo 0 0, .dbStep 0 0, .dbDump 0 0,
     .breakpointTimeMatch 0 15, .lifetimeSample 0 0 65535 0, .lifetimeAggregate 0 true, .aggNow 0 true,
     .waittDeadline 0 (.context 99), .undefinedCellOpcode 0 6399, .undefinedEngineOpcode 0 99, .signalReturn 0 287,
     .txHalfAwake 0 287, .idleFlitReceive 0 19 (List.replicate 512 0), .hostLinkUp 0 7 31, .hostLinkDown 0, .ppsInLoss 0,
     .partnerLowPowerIdle 0 7 true, .tapReset 0, .vddAonLoss 0, .vddAonRise 0, .smbusTransaction 0 0 []] : List Instr).all Instr.wf = true := by decide +kernel

theorem test_illFormed_a :
    ([.registerWrite 0 67108864 4 4294967295, .registerWrite 0 67108863 4 4294967296, .registerReadClear 0 67108864 0,
     .domainMeasurement 0 .a ⟨(.ptp 8 2 255), 0⟩, .domainMeasurement 0 .a ⟨(.ptp 7 3 255), 0⟩,
     .domainMeasurement 0 .a ⟨(.ptp 7 2 256), 0⟩, .domainMeasurement 0 .a ⟨(.nenath 20), 0⟩, .resultEnterHold 0 44, .holdRelease 0 44, .untimedRelease 0 44, .eventQuietIntervalEnd 0 65536 65535,
     .eventQuietIntervalEnd 0 65535 65536, .linkHandshake 0 (.out 6400 .n), .linkHandshake 0 (.westIn 64),
     .linkHandshake 0 (.eastIn 64), .waitBoundExpiry 0 6400, .poisonPushDeferred 0 6400 7, .poisonPushDeferred 0 6399 8,
     .mqRequestIssue 0 6400 1, .mqRequestIssue 0 6399 2, .memoryResponseArrive 0 6400 1, .memoryResponseArrive 0 6399 2,
     .nop 0 6400, .halt 0 6400, .rot 0 6400, .jmp 0 6400, .br 0 6400, .brf 0 6400, .loopI 0 6400, .kcyc 0 6400, .faultI 0 6400,
     .rdflg 0 6400, .clrflg 0 6400, .kset 0 6400, .ktox 0 6400, .xtok 0 6400, .addR 0 6400, .subR 0 6400, .mulR 0 6400,
     .andR 0 6400, .orR 0 6400, .xorR 0 6400, .shlR 0 6400, .shrR 0 6400, .sraR 0 6400, .minR 0 6400, .maxR 0 6400,
     .fadd 0 6400, .fmul 0 6400, .fmax 0 6400, .fmin 0 6400, .cvt 0 6400, .addImmediate 0 6400, .subImmediate 0 6400,
     .mulImmediate 0 6400, .andImmediate 0 6400, .orImmediate 0 6400, .xorImmediate 0 6400, .shlImmediate 0 6400,
     .shrImmediate 0 6400, .sraImmediate 0 6400, .minImmediate 0 6400, .maxImmediate 0 6400, .faddImmediate 0 6400] : List Instr).any Instr.wf = false := by decide +kernel

theorem test_illFormed_b :
    ([.fmulImmediate 0 6400, .fmaxImmediate 0 6400, .fminImmediate 0 6400, .movi 0 6400, .movhi 0 6400, .rdt 0 6400,
     .amax 0 6400, .mov 0 6400, .dropTok 0 6400, .waitq 0 6400, .waitt 0 6400, .lds 0 6400, .sts 0 6400, .ldx 0 6400,
     .stx 0 6400, .accld 0 6400, .accst 0 6400, .mld 0 6400, .mst 0 6400, .wave 0 6400, .aadd 0 6400, .aout 0 6400,
     .act 0 6400, .joinI 0 6400, .routeTok 0 6400, .gateTok 0 6400, .mergeTok 0 6400, .firstTok 0 6400, .runWrite 0 6400 true,
     .edgeStopWrite 0 6400 true, .cellReset 0 6400, .clBindWrite 0 6400 0, .clIndDataWrite 0 6400 0, .ldrainGo 0 256,
     .dispatchStore 0 128 131071 [] 255 255, .dispatchStore 0 127 131072 [] 255 255, .dispatchStore 0 127 131071 [] 256 255,
     .dispatchStore 0 127 131071 [] 255 256, .commandStart 0 100, .engineInstructionComplete 0 100, .commandComplete 0 100,
     .cmdTimeout 0 100, .seqNop 0 100, .seal 0 100, .seqLoop 0 100, .seqWaitt 0 100, .seqWaitq 0 100, .waitqPoll 0 100,
     .signalStore 0 100, .fence 0 100, .setref 0 100, .mat 0 100, .vew 0 100, .vred 0 100, .softmax 0 100, .normV 0 100,
     .vquant 0 100, .tbuild 0 100, .sampleTok 0 100, .allreduce 0 100] : List Instr).any Instr.wf = false := by decide +kernel

theorem test_illFormed_c :
    ([.redscat 0 100, .allgather 0 100, .bcast 0 100, .crc 0 100, .ipsum 0 100, .shake 0 100, .slhver 0 100, .slhsign 0 100,
     .copyMem 0 100, .copy2d 0 100, .gather 0 100, .scatter 0 100, .fillMem 0 100, .cxHalt 0 100, .cxGo 0 100, .cxSkip 0 100,
     .cxReset 0 100, .samplePresent 0 288, .featureTokenSend 0 64 15, .featureTokenSend 0 63 16, .tgEdgeTokenReceive 0 64,
     .lvdsInputEdge 0 8 true, .combinerEventReceive 0 64, .combinerDecide 0 64, .deadTimeEnd 0 64, .markRecordDeliver 0 64,
     .sampleReachCheckPoint 0 384, .streamHeadPoll 0 4, .streamTimeWrap 0 4, .tstart 0 100, .tstop 0 100, .tarm 0 100,
     .tdisarm 0 100, .trearm 0 100, .tsoft 0 100, .snEnable 0 384 true, .snRearm 0 384, .laneEnable 0 288 true, .retrain 0 288,
     .txSleep 0 288 true, .rxSleep 0 288 true, .laneLock 0 288, .laneLockLoss 0 288,
     .trainingFrameReceive 0 288 255 255 255 255, .trainingFrameReceive 0 287 256 255 255 255,
     .trainingFrameReceive 0 287 255 256 255 255, .trainingFrameReceive 0 287 255 255 256 255,
     .trainingFrameReceive 0 287 255 255 255 256, .eyeMeasure 0 288 255 255, .eyeMeasure 0 287 256 255,
     .eyeMeasure 0 287 255 256, .laneTrainTimeout 0 288, .measureDone 0 288 0, .signalLoss 0 288, .codewordReceive 0 287 [],
     .codewordReceive 0 288 (List.replicate 34 0), .sensorCharacterReceive 0 288 1023, .sensorCharacterReceive 0 287 1024,
     .groupFix 0 2, .emEnable 0 8 true] : List Instr).any Instr.wf = false := by decide +kernel

theorem test_illFormed_d :
    ([.restartAn 0 8, .linkUp 0 8 65535 65535, .linkUp 0 7 65536 65535, .linkUp 0 7 65535 65536, .linkDown 0 8,
     .frameReceive 0 8 0 [0, 0] [] none, .frameReceive 0 7 0 [0, 0] [(2, 5)] none, .pfcFrameReceive 0 8 [(7, 65535)],
     .pfcFrameReceive 0 7 [(8, 0)], .pfcFrameReceive 0 7 [(0, 65536)], .pfcPauseExpiry 0 8 7, .pfcPauseExpiry 0 7 8,
     .hostPathFrameWrite 0 8, .pfcFrameSend 0 8, .pfcRepeat 0 8, .preemptVerify 0 8 true, .lpiEnter 0 8, .lpiWake 0 8,
     .autoRateInterval 0 8 100 100, .autoRateInterval 0 7 101 100, .autoRateInterval 0 7 100 101, .scCollision 0 65536,
     .mdioGo 0 0 65536, .headerWalk 0 8 ⟨0, []⟩ [0], .headerWalk 0 7 ⟨0, [(1, 5)]⟩ [0], .fieldTokenSend 0 64 15, .fieldTokenSend 0 63 16, .decisionReceive 0 64,
     .replyFillComplete 0 8, .verdictApply 0 8, .pstart 0 100, .pstop 0 100, .tload 0 100, .psend 0 100, .nfEnable 0 20 true,
     .nfRetrain 0 20, .portUp 0 20 4095 19, .portUp 0 19 4096 19, .portUp 0 19 4095 20, .portTrainTimeout 0 20,
     .lanesBelowMin 0 20, .portGraceExpiry 0 20, .dataFlitReceive 0 19 [], .dataFlitReceive 0 20 (List.replicate 512 0),
     .recoverFlit 0 19 [], .recoverFlit 0 20 (List.replicate 512 0), .resumedFlit 0 19 [],
     .resumedFlit 0 20 (List.replicate 512 0), .laneMap 0 19 [], .laneMap 0 20 (List.replicate 512 0), .timeFlitSend 0 20,
     .timeFlitReceive 0 19 [], .timeFlitReceive 0 20 (List.replicate 512 0), .readMsg 0 22, .writeMsg 0 22, .readData 0 22,
     .writeAck 0 22, .epochMismatch 0 22, .unmappedAns 0 22, .noRouteAns 0 22, .recoveringAns 0 22] : List Instr).any Instr.wf = false := by decide +kernel

theorem test_illFormed_e :
    ([.memoryRequestPerform 0 (.barRead 0 0), .memoryRequestPerform 0 (.barRead (2 ^ 37 - 1) 2),
     .memoryRequestPerform 0 (.barWrite 0 []), .memoryRequestPerform 0 (.barWrite (2 ^ 37 - 1) [0, 0]), .probeMsg 0 22, .probeSend 0 4096, .readyMsg 0 22, .collMsg 0 22, .destGraceExpiry 0 4096, .nfDestWrite 0 4096 0,
     .patrolScrub 0 16 137438953471, .patrolScrub 0 15 137438953472, .dramTempSample 0 (List.replicate 17 0),
     .rgCfgWrite 0 64 0, .ringPoll 0 130, .transmitFrameEnqueue 0 130, .recordBufferCoal 0 130, .ringDisable 0 130,
     .msixHoldoffExpiry 0 130, .msixUnmask 0 64, .raRequest 0 (List.replicate 15 0), .pwOnWrite 0 30 true, .pwReset 0 30,
     .domainPowerSettled 0 30, .autoPowerOff 0 30, .floorBindWrite 0 256 0, .thermalSample 0 [],
     .bootPhaseComplete 0 true true [6399] (List.replicate 17 0), .bootPhaseComplete 0 true true [6400] (List.replicate 16 0),
     .tamperFire 0 5, .engineDrainComplete 0 15, .engineDrainBoundExpiry 0 15, .scanUnitTimeout 0 65536,
     .scopeResetComplete 0 15, .scopeCheckComplete 0 15 true, .contextReplayStart 0 15, .engineRelease 0 15,
     .cellPatternTest 0 6400 6399 true true, .cellPatternTest 0 6399 6400 true true, .dbgreq 0 0 0 65536 true,
     .breakpointTimeMatch 0 16, .lifetimeSample 0 0 65536 0, .waittDeadline 0 (.cell 6400), .waittDeadline 0 (.context 100),
     .undefinedCellOpcode 0 6400, .undefinedEngineOpcode 0 100, .signalReturn 0 288, .txHalfAwake 0 288,
     .idleFlitReceive 0 19 [], .idleFlitReceive 0 20 (List.replicate 512 0), .hostLinkUp 0 8 31, .hostLinkUp 0 7 32,
     .partnerLowPowerIdle 0 8 true] : List Instr).any Instr.wf = false := by decide +kernel

/-! ### The queue of commands -/

theorem test_table_has_no_bits : decodeTableWord 64 0x54000C0000000100 = none := rfl

end Sys2Proof

namespace Sys2Proof.Machine

set_option Elab.async false

theorem test_withFetchWord_spells_none : State.reset.withFetchWord 64 0x54000C0000000100 = State.reset := rfl

theorem test_empty_queue_idles : step State.reset = .next State.reset := rfl

theorem test_step_takes_the_front :
    step { State.reset with pending := [.nop 0 0, .halt 0 0] } = exec (.nop 0 0) { State.reset with pending := [.halt 0 0] } := rfl

/-! ### Fields of the worked program of the calorimeter cell (spec/04, Worked encoding) -/

theorem test_fields_accld : opF 0x54000C0000000100 = 0x54 ∧ opndM 0x54000C0000000100 = 24 ∧ raM 0x54000C0000000100 = 0 ∧
    immS 0x54000C0000000100 = 0x100 ∧ okM 0x54000C0000000100 false false = true := by decide +kernel

theorem test_fields_wave : opF 0x608FAC0300000000 = 0x60 ∧ dstQ 0x608FAC0300000000 = 24 ∧ srcaQ 0x608FAC0300000000 = 0 ∧
    fmtQ 0x608FAC0300000000 = 0 ∧ modQ 0x608FAC0300000000 = 0 ∧ boundF 0x608FAC0300000000 = 256000 * tns ∧
    okQ 0x608FAC0300000000 true = true := by decide +kernel

theorem test_fields_act : opF 0x638FA06300006661 = 0x63 ∧ dstQ 0x638FA06300006661 = 0 ∧ srcaQ 0x638FA06300006661 = 24 ∧
    modQ 0x638FA06300006661 = 0x6661 ∧ fld (modQ 0x638FA06300006661) 9 4 = 38 ∧ bit (modQ 0x638FA06300006661) 10 = true ∧
    fld (modQ 0x638FA06300006661) 16 12 = 6 := by decide +kernel

theorem test_fields_jmp : opF 0x0300000000000000 = 3 ∧ targetB 0x0300000000000000 = 0 ∧ okB 0x0300000000000000 false false = true := by
  decide +kernel

/-! ### One instruction of a cell -/

/-- The plane after one command, where it answers a next state. -/
def planeAfter (c : Instr) (s : State) : Option Plane :=
  match exec c s with
  | .next t => some (t.pl 0 0)
  | _ => none

/-- x3 and the address after one command on a plane with x1 = `a` and x2 = `b`. -/
def x3After (c : Instr) (w a b : Nat) : Option (Nat × Nat) :=
  (planeAfter c (wPlane ((({} : Plane).setX 1 a).setX 2 b) w)).map fun v => (v.xr 3, v.pc)

theorem test_sub_wraps : x3After (.subR 0 0) (wS 0x11 3 1 2 0) 0 1 = some (2 ^ 64 - 1, 1) := by decide +kernel
theorem test_mul_keeps_low_word : x3After (.mulR 0 0) (wS 0x12 3 1 2 0) (2 ^ 63 + 1) 2 = some (2, 1) := by decide +kernel
theorem test_sra_copies_the_sign : x3After (.sraR 0 0) (wS 0x18 3 1 2 0) (2 ^ 63) 64 = some (2 ^ 63, 1) ∧
    x3After (.sraR 0 0) (wS 0x18 3 1 2 0) (2 ^ 63) 63 = some (2 ^ 64 - 1, 1) := by decide +kernel
theorem test_shr_takes_six_bits : x3After (.shrR 0 0) (wS 0x17 3 1 2 0) (2 ^ 63) 127 = some (1, 1) := by decide +kernel
theorem test_min_is_signed : x3After (.minR 0 0) (wS 0x19 3 1 2 0) (2 ^ 64 - 1) 0 = some (2 ^ 64 - 1, 1) := by decide +kernel
theorem test_max_is_signed : x3After (.maxR 0 0) (wS 0x1A 3 1 2 0) (2 ^ 64 - 1) 0 = some (0, 1) := by decide +kernel
theorem test_addi_extends_its_immediate : x3After (.addImmediate 0 0) (wS 0x30 3 1 0 0xFFFFFFFF) 5 0 = some (4, 1) := by decide +kernel
theorem test_movi_extends_its_sign : x3After (.movi 0 0) (wS 0x20 3 0 0 0x80000000) 0 0 = some (0xFFFFFFFF80000000, 1) := by decide +kernel
theorem test_jmp_goes_to_its_target : x3After (.jmp 0 0) (wB 0x03 0 0 0 0 0 1023) 0 0 = some (0, 1023) := by decide +kernel
theorem test_fadd_one_and_one : x3After (.fadd 0 0) (wS 0x1B 3 1 2 0) 0x3F800000 0x3F800000 = some (0x40000000, 1) := by decide +kernel
theorem test_fmul_rounds_to_even : x3After (.fmul 0 0) (wS 0x1C 3 1 2 0) 0x3F800001 0x3F800001 = some (0x3F800002, 1) := by decide +kernel

/-- An opcode the part does not define takes the fault: the plane is FAULTED and keeps its address. -/
theorem test_undefined_opcode_faults :
    (planeAfter (.undefinedCellOpcode 0 0) (wWord (wS 0xFF 0 0 0 0))).map (fun v => (v.st, v.pc)) = some (.faulted, 0) := by
  decide +kernel

/-! ### Rounding of the shift and the rescale of one element (spec/04, R171) -/

theorem test_shift_ties_to_even : (actShift 3 1, actShift 5 1, actShift (-3) 1, actShift (-5) 1) = (2, 2, -2, -2) := by decide +kernel
theorem test_rescale_worked : actShift (10000 * 0x4CCCCCCD) 38 = 47 := by decide +kernel

/-! ### Number formats (spec/05) -/

theorem test_bf16_ties_to_even : bf16.encode false (fp32.decode 0x3F808000) = (0x3F80, .none) ∧
    bf16.encode false (fp32.decode 0x3F818000) = (0x3F82, .none) := by decide +kernel

theorem test_e4m3_boundary : e4m3.encode false (.ofInt 464) = (0x7E, .none) ∧ e4m3.encode false (.fin false 929 2) = (0x7E, .sat) ∧
    e4m3.encode false (.inf false) = (0x7E, .sat) := by decide +kernel

theorem test_e5m2_boundary : e5m2.encode false (.ofInt 61439) = (0x7B, .none) ∧ e5m2.encode false (.ofInt 61440) = (0x7C, .inf) ∧
    e5m2.encode true (.ofInt 61440) = (0x7B, .sat) := by decide +kernel

theorem test_mxfp4_worked :
    let g := mxGroup 10 (.fl e2m1) [{ v := .ofInt 20 }, { v := .ofInt 3 }, { v := .frac true 104 10 }, { v := .frac false 9 10 }]
    g.entry = some 0x81 ∧ g.body = .inl [0x6, 0x2, 0xD, 0x0] := by decide +kernel

/-- Delayed scales of the three worked groups (spec/06): E4M3 scales, INT8 output, amax 2.0, 9.0 and 0.2, margin 2. -/
theorem test_delayed_scale_worked :
    let q : QD := { ctrl := 1 }
    (q.encodeScale (.frac false 4 127), q.encodeScale (.frac false 18 127), q.encodeScale (.frac false 4 1270)) =
      (0x10, 0x21, 2) := by decide +kernel

theorem test_exp_of_zero_is_one : fexp 0 = (0x3F800000, .none) := by decide +kernel
theorem test_exp_of_minus_half : (fexp 0xBF000000).1 = 0x3F1B4598 := by decide +kernel
theorem test_log_of_one_is_zero : flog 0x3F800000 = (0, .none) := by decide +kernel

/-! ### Checks and times -/

/-- CRC-32 of the ASCII bytes 123456789 (spec/08). -/
theorem test_crc32_check_value : crc32 [0x31, 0x32, 0x33, 0x34, 0x35, 0x36, 0x37, 0x38, 0x39] = 0xCBF43926 := by decide +kernel

/-- The quote reply: 1,130.25 ns rounds up to 1,130.5 ns (spec/02). -/
theorem test_launch_rounds_up_to_its_grain : grainAt (25 * (1130 * tns + tns / 4)) = 1130 * tns + tns / 2 := by decide +kernel

end Sys2Proof.Machine
end

