-- ==== Sys2Proof/Tests/Trigger.lean ====
section
/-! SUPPORT. Witnesses of the statements about the trigger engine. -/

namespace Sys2Proof.Machine

set_option Elab.async false

/-- The part with PW25, PW26 and PW27 on. -/
def wTg : State := ((State.reset.setRf (pwB 25 + 4) 1 0 2).setRf (pwB 26 + 4) 1 0 2).setRf (pwB 27 + 4) 1 0 2

/-- A group of one byte at instant 0. -/
def wGroup : Group := { at_ := 0, bytes := [200], bad := false, mark := 0, first := true, sob := 0 }

/-- Lane `n` UP in FLM with one sub-channel of 8 bits that runs, and a group waiting. -/
def wLane (n : Nat) (lo : Option Bool) : State :=
  let c := 4 * (n - 192)
  let s := (((((wTg.setRf (lnB n + 4) 2 0 4).setRb (grpReg n) 19 true).setRf (lnB n + 0x34) 6 4 1).setRf (snB c + 8) 4 0 8).setRb (snB c) 0 true)
  let s := (s.setRb (snB c + 4) 0 true).setReg (snB c + 0x24) 0
  (s.setLane n { fifo := [wGroup] }).setChan c { started := true, lo := lo }

theorem witness_ChannelCommands_present :
    ∀ x ∈ [(192, none), (287, some true)],
      let lane := x.1
      let s1 := (wLane lane x.2).advanceTo 0
      let c := 4 * (lane - 192)
      s1.laneOn lane = true ∧ s1.laneSt lane = 4 ∧ s1.rb (lnB lane + 4) 6 = false ∧ s1.rb (grpReg lane) 19 = true ∧
      s1.domOn 27 = true ∧ 10 ∉ s1.rv.queue ∧ (s1.lane lane).fifo = [wGroup] ∧ s1.presentAt lane wGroup ≤ s1.sn ∧
      s1.nch lane = 1 ∧ s1.rb (snB c + 4) 0 = true ∧ (s1.chan c).started = true := by
  decide

theorem witness_ChannelCommands_feature :
    let f : Formed := { row := 63, slot := 15, payload := 7 }
    let s1 := { wTg with tg := { formed := [f] } }.advanceTo 0
    s1.tg.formed.find? (fun f => f.row == 63 && f.slot == 15) = some f ∧ s1.edgeStop (s1.physOf 63 0) = false := by
  decide

/-- A sample at a check point. -/
def wSmp : Smp := { idx := 5, v := 3, stamp := 0, at_ := 0, drift := none }

/-- Channel 0 of 8 bits with a sample at its check point, in a mode, with stream 0 open or not. -/
def wCheck (mode : Nat) (run : Option Run) (open_ : Bool) : State :=
  let s := ((wTg.setRf (snB 0 + 8) 4 0 8).setRf (snB 0 + 8) 10 8 mode).setReg (snB 0 + 0x84) 4
  (s.setChan 0 { line := [wSmp], run := run }).setStrm 0 { running := open_ }

theorem witness_ChannelCommands_checkPoint :
    (∀ b ∈ [true, false], ∀ m ∈ [0, 4, 7],
     let s1 := (wCheck m none b).advanceTo 0
     (s1.chan 0).line = [wSmp] ∧ wSmp.at_ + (s1.strm (s1.chStrm 0)).delay * grain ≤ s1.sn ∧ s1.strmOpen (s1.chStrm 0) = b ∧
     (s1.chan 0).mask = none ∧ s1.rb (snB 0 + 4) 1 = false ∧ wSmp.drift = none ∧ s1.rf (snB 0 + 8) 10 8 = m ∧ 1 < s1.recLen 0 0) ∧
    (let r : Run := { first := 4, stamp := 0, last := 4, basis := 0, vals := [1] }
     let s1 := (wCheck 0 (some r) true).advanceTo 0
     (s1.chan 0).run = some r ∧ r.last + 1 = wSmp.idx ∧ r.vals.length + 1 < s1.recLen 0 0) := by
  decide

theorem witness_ChannelCommands_enable :
    (∀ x ∈ [(0, 8), (383, 16)],
     let s1 := (wTg.setRf (snB x.1 + 8) 4 0 x.2).advanceTo 0
     s1.chanOn x.1 = true ∧ s1.rb (snB x.1) 0 = false ∧ 8 ≤ s1.chWidth x.1 ∧ s1.chWidth x.1 ≤ 16 ∧
     (∀ d ∈ laneChans (192 + x.1 / 4), d ≠ x.1 → s1.rb (snB d) 0 = true → s1.chPeriod d = s1.chPeriod x.1)) ∧
    (∀ w ∈ [7, 17],
     let s1 := (wTg.setRf (snB 0 + 8) 4 0 w).advanceTo 0
     s1.chanOn 0 = true ∧ s1.rb (snB 0) 0 = false ∧ (s1.chWidth 0 < 8 ∨ 16 < s1.chWidth 0)) := by
  decide

/-- Combiner `n`, armed or not, whose slot 0 names LVDS input 0, asking for one term. -/
def wComb (n arm : Nat) (k : Comb) : State :=
  (((wTg.setReg (combB n) (arm + 8 + 15 * 64)).setReg (combB n + 0x100) (1536 + 2 ^ 15)).setReg (combB n + 0xC) 0).setComb n k

/-- An event of LVDS input 0. -/
def wEv (stamp : Nat) : Ev := { src := 1536, stamp := stamp }

theorem witness_CombinerCommands_events :
    (let s1 := ((wComb 0 1 {}).setReg 0x3C0100 1).advanceTo 0
     bit s1.pin.lvdsIn 0 = false ∧ bit (s1.rf 0x3C0100 1 0) 0 = true ∧
     Sparse.get (fun _ => none) s1.tg.lvdsLast 0 = none ∧ s1.domOn 27 = true ∧ s1.holdsPins = false ∧
     ∀ b < 16, s1.rf (bpB b) 2 0 ≠ 4) ∧
    (∀ now ∈ [0, 1],
     let s0 := wComb 63 1 { coming := [wEv 0] }
     let s1 := { s0 with clk := { saf := now * fine } }.advanceTo 0
     (s1.comb 63).coming = [wEv 0] ∧ s1.armed 63 = true ∧ s1.combNames 63 1536 = true ∧
     (now = 0 → s1.sn ≤ 0 + s1.combAlign 63) ∧ (now = 1 → 0 + s1.combAlign 63 < s1.sn)) ∧
    (let s1 := (wComb 0 0 { coming := [wEv 0] }).advanceTo 0
     (s1.comb 0).coming = [wEv 0] ∧ s1.armed 0 = false) := by
  decide

theorem witness_CombinerCommands_decide :
    (let s1 := (wComb 0 1 { evs := [wEv 0] }).advanceTo 0
     s1.armed 0 = true ∧ 10 ∉ s1.rv.queue ∧ (s1.comb 0).nextStamp = some 0 ∧ 0 + s1.combAlign 0 ≤ s1.sn ∧
     (s1.comb 0).deadFrom = none ∧ s1.coincides 0 (s1.termsAt 0 0) = true) ∧
    (let s1 := ((wComb 0 1 { evs := [wEv 0] }).setReg (combB 0) 17).advanceTo 0
     s1.armed 0 = true ∧ (s1.comb 0).nextStamp = some 0 ∧ 0 + s1.combAlign 0 ≤ s1.sn ∧ (s1.comb 0).deadFrom = none ∧
     s1.coincides 0 (s1.termsAt 0 0) = false) ∧
    (let s1 := (wComb 0 1 { evs := [wEv 0], deadFrom := some 0 }).advanceTo 0
     s1.armed 0 = true ∧ (s1.comb 0).nextStamp = some 0 ∧ 0 + s1.combAlign 0 ≤ s1.sn ∧ (s1.comb 0).deadFrom = some 0 ∧
     s1.deadEnd 0 0 = none) ∧
    (let s0 := wComb 0 1 { deadFrom := some 0 }
     let s1 := { s0 with clk := { saf := 24 * tns * fine } }.advanceTo 0
     (s1.comb 0).deadFrom = some 0 ∧ s1.deadEnd 0 0 = some (24 * tns) ∧ (s1.comb 0).nextStamp = none) ∧
    (let s1 := ((wComb 0 1 { marks := [(0, 0, [])] }).setStrm 0 { running := true }).advanceTo 0
     (s1.comb 0).marks = (0, 0, []) :: [] ∧ s1.strmOpen (s1.combStrm 0) = true) := by
  decide +kernel

theorem witness_CombinerCommands_token :
    ∀ n ∈ [15, 16],
     let s0 := (wTg.setReg (tgIn 0 0) 0).setWest 0 { inq := [(0, { kind := 0, epoch := 0, seq := 0, payload := 1 })] }
     let s1 := ((s0.setReg (snB 0 + 0x38) 32).setChan 0 { next := n }).advanceTo 0
     let e := s1.reg (tgIn 0 0)
     let o := s1.netOut 0
     let p := s1.periodBase (fld e 17 8) 0 + o.count
     (s1.west 0).inq.length = 1 ∧ o.gen = (s1.cell (s1.physOf 0 0)).gen ∧ fld e 17 8 < 384 ∧
     (n = 16 → p < periodsIn (s1.stride 0) (s1.chan 0).next ∧ bit e 7 = false ∧ ∀ b < 16, s1.rf (bpB b) 2 0 ≠ 4) ∧
     (n = 15 → periodsIn (s1.stride 0) (s1.chan 0).next ≤ p) := by
  decide

/-- Context 64 + `k` of TG, at an instruction. -/
def wStrm (k op oper : Nat) (st : Strm := {}) : State := (wEng (64 + k) op 0 0 oper).setStrm k st

theorem witness_StreamCommands_start :
    let s1 := (wStrm 3 0x70 wA).advanceTo 0
    let a := operE (s1.cxWord 67)
    let rd : Rd × List Byte := Rd.bytes { s := s1.startTimeout 67, n := 67 } a 64
    s1.cxIssues 67 0x70 ∧ a % 16 = 0 ∧ rd.1.ok = true ∧ descOk rd.2 = true ∧ leAt rd.2 0 1 % 2 = 0 ∧ (s1.strm 3).running = false ∧
    (s1.stage 43).held = [] ∧ (s1.stage 43).wait = [] := by
  decide +kernel

theorem witness_StreamCommands_stop (b : Bool) :
    let s1 := (wStrm 0 0x71 0 { running := b }).advanceTo 0
    s1.cxIssues 64 0x71 ∧ (s1.strm 0).running = b ∧ (s1.strm 0).stopping = false ∧ s1.strmBusy 0 = false := by
  cases b <;> decide +kernel

theorem witness_StreamCommands_arm (d : Bool) :
    let op := if d then 0x73 else 0x72
    (let s1 := (wStrm 0 op (1 + 2 ^ 63)).advanceTo 0
     s1.cxIssues 64 op ∧ (∀ c < 64, bit (operE (s1.cxWord 64)) c = true → s1.combStrm c = 0)) ∧
    (let s1 := (wStrm 1 op (2 ^ 63)).advanceTo 0
     s1.cxIssues 65 op ∧ bit (operE (s1.cxWord 65)) 63 = true ∧ s1.combStrm 63 ≠ 1 ∧ s1.cxState 65 ≠ 5) := by
  cases d <;> exact ⟨by decide +kernel, by decide +kernel⟩

theorem witness_StreamCommands_rearm_soft :
    (let s1 := (wStrm 0 0x74 383).advanceTo 0
     s1.cxIssues 64 0x74 ∧ fld (s1.cxWord 64) 8 0 < 384 ∧ s1.chStrm (fld (s1.cxWord 64) 8 0) = 0) ∧
    (let s1 := (wStrm 0 0x75 63).advanceTo 0
     s1.cxIssues 64 0x75 ∧ s1.combStrm (fld (s1.cxWord 64) 5 0) = 0 ∧ ∀ b < 16, s1.rf (bpB b) 2 0 ≠ 4) := by
  exact ⟨by decide +kernel, by decide +kernel⟩

theorem witness_StreamCommands_events :
    (let s0 := wTg.setStrm 3 { running := true, kind := 1 }
     let s1 := { s0 with clk := { now := tus } }.advanceTo 0
     (s1.strm 3).running = true ∧ (s1.strm 3).kind ≠ 0 ∧ (s1.strm 3).from_ + ((s1.strm 3).polls + 1) * tus ≤ s1.clk.now) ∧
    (let s0 := wTg.setStrm 0 { running := true }
     let s1 := { s0 with clk := { saf := 65536 * tsec * fine } }.advanceTo 0
     s1.strmOpen 0 = true ∧ (s1.strm 0).wrapSec < s1.sn / tsec / 65536 * 65536) := by
  decide

end Sys2Proof.Machine
end

