-- ==== Sys2Proof/Tests/Whole.lean ====
section
/-! SUPPORT. Witnesses of the statements about the queue, the invariants, start-up, security, the lifetime log and debug. -/

namespace Sys2Proof.Machine

set_option Elab.async false

theorem witness_StepRunsFrontCommand :
    ({ State.reset with pending := [.aggNow 0 true, .idcode 0 0] } : State).pending = .aggNow 0 true :: [.idcode 0 0] ∧
    State.reset.pending = [] := by
  decide

theorem witness_StepKeepsMemoryCanonical :
    MemoryCanonical { State.reset with mem := { bytes := [(5, 1)] } } ∧ MemoryCanonical State.reset ∧
    step State.reset = .next State.reset :=
  ⟨by unfold MemoryCanonical; decide, by unfold MemoryCanonical; decide, rfl⟩

theorem witness_StepKeepsZeroised :
    ZeroisedHolds State.reset ∧ ZeroisedHolds { State.reset with fuse := { zeroised := true, seed := false } } ∧
    step State.reset = .next State.reset :=
  ⟨by unfold ZeroisedHolds; decide, by unfold ZeroisedHolds; decide, rfl⟩

/-- Start-up at a phase. -/
def wBoot (p : Nat) (f : Fuses := {}) : State := { State.reset.setRf 0x64 3 0 p with fuse := f }

theorem witness_BootSecurityAndLifetime_phases :
    (∀ p ∈ [0, 1, 2, 3, 4, 5], let s1 := (wBoot p).advanceTo 0
      s1.inReset = false ∧ s1.ready = false ∧ s1.bootPhase = p ∧ s1.fuse.boot = []) ∧
    (let s1 := (wBoot 1 { svn := 2, fwSvn := 1 }).advanceTo 0; s1.bootPhase = 1 ∧ s1.fuse.fwSvn < s1.fuse.svn) := by
  decide

theorem witness_BootSecurityAndLifetime_signature :
    (State.reset.advanceTo 0).partBound = false ∧ ((State.reset.setReg (cxB 99 + 8) 0x100).advanceTo 0).partBound = true ∧
    ((State.reset.setRb 0x48 31 true).advanceTo 0).rb 0x48 31 = true := by
  decide +kernel

theorem witness_BootSecurityAndLifetime_measure :
    (State.reset.advanceTo 0).rb 0x40000 3 = false ∧
    (let s1 := { State.reset.setRf (pwB 17 + 4) 1 0 2 with se := { meas := some (255, 255, wA, 1) } }.advanceTo 0
     s1.se.meas = some (255, 255, wA, 1) ∧ s1.isLocal wA = true ∧ (s1.target (wA % 2 ^ 48)).plain = true ∧
     s1.rangeHeld (wA % 2 ^ 48) 1 = false ∧ s1.mem.justNow = []) ∧
    (let s1 := { State.reset.setRf (pwB 18 + 4) 1 0 2 with se := { meas := some (0, 0, 0x2000, 1) } }.advanceTo 0
     s1.se.meas = some (0, 0, 0x2000, 1) ∧ s1.isLocal 0x2000 = true ∧ (s1.target 0x2000).plain = true ∧ s1.rangeHeld 0x2000 1 = true) ∧
    (let s1 := State.reset.advanceTo 0; s1.rb 0x40000 4 = false ∧ s1.rb 0x40000 2 = false) ∧
    (let s1 := (State.reset.setRb 0x40000 2 true).advanceTo 0; s1.rb 0x40000 4 = false ∧ s1.fuse.zeroised = false ∧ s1.rb 0x40000 2 = true) ∧
    (let s1 := { State.reset with se := { att := some ([1], wA) } }.advanceTo 0
     s1.se.att = some ([1], wA) ∧ s1.fwWrites wA 1 = false) := by
  decide +kernel

theorem witness_BootSecurityAndLifetime_range :
    ({ State.reset.setRf (pwB 17 + 4) 1 0 2 with se := { meas := some (255, 255, wA, 1) } }.advanceTo 0).plainRange (wA % 2 ^ 48) 1 := by
  intro b h1 h2
  rw [show wA % 2 ^ 48 = 0x2000000000 from rfl] at h1 h2
  obtain rfl : b = 0x2000000000 := by omega
  decide +kernel

theorem witness_BootSecurityAndLifetime_log :
    (State.reset.advanceTo 0).inReset = false ∧ ((State.reset.setRf 0x1E000 9 0 700).advanceTo 0).vdd ≠ 0 ∧
    (let s1 := { State.reset with clk := { now := 60 * tsec } }.advanceTo 0; s1.lf.from_ + 60 * tsec ≤ s1.clk.now) := by
  decide +kernel

theorem witness_DebugCommands_port :
    (let s1 := State.reset.advanceTo 0; s1.pin.aon = true ∧ s1.inReset = false ∧ s1.dbg.pending = none) ∧
    ((1 : DWord).toNat % 16 ≠ 0 ∧ (16 : DWord).toNat % 16 = 0) ∧
    (∀ c ∈ [0, 2],
      let a : MemAns := { req := { id := 4, issuer := .debug, addr := 16, write := false, len := 16, enable := some 65535 }, code := c
                          data := leBytes 16 7 }
      let s1 := { State.reset with dbg := { pending := some 4 }, mem := { answers := [a] } }.advanceTo 0
      s1.dbg.pending = some 4 ∧ s1.mem.answers.find? (fun a => a.req.issuer == .debug && a.req.id == 4) = some a ∧
      (c = 0 ↔ a.code = 0) ∧ a.req.write = false ∧ a.req.enable = some 65535 ∧ a.data.length = 16) := by
  decide +kernel

theorem witness_DebugCommands_planes :
    ∀ b ∈ [true, false],
      let s1 := (((wPlane { dbg := b } 0).setCell 0 { planes := [(3, { dbg := b, st := .running })] }).setReg 0x50008 0x6000).advanceTo 0
      bit (0 : Word).toNat 4 = false ∧ dbKind (0 : Word).toNat = 0 ∧ s1.cellOn (s1.rf 0x50008 12 0) = true ∧
      (s1.pl (s1.rf 0x50008 12 0) (s1.rf 0x50008 14 13)).dbg = b ∧
      (s1.pl (s1.rf 0x50008 12 0) (s1.rf 0x50008 14 13)).st ≠ .faulted := by
  decide +kernel

theorem witness_DebugCommands_contexts :
    (∀ b ∈ [true, false],
      let s1 := ((wCx 99 { phase := .ready, dbg := b } 1).setReg 0x50008 99).advanceTo 0
      bit (4 : Word).toNat 4 = false ∧ dbKind (4 : Word).toNat = 1 ∧ s1.rf 0x50008 12 0 < 100 ∧
      s1.engOn (engineOf (s1.rf 0x50008 12 0)) = true ∧ engineOf (s1.rf 0x50008 12 0) ∉ s1.rv.queue ∧
      (s1.cx (s1.rf 0x50008 12 0)).dbg = b ∧ s1.cxState (s1.rf 0x50008 12 0) ≠ 4 ∧ s1.cxState (s1.rf 0x50008 12 0) ≠ 5 ∧
      (s1.cx (s1.rf 0x50008 12 0)).phase ≠ .busy ∧ (s1.cx (s1.rf 0x50008 12 0)).phase ≠ .reading) ∧
    (let s1 := { (wCx 99 {}).setReg 0x50008 99 with rv := { queue := [engineOf 99] } }.advanceTo 0
     dbKind (4 : Word).toNat = 1 ∧ s1.engOn (engineOf (s1.rf 0x50008 12 0)) = true ∧ engineOf (s1.rf 0x50008 12 0) ∈ s1.rv.queue) := by
  decide +kernel

theorem witness_DebugCommands_dump :
    (let s1 := (wCx 0 {}).advanceTo 0
     let v : Word := BitVec.ofNat 32 (256 + engType 0 + 16 * engInst 0)
     bit v.toNat 8 = true ∧ s1.engNamed (fld v.toNat 3 0) (fld v.toNat 7 4) = some 0 ∧ s1.rv.queue = [] ∧ s1.rv.chip = none ∧
     s1.rv.demand = none ∧ (∀ n ∈ engList 0, s1.cxState n = 0 ∨ (s1.cx n).dbg = true)) ∧
    (let s1 := (wCx 0 {} 1).advanceTo 0
     s1.engNamed (engType 0) (engInst 0) = some 0 ∧ ∃ n ∈ engList 0, s1.cxState n ≠ 0 ∧ (s1.cx n).dbg = false) := by
  decide +kernel

theorem witness_DebugCommands_time :
    (∀ b ∈ [0, 15],
      let s1 := ((State.reset.setReg (bpB b) 5).setReg (bpB b + 0x38) 1).advanceTo 0
      s1.rf (bpB b) 2 0 = 5 ∧ s1.bpWindow b s1.sn = true ∧ b ∉ s1.dbg.fired ∧ s1.rf (bpB b) 31 21 = 0 ∧ s1.rf (bpB b) 4 3 = 0) ∧
    (∀ b ∈ [0, 15], let i := b / 2
      let s1 := (((State.reset.setReg (bpB b) 4).setReg (bpB b + 8) (1536 + i)).setReg 0x3C0100 0x5555).setReg (pwB 27 + 4) 2 |>.advanceTo 0
      s1.rf (bpB b) 2 0 = 4 ∧ s1.rf (bpB b) 31 21 = 0 ∧ s1.rf (bpB b) 4 3 = 0 ∧ s1.rb (bpB b) 5 = false ∧
      s1.rf (bpB b + 8) 12 0 = 1536 + i ∧ bit s1.pin.lvdsIn i = false ∧ bit (s1.rf 0x3C0100 (2 * i + 1) (2 * i)) 0 = true ∧
      Sparse.get (fun _ => none) s1.tg.lvdsLast i = none ∧ s1.domOn 27 = true ∧ s1.holdsPins = false ∧
      ∀ c < 16, c ≠ b → s1.rf (bpB c) 2 0 ≠ 4) ∧
    (let s1 := (wEng 0 0x03 0 0 0 [] { deadline := some 0 }).advanceTo 0
     s1.cxIssues 0 0x03 ∧ (s1.cx 0).deadline = some 0 ∧ 0 ≤ s1.sn) ∧
    (let s1 := (wPlane { deadline := some 0 } (wQ 0x43 1 24 16 0 0)).advanceTo 0
     s1.issues 0 0x43 ∧ okQ (s1.curWord 0) true = true ∧ isPair (srcaQ (s1.curWord 0)) = true ∧ dstQ (s1.curWord 0) = 24 ∧
     (s1.pl 0 (s1.cell 0).turn).deadline = some 0 ∧ 0 ≤ s1.sn) := by
  decide +kernel

end Sys2Proof.Machine
end

section
/-! SUPPORT. What reading and writing one word of the register space does (R13 to R16, R527). -/

namespace Sys2Proof.Machine

/-! ### Bits of a mixed word -/

/-- Numbers with no bit in common add without a carry. -/
theorem add_eq_or_of_and_eq_zero (a b : Nat) (h : a &&& b = 0) : a + b = a ||| b := by
  have ha : a < 2 ^ (a + b) := Nat.lt_of_le_of_lt (by omega) Nat.lt_two_pow_self
  have hb : b < 2 ^ (a + b) := Nat.lt_of_le_of_lt (by omega) Nat.lt_two_pow_self
  have hd : BitVec.ofNat (a + b) a &&& BitVec.ofNat (a + b) b = 0#(a + b) := by
    apply BitVec.eq_of_toNat_eq
    simp [Nat.mod_eq_of_lt ha, Nat.mod_eq_of_lt hb, h]
  simpa [Nat.mod_eq_of_lt ha, Nat.mod_eq_of_lt hb, Nat.mod_eq_of_lt Nat.lt_two_pow_self] using
    congrArg BitVec.toNat (BitVec.add_eq_or_of_and_eq_zero _ _ hd)

/-- The kept bits and the taken ones do not meet, so the sum in `mixBits` carries nothing. -/
theorem mixBits_eq_or (m old v : Nat) : mixBits m old v = (old ^^^ (old &&& m)) ||| (v &&& m) := by
  have h : (old ^^^ (old &&& m)) &&& (v &&& m) = 0 := by
    apply Nat.eq_of_testBit_eq
    intro i
    cases hm : m.testBit i <;> simp [hm]
  exact add_eq_or_of_and_eq_zero _ _ h

theorem testBit_mixBits (m old v i : Nat) :
    (mixBits m old v).testBit i = if m.testBit i then v.testBit i else old.testBit i := by
  rw [mixBits_eq_or]
  cases hm : m.testBit i <;> simp [hm]

/-- Taking bits from 0 clears them. -/
theorem testBit_mixBits_zero (c v old i : Nat) :
    (mixBits (Nat.land c v) old 0).testBit i = (old.testBit i && !(c.testBit i && v.testBit i)) := by
  have hand : (Nat.land c v).testBit i = (c.testBit i && v.testBit i) := Nat.testBit_and ..
  rw [testBit_mixBits, hand, Nat.zero_testBit]
  cases c.testBit i && v.testBit i <;> simp

/-! ### Writing a word -/

/-- With no write waiting for a template there is nothing to flush (R422). -/
theorem State.paFlush_of_none_waiting (s : State) (h : s.pa.waiting = []) : s.paFlush = s := by
  simp only [State.paFlush, h, List.filter_nil, List.foldl_nil]
  rw [← h]

theorem State.written_of_defined (s : State) (o v : Nat) (w : RegWord) (hw : regWord o = some w) (hv : Nat.land v w.dfn = v) :
    s.written o v = (s, v) := by
  unfold State.written
  rw [hw]
  exact if_pos hv

theorem wordsOf_leBytes_four (v : Nat) (hv : v < 2 ^ 32) : wordsOf (leBytes 4 v) = [v] := by
  have h : leAt (leBytes 4 v) 0 4 = v := by
    rw [leAt, List.drop_zero, List.take_of_length_le (by simp), ofLe_leBytes]
    exact Nat.mod_eq_of_lt hv
  simp [wordsOf, h]

/-- An aligned write of 4 bytes is a write of one word. -/
theorem State.writeReg_four (s : State) (o v : Nat) (h : s.pa.waiting = []) (hv : v < 2 ^ 32) (ho : o % 4 = 0) :
    s.writeReg o (leBytes 4 v) = s.writeWord o v := by
  rw [State.writeReg, if_pos (by simp [ho]), s.paFlush_of_none_waiting h, wordsOf_leBytes_four v hv, State.writeWords]

/-- What follows a stored bit changes no register, no memory, no cell and no engine (R130, R521). -/
theorem State.regAfter_frame (s : State) (o old : Nat) :
    (s.regAfter o old).regs = s.regs ∧ (s.regAfter o old).mem = s.mem ∧ (s.regAfter o old).lat.cells = s.lat.cells ∧
      (s.regAfter o old).eng = s.eng := by
  unfold State.regAfter
  dsimp only
  split_ifs <;> exact ⟨rfl, rfl, rfl, rfl⟩

theorem State.reg_of_regs_eq {s s' : State} (h : s'.regs = s.regs) (o : Nat) : s'.reg o = s.reg o := by
  rw [State.reg, State.reg, h]

theorem State.testBit_reg_setReg_self (s : State) (o v i : Nat) (hi : i < 32) :
    ((s.setReg o v).reg o).testBit i = v.testBit i := by
  rw [State.reg_setReg_self, Nat.testBit_mod_two_pow]
  simp [hi]

section Write
variable (s : State) (o v : Nat) (w : RegWord)
variable (hw : regWord o = some w) (hon : s.blockOn o = true) (hh : s.hidden o = false) (hact : w.act = 0)
  (hv : Nat.land v w.dfn = v)
include hw hon hh hact hv

/-- A word without a bit that a write could change ignores the write (R13). -/
theorem State.writeWord_ignored (hrw : w.rw = 0) (hc : w.w1c = 0) : s.writeWord o v = s := by
  simp [State.writeWord, hw, hon, hh, hact, hrw, hc, s.written_of_defined o v w hw hv]

/-- A word of writable bits stores them (R13). -/
theorem State.writeWord_stored (hp : s.pa.waiting = []) (ht : tplOf o = none) (hrw : w.rw ≠ 0) (hc : w.w1c = 0) :
    s.writeWord o v = (s.storeBits o w.rw v).regAfter o (s.reg o) := by
  simp [State.writeWord, hw, hon, hh, hact, hrw, hc, s.written_of_defined o v w hw hv, hp, ht]

/-- A word of bits that a 1 clears keeps those where the value is 0 (R13). -/
theorem State.writeWord_cleared (hrw : w.rw = 0) (hc : w.w1c ≠ 0) :
    s.writeWord o v = (s.setReg o (mixBits (Nat.land w.w1c v) (s.reg o) 0)).regAfter o (s.reg o) := by
  simp [State.writeWord, hw, hon, hh, hact, hrw, hc, s.written_of_defined o v w hw hv]

end Write

/-- After a register has been stored, with what follows the store: its bits, and what is left as it was. -/
theorem State.regAfter_setReg (s : State) (o x old : Nat) :
    let s' := (s.setReg o x).regAfter o old
    (∀ i, i < 32 → (s'.reg o).testBit i = x.testBit i) ∧ (∀ k, k ≠ o → s'.reg k = s.reg k) ∧ s'.mem = s.mem ∧
      s'.lat.cells = s.lat.cells ∧ s'.eng = s.eng := by
  obtain ⟨hregs, hmem, hcells, heng⟩ := (s.setReg o x).regAfter_frame o old
  refine ⟨fun i hi => ?_, fun k hk => ?_, hmem, hcells ▸ rfl, heng⟩
  · rw [State.reg_of_regs_eq hregs, State.testBit_reg_setReg_self s o x i hi]
  · rw [State.reg_of_regs_eq hregs, State.reg_setReg_of_ne s o x k hk]

/-- An aligned write of 4 bytes completes with the word written. -/
theorem completes_registerWrite_four (t : Tick) (o v : Nat) (s : State) (P : State → Prop)
    (h : (s.advanceTo t).pa.waiting = []) (hv : v < 2 ^ 32) (ho : o % 4 = 0) (hP : P ((s.advanceTo t).writeWord o v)) :
    Completes (.registerWrite t o 4 v) s P :=
  ⟨_, rfl, by rwa [State.writeReg_four _ o v h hv ho]⟩

/-! ### Reading 4 bytes -/

/-- An aligned read of 4 bytes is a read of one word. -/
theorem State.readReg_four (s : State) (o : Nat) (ho : o % 4 = 0) :
    s.readReg o 4 = ((s.readWord o).1, leBytes 4 (s.readWord o).2) := by
  rw [State.readReg, if_pos (by simp [ho])]
  simp [State.readWords]

/-- An aligned read of 4 bytes completes with the word read on the bus. -/
theorem completes_registerReadClear_four (t : Tick) (o : Nat) (s : State) (P : State → Prop)
    (h : (s.advanceTo t).pa.waiting = []) (ho : o % 4 = 0)
    (hP : P { ((s.advanceTo t).readWord o).1 with bus := ((s.advanceTo t).readWord o).2 % 2 ^ 32 }) :
    Completes (.registerReadClear t o 4) s P := by
  refine ⟨_, rfl, ?_⟩
  rw [State.paFlush_of_none_waiting _ h, State.readReg_four _ o ho]
  simpa using hP

/-! ### Clearing a register that a read clears -/

theorem State.rcFresh_lt (s : State) (o k : Nat) : s.rcFresh o k < 2 ^ (32 * k) := by
  unfold State.rcFresh
  exact Nat.mod_lt _ (Nat.two_pow_pos _)

/-- A register whose words have counted nothing in the present instant has nothing fresh (R16). -/
theorem State.rcFresh_of_idle (s : State) (o k : Nat)
    (h : ∀ j < k, Sparse.get (fun _ => none) s.rcOld (o + 4 * j) = none) : s.rcFresh o k = 0 := by
  have cancel (a b n : Nat) (hb : b = a) : (a + n - b) % n = 0 := by rw [hb, Nat.add_sub_cancel_left, Nat.mod_self]
  unfold State.rcFresh
  apply cancel
  apply congrArg
  apply List.map_congr_left
  intro j hj
  dsimp only
  rw [h j (List.mem_range.1 hj)]

theorem State.rcReset_regs_one (s : State) (w : RegWord) (v : Nat) (h1 : w.words = 1) (hv : s.rcFresh w.first 1 = v) :
    (s.rcReset w).regs = (s.setReg w.first (v / 2 ^ (32 * 0))).regs := by
  unfold State.rcReset
  rw [h1, hv]
  rfl

theorem State.rcReset_regs_two (s : State) (w : RegWord) (v : Nat) (h2 : w.words = 2) (hv : s.rcFresh w.first 2 = v) :
    (s.rcReset w).regs = ((s.setReg w.first (v / 2 ^ (32 * 0))).setReg (w.first + 4) (v / 2 ^ (32 * 1))).regs := by
  unfold State.rcReset
  rw [h2, hv]
  rfl

/-- A read clears a 32-bit register to what it has counted in the present instant (R16). -/
theorem State.reg_rcReset_one (s : State) (w : RegWord) (h1 : w.words = 1) (x : Nat) :
    (s.rcReset w).reg x = if x = w.first then s.rcFresh w.first 1 else s.reg x := by
  have hf := s.rcFresh_lt w.first 1
  rw [State.reg_of_regs_eq (s.rcReset_regs_one w _ h1 rfl)]
  generalize s.rcFresh w.first 1 = v at hf ⊢
  rw [State.reg_setReg, Nat.mul_zero, pow_zero, Nat.div_one, Nat.mod_eq_of_lt hf]

/-- A read clears both words of a 64-bit register to what it has counted in the present instant (R16). -/
theorem State.reg_rcReset_two (s : State) (w : RegWord) (h2 : w.words = 2) (x : Nat) :
    (s.rcReset w).reg x = if x = w.first + 4 then s.rcFresh w.first 2 / 2 ^ 32
      else if x = w.first then s.rcFresh w.first 2 % 2 ^ 32 else s.reg x := by
  have hf := s.rcFresh_lt w.first 2
  rw [State.reg_of_regs_eq (s.rcReset_regs_two w _ h2 rfl)]
  generalize s.rcFresh w.first 2 = v at hf ⊢
  have hd : v / 2 ^ (32 * 1) < 2 ^ 32 := by omega
  rw [State.reg_setReg, State.reg_setReg, Nat.mod_eq_of_lt hd, Nat.mul_zero, pow_zero, Nat.div_one]

theorem State.rcReset_frame (s : State) (w : RegWord) :
    (s.rcReset w).mem = s.mem ∧ (s.rcReset w).pa = s.pa ∧ (s.rcReset w).latch = s.latch := by
  unfold State.rcReset
  dsimp only
  generalize s.rcFresh w.first w.words = v
  generalize List.range w.words = l
  induction l generalizing s with
  | nil => exact ⟨rfl, rfl, rfl⟩
  | cons j r ih => exact ih _

/-- What a later read can see beside the counters that run: registers, memory, the parser and the latched words are kept. -/
def StoresKept (s s' : State) : Prop := s'.regs = s.regs ∧ s'.mem = s.mem ∧ s'.pa = s.pa ∧ s'.latch = s.latch

theorem StoresKept.refl (s : State) : StoresKept s s := ⟨rfl, rfl, rfl, rfl⟩

theorem StoresKept.trans {a b c : State} (h : StoresKept a b) (k : StoresKept b c) : StoresKept a c := by
  obtain ⟨h1, h2, h3, h4⟩ := h
  obtain ⟨k1, k2, k3, k4⟩ := k
  exact ⟨k1.trans h1, k2.trans h2, k3.trans h3, k4.trans h4⟩

theorem StoresKept.setEp (s : State) (n : Nat) (p : EPort) : StoresKept s (s.setEp n p) := ⟨rfl, rfl, rfl, rfl⟩

theorem StoresKept.setStrm (s : State) (n : Nat) (c : Strm) : StoresKept s (s.setStrm n c) := ⟨rfl, rfl, rfl, rfl⟩

theorem StoresKept.setEngine (s : State) (n : Nat) (e : Eng) : StoresKept s (s.setEngine n e) := ⟨rfl, rfl, rfl, rfl⟩

/-- Beside its words, clearing a register sets the instants that counters run from. -/
theorem State.clearRc_storesKept (s : State) (w : RegWord) : StoresKept (s.rcReset w) (s.clearRc w) := by
  unfold State.clearRc
  extract_lets f r pwr paced p e lpi n t strm
  have hpaced : StoresKept r paced := by
    unfold paced
    split
    · exact ⟨rfl, rfl, rfl, rfl⟩
    · exact .refl r
  have hlpi : StoresKept paced lpi := by
    unfold lpi
    split_ifs
    · exact .setEp ..
    · exact .setEp ..
    · exact .refl paced
  have hstrm : StoresKept lpi strm := by
    unfold strm
    split
    · exact .setStrm ..
    · exact .refl lpi
  refine (hpaced.trans hlpi |>.trans hstrm).trans ?_
  split
  · split
    · exact .setEngine ..
    · exact .refl strm
  · exact .refl strm

/-- Memory, the parser and the latched words stay as they are when a register is cleared. -/
theorem State.clearRc_frame (s : State) (w : RegWord) :
    (s.clearRc w).mem = s.mem ∧ (s.clearRc w).pa = s.pa ∧ (s.clearRc w).latch = s.latch := by
  obtain ⟨hmem, hpa, hlatch⟩ := s.rcReset_frame w
  obtain ⟨-, kmem, kpa, klatch⟩ := s.clearRc_storesKept w
  exact ⟨kmem.trans hmem, kpa.trans hpa, klatch.trans hlatch⟩

theorem State.reg_clearRc_one (s : State) (w : RegWord) (h1 : w.words = 1) (x : Nat) :
    (s.clearRc w).reg x = if x = w.first then s.rcFresh w.first 1 else s.reg x :=
  (State.reg_of_regs_eq (s.clearRc_storesKept w).1 x).trans (s.reg_rcReset_one w h1 x)

theorem State.reg_clearRc_two (s : State) (w : RegWord) (h2 : w.words = 2) (x : Nat) :
    (s.clearRc w).reg x = if x = w.first + 4 then s.rcFresh w.first 2 / 2 ^ 32
      else if x = w.first then s.rcFresh w.first 2 % 2 ^ 32 else s.reg x :=
  (State.reg_of_regs_eq (s.clearRc_storesKept w).1 x).trans (s.reg_rcReset_two w h2 x)

/-! ### What a read of a counter answers -/

theorem State.rcValue_one_of_idle (s : State) (w : RegWord) (h1 : w.words = 1) (h : s.rcFresh w.first 1 = 0) :
    s.rcValue w = s.view w.first := by
  unfold State.rcValue
  rw [h1, h]
  generalize s.view = f
  simp

theorem State.rcValue_two_mod_of_idle (s : State) (w : RegWord) (h2 : w.words = 2) (h : s.rcFresh w.first 2 = 0) :
    s.rcValue w % 2 ^ 32 = s.view w.first % 2 ^ 32 := by
  have sum_two (g : Nat → Nat) : ((List.range 2).map g).sum = g 0 + g 1 := by simp [List.range_succ]
  unfold State.rcValue
  rw [h2, h, sum_two]
  generalize s.view = f
  simp

/-- A word is kept for a later read, as the read of a low word keeps the high one (R15). -/
def State.latchWord (s : State) (o v : Nat) : State :=
  { s with latch := Sparse.set (fun _ => 0) s.latch o (BitVec.ofNat 32 v) }

theorem State.latchWord_latch_self (s : State) (o v : Nat) :
    (Sparse.get (fun _ => 0) (s.latchWord o v).latch o).toNat = v % 2 ^ 32 := by
  rw [State.latchWord, Sparse.get_set_self, BitVec.toNat_ofNat]

@[simp] theorem State.latchWord_mem (s : State) (o v : Nat) : (s.latchWord o v).mem = s.mem := rfl
@[simp] theorem State.latchWord_pa (s : State) (o v : Nat) : (s.latchWord o v).pa = s.pa := rfl
@[simp] theorem State.reg_latchWord (s : State) (o v x : Nat) : (s.latchWord o v).reg x = s.reg x := rfl
@[simp] theorem State.rcFresh_latchWord (s : State) (o v f k : Nat) : (s.latchWord o v).rcFresh f k = s.rcFresh f k := rfl

/-! ### Reading a word -/

section Read
variable (s : State) (o : Nat) (w : RegWord)
variable (hw : regWord o = some w) (hon : s.blockOn o = true) (hcl : s.cloveAt o = false) (hh : s.hidden o = false)
include hw hon hcl hh

theorem State.readWord_plain (hf : w.first = o) (h1 : w.words = 1) (hrc : w.rc = false) :
    s.readWord o = (s, s.view o) := by
  simp [State.readWord, hw, hon, hcl, hh, hf, h1, hrc]

theorem State.readWord_clears (hf : w.first = o) (h1 : w.words = 1) (hrc : w.rc = true) :
    s.readWord o = (s.clearRc w, s.rcValue w % 2 ^ 32) := by
  simp [State.readWord, hw, hon, hcl, hh, hf, h1, hrc]

/-- The low word of a 64-bit register: the high word is latched and both are cleared (R15). -/
theorem State.readWord_low (hf : w.first = o) (h2 : w.words = 2) (hrc : w.rc = true) :
    s.readWord o = ((s.latchWord (o + 4) (s.rcValue w / 2 ^ 32 % 2 ^ 32)).clearRc w, s.rcValue w % 2 ^ 32) := by
  simp [State.readWord, State.latchWord, hw, hon, hcl, hh, hf, h2, hrc, latches, List.range_succ]

/-- The high word: what the read of the low word latched (R15). -/
theorem State.readWord_high (hf : o ≠ w.first) (h2 : w.words = 2) (hrc : w.rc = true) :
    s.readWord o = (s, (Sparse.get (fun _ => 0) s.latch o).toNat) := by
  simp [State.readWord, hw, hon, hcl, hh, hf, h2, hrc, latches]

end Read

/-! ### The clauses about reads -/

section ReadClauses
variable (t : Tick) (o : Nat) (s : State) (w : RegWord)
variable (hp : (s.advanceTo t).pa.waiting = []) (ho : o % 4 = 0) (hon : (s.advanceTo t).blockOn o = true)
  (hw : regWord o = some w) (hcl : (s.advanceTo t).cloveAt o = false) (hh : (s.advanceTo t).hidden o = false)
include hp ho hon hw hcl hh

/-- A register that no read clears: the read answers it and leaves it, and what is latched, as they are (R13). -/
theorem completes_read_plain (hf : w.first = o) (h1 : w.words = 1) (hrc : w.rc = false) :
    let s1 := s.advanceTo t
    Completes (.registerReadClear t o 4) s fun s' =>
      s'.bus = s1.view o % 2 ^ 32 ∧ s'.regs = s1.regs ∧ s'.mem = s1.mem ∧ s'.latch = s1.latch := by
  apply completes_registerReadClear_four t o s _ hp ho
  rw [State.readWord_plain _ o w hw hon hcl hh hf h1 hrc]
  exact ⟨rfl, rfl, rfl, rfl⟩

/-- A 32-bit register that a read clears (R15, R16). -/
theorem completes_read_clears (hf : w.first = o) (h1 : w.words = 1) (hrc : w.rc = true) :
    let s1 := s.advanceTo t
    Completes (.registerReadClear t o 4) s fun s' =>
      s'.bus = s1.rcValue w % 2 ^ 32 ∧ s'.reg o = s1.rcFresh o 1 ∧
      (Sparse.get (fun _ => none) s1.rcOld o = none → s'.bus = s1.view o % 2 ^ 32 ∧ s'.reg o = 0) ∧
      (∀ k, k ≠ o → s'.reg k = s1.reg k) ∧ s'.mem = s1.mem := by
  intro s1
  subst hf
  obtain ⟨hmem, -, -⟩ := s1.clearRc_frame w
  have hreg := s1.reg_clearRc_one w h1
  have hself : (s1.clearRc w).reg w.first = s1.rcFresh w.first 1 := by rw [hreg, if_pos rfl]
  apply completes_registerReadClear_four t _ s _ hp ho
  rw [State.readWord_clears _ _ w hw hon hcl hh rfl h1 hrc]
  refine ⟨Nat.mod_mod _ _, hself, fun hidle => ?_, fun k hk => ?_, hmem⟩
  · have h0 : s1.rcFresh w.first 1 = 0 := s1.rcFresh_of_idle _ 1 (by simpa using hidle)
    exact ⟨by rw [← s1.rcValue_one_of_idle w h1 h0]; exact Nat.mod_mod _ _, hself.trans h0⟩
  · exact (hreg k).trans (if_neg hk)

/-- The low word of a 64-bit register that a read clears: it is answered, both words are cleared, and the high word is latched for
its own read (R15, R16). -/
theorem completes_read_low (hf : w.first = o) (h2 : w.words = 2) (hrc : w.rc = true) :
    let s1 := s.advanceTo t
    Completes (.registerReadClear t o 4) s fun s' =>
      (s'.bus = s1.rcValue w % 2 ^ 32 ∧ s'.reg o = s1.rcFresh o 2 % 2 ^ 32 ∧ s'.reg (o + 4) = s1.rcFresh o 2 / 2 ^ 32 ∧
        (Sparse.get (fun _ => none) s1.rcOld o = none → Sparse.get (fun _ => none) s1.rcOld (o + 4) = none →
          s'.bus = s1.view o % 2 ^ 32 ∧ s'.reg o = 0 ∧ s'.reg (o + 4) = 0) ∧
        (∀ k, k ≠ o → k ≠ o + 4 → s'.reg k = s1.reg k) ∧ s'.mem = s1.mem) ∧
      s'.pa.waiting = [] ∧ (Sparse.get (fun _ => 0) s'.latch (o + 4)).toNat = s1.rcValue w / 2 ^ 32 % 2 ^ 32 := by
  intro s1
  subst hf
  obtain ⟨hmem, hpa, hlatch⟩ := (s1.latchWord (w.first + 4) (s1.rcValue w / 2 ^ 32 % 2 ^ 32)).clearRc_frame w
  have hreg := (s1.latchWord (w.first + 4) (s1.rcValue w / 2 ^ 32 % 2 ^ 32)).reg_clearRc_two w h2
  simp only [State.rcFresh_latchWord, State.reg_latchWord, State.latchWord_mem, State.latchWord_pa] at hreg hmem hpa
  have hlow := hreg w.first
  have hhigh := hreg (w.first + 4)
  rw [if_neg (by omega), if_pos rfl] at hlow
  rw [if_pos rfl] at hhigh
  apply completes_registerReadClear_four t _ s _ hp ho
  rw [State.readWord_low s1 _ w hw hon hcl hh rfl h2 hrc]
  refine ⟨⟨Nat.mod_mod _ _, hlow, hhigh, fun hidle hidle4 => ?_, fun k hk hk4 => ?_, hmem⟩, ?_, ?_⟩
  · have h0 : s1.rcFresh w.first 2 = 0 := by
      refine s1.rcFresh_of_idle _ 2 fun j hj => ?_
      interval_cases j
      · exact hidle
      · exact hidle4
    rw [h0] at hlow hhigh
    exact ⟨by rw [← s1.rcValue_two_mod_of_idle w h2 h0]; exact Nat.mod_mod _ _, hlow, hhigh⟩
  · exact (hreg k).trans ((if_neg hk4).trans (if_neg hk))
  · exact (congrArg Pa.waiting hpa).trans hp
  · rw [hlatch, State.latchWord_latch_self, Nat.mod_mod]

end ReadClauses

/-- The high word of a 64-bit register that a read clears answers what is latched and clears nothing (R15). -/
theorem completes_read_latched (t : Tick) (o v : Nat) (s : State) (w : RegWord) (hp : s.pa.waiting = []) (ho : o % 4 = 0)
    (hon : (s.advanceTo t).blockOn o = true) (hw : regWord o = some w) (hcl : (s.advanceTo t).cloveAt o = false)
    (hh : (s.advanceTo t).hidden o = false) (hf : o ≠ w.first) (h2 : w.words = 2) (hrc : w.rc = true)
    (hl : (Sparse.get (fun _ => 0) s.latch o).toNat = v % 2 ^ 32) :
    Completes (.registerReadClear t o 4) s fun s' =>
      s'.bus = v % 2 ^ 32 ∧ s'.regs = s.regs ∧ s'.mem = (s.advanceTo t).mem := by
  apply completes_registerReadClear_four t o s _ (by simpa using hp) ho
  rw [State.readWord_high _ o w hw hon hcl hh hf h2 hrc, State.advanceTo_latch, hl]
  exact ⟨Nat.mod_mod _ _, s.advanceTo_regs t, rfl⟩

/-! ### The statement -/

/-- Settles O22: a write and a read of 4 bytes each come to one word, whose own lemma gives the clause. -/
theorem registerAccesses : Obligations.RegisterAccesses := by
  intro t off value s s1 hp hv ho hon w hw
  refine ⟨fun hact hdfn htpl hh => ⟨fun hc hrw => ?_, fun hrw hc => ?_, fun hrw hc => ?_⟩,
    fun hf hcl hh => ⟨fun h1 hrc => ?_, fun h1 hrc => ?_, fun h2 hrc hw4 => ?_⟩⟩
  · apply completes_registerWrite_four t off value s _ hp hv ho
    rw [State.writeWord_stored _ off value w hw hon hh hact hdfn hp htpl hrw hc]
    obtain ⟨hbits, hframe⟩ := s1.regAfter_setReg off (mixBits w.rw (s1.reg off) value) (s1.reg off)
    exact ⟨fun i hi => (hbits i hi).trans (testBit_mixBits ..), hframe⟩
  · apply completes_registerWrite_four t off value s _ hp hv ho
    rw [State.writeWord_cleared _ off value w hw hon hh hact hdfn hrw hc]
    obtain ⟨hbits, hframe⟩ := s1.regAfter_setReg off (mixBits (Nat.land w.w1c value) (s1.reg off) 0) (s1.reg off)
    exact ⟨fun i hi => (hbits i hi).trans (testBit_mixBits_zero ..), hframe⟩
  · apply completes_registerWrite_four t off value s _ hp hv ho
    exact State.writeWord_ignored _ off value w hw hon hh hact hdfn hrw hc
  · exact completes_read_plain t off s w hp ho hon hw hcl hh hf h1 hrc
  · exact completes_read_clears t off s w hp ho hon hw hcl hh hf h1 hrc
  · obtain ⟨s', hexec, ⟨hbus, hlow, hhigh, hidle, hregs, hmem⟩, hp', hlatch⟩ :=
      completes_read_low t off s w hp ho hon hw hcl hh hf h2 hrc
    refine ⟨s', hexec, hbus, hlow, hhigh, hidle, hregs, hmem, fun t' hon4 hcl4 hh4 => ?_⟩
    exact completes_read_latched t' (off + 4) _ s' w hp' (by omega) hon4 hw4 hcl4 hh4 (by omega) h2 hrc hlatch

end Sys2Proof.Machine
end

section
/-! SUPPORT. Fields and bits of a stored word: what a store of one field does to it and to the others. -/

namespace Sys2Proof.Machine

theorem bit_eq_testBit (v i : Nat) : bit v i = v.testBit i := by
  rw [bit, Nat.testBit_eq_decide_div_mod_eq, Nat.shiftRight_eq_div_pow]
  rfl

theorem testBit_fld (v hi lo i : Nat) : (fld v hi lo).testBit i = (decide (i < hi + 1 - lo) && v.testBit (lo + i)) := by
  rw [fld, Nat.testBit_mod_two_pow, Nat.testBit_shiftRight]

/-- The bits of a field value put in its place. -/
theorem testBit_field_shiftLeft (x hi lo i : Nat) :
    ((x % 2 ^ (hi + 1 - lo)) <<< lo).testBit i = (decide (lo ≤ i ∧ i ≤ hi) && x.testBit (i - lo)) := by
  have hin : lo ≤ i → (i - lo < hi + 1 - lo ↔ i ≤ hi) := by omega
  rw [Nat.testBit_shiftLeft, Nat.testBit_mod_two_pow]
  by_cases hlo : lo ≤ i <;> simp [hlo, hin]

theorem testBit_fld_shiftLeft (v hi lo i : Nat) :
    (fld v hi lo <<< lo).testBit i = (decide (lo ≤ i ∧ i ≤ hi) && v.testBit i) := by
  rw [fld, testBit_field_shiftLeft, Nat.testBit_shiftRight]
  by_cases hlo : lo ≤ i
  · rw [Nat.add_sub_cancel' hlo]
  · simp [hlo]

/-- A number without a field meets no value put in the field's place. -/
theorem and_field_shiftLeft_eq_zero (v hi lo x : Nat) :
    (v ^^^ fld v hi lo <<< lo) &&& (x % 2 ^ (hi + 1 - lo)) <<< lo = 0 := by
  apply Nat.eq_of_testBit_eq
  intro i
  rw [Nat.testBit_and, Nat.testBit_xor, testBit_field_shiftLeft, testBit_fld_shiftLeft]
  by_cases h : lo ≤ i ∧ i ≤ hi <;> simp [h]

/-- Neither taking a field out of a number nor putting a value in its place carries, so `setFld` is bitwise. -/
theorem setFld_eq_or (v hi lo x : Nat) :
    setFld v hi lo x = (v ^^^ fld v hi lo <<< lo) ||| (x % 2 ^ (hi + 1 - lo)) <<< lo := by
  have hsum : (v ^^^ fld v hi lo <<< lo) + fld v hi lo <<< lo = v := by
    have hapart : (v ^^^ fld v hi lo <<< lo) &&& fld v hi lo <<< lo = 0 := and_field_shiftLeft_eq_zero v hi lo (v >>> lo)
    rw [add_eq_or_of_and_eq_zero _ _ hapart]
    apply Nat.eq_of_testBit_eq
    intro i
    rw [Nat.testBit_or, Nat.testBit_xor, testBit_fld_shiftLeft]
    by_cases h : lo ≤ i ∧ i ≤ hi <;> simp [h]
  rw [← add_eq_or_of_and_eq_zero _ _ (and_field_shiftLeft_eq_zero v hi lo x), setFld]
  omega

theorem testBit_setFld (v hi lo x i : Nat) :
    (setFld v hi lo x).testBit i = if lo ≤ i ∧ i ≤ hi then x.testBit (i - lo) else v.testBit i := by
  rw [setFld_eq_or, Nat.testBit_or, Nat.testBit_xor, testBit_field_shiftLeft, testBit_fld_shiftLeft]
  by_cases h : lo ≤ i ∧ i ≤ hi <;> simp [h]

theorem State.testBit_reg_setRf (s : State) (o hi lo x i : Nat) :
    ((s.setRf o hi lo x).reg o).testBit i =
      if lo ≤ i ∧ i ≤ hi then decide (i < 32) && x.testBit (i - lo) else (s.reg o).testBit i := by
  rw [State.setRf, State.reg_setReg_self, Nat.testBit_mod_two_pow, testBit_setFld]
  split
  · rfl
  · by_cases h : i < 32
    · simp [h]
    · have hw : s.reg o < 2 ^ i := Nat.lt_of_lt_of_le (s.reg_lt o) (Nat.pow_le_pow_right (by omega) (by omega))
      simp [h, Nat.testBit_lt_two_pow hw]

theorem State.rf_setRf_self (s : State) (o hi lo x : Nat) (h : hi < 32) :
    (s.setRf o hi lo x).rf o hi lo = x % 2 ^ (hi + 1 - lo) := by
  apply Nat.eq_of_testBit_eq
  intro i
  rw [State.rf, testBit_fld, State.testBit_reg_setRf, Nat.testBit_mod_two_pow]
  by_cases hi' : i < hi + 1 - lo
  · simp [hi', show lo + i ≤ hi by omega, show lo + i < 32 by omega]
  · simp [hi']

/-- A field that shares no bit with the one stored keeps its value. -/
theorem State.rf_setRf_of_disjoint (s : State) (o hi lo x hi' lo' : Nat) (h : hi' < lo ∨ hi < lo') :
    (s.setRf o hi lo x).rf o hi' lo' = s.rf o hi' lo' := by
  apply Nat.eq_of_testBit_eq
  intro i
  simp only [State.rf, testBit_fld, State.testBit_reg_setRf]
  by_cases hi : i < hi' + 1 - lo'
  · rw [if_neg (by omega)]
  · simp [hi]

theorem State.rb_setRf_of_outside (s : State) (o hi lo x i : Nat) (h : i < lo ∨ hi < i) :
    (s.setRf o hi lo x).rb o i = s.rb o i := by
  rw [State.rb, State.rb, bit_eq_testBit, bit_eq_testBit, State.testBit_reg_setRf, if_neg (by omega)]

theorem State.rb_setRb_self (s : State) (o i : Nat) (b : Bool) (h : i < 32) : (s.setRb o i b).rb o i = b := by
  rw [State.rb, bit_eq_testBit, State.setRb, State.testBit_reg_setRf, if_pos (by omega)]
  cases b <;> simp [h, b2n]

theorem State.rb_setRb_of_ne (s : State) (o i : Nat) (b : Bool) (j : Nat) (h : j ≠ i) : (s.setRb o i b).rb o j = s.rb o j :=
  s.rb_setRf_of_outside o i i _ j (by omega)

theorem State.reg_inc (s : State) (o n x : Nat) :
    (s.inc o n).reg x = if x = o then (s.reg o + n) % 2 ^ 32 else s.reg x := by
  rw [State.inc, State.reg_setReg, State.reg_of_regs_eq (s.rcNote_regs o)]

theorem State.reg_inc64_of_ne (s : State) (o n x : Nat) (h : x ≠ o) (h4 : x ≠ o + 4) : (s.inc64 o n).reg x = s.reg x := by
  rw [State.inc64, State.reg_setReg64_of_ne _ _ _ _ h h4]
  rfl

theorem memKeep_of_mem_eq {s s' : State} (h : s'.mem = s.mem) : MemKeep s s' := fun a => by
  rw [State.byte, State.byte, h]

end Sys2Proof.Machine
end

section
/-! SUPPORT. What posting an event does to the event counter, to the events that wait on the chip and to the registers: those below
the HI block, the time base among them, stay as they are (R540, R541). -/

namespace Sys2Proof.Machine

/-- What writing a record to a ring leaves alone beside `RecordFrame`: the event counter and every register below the HI block. -/
structure RingFrame (s s' : State) : Prop where
  evSeq : s'.host.evSeq = s.host.evSeq
  reg : ∀ o, o < 0x80000 → s'.reg o = s.reg o

theorem RingFrame.refl (s : State) : RingFrame s s := ⟨rfl, fun _ _ => rfl⟩

theorem RingFrame.trans {a b c : State} (h : RingFrame a b) (k : RingFrame b c) : RingFrame a c :=
  ⟨k.evSeq.trans h.evSeq, fun o ho => (k.reg o ho).trans (h.reg o ho)⟩

theorem RingFrame.of_regs_eq {s s' : State} (hr : s'.regs = s.regs) (hs : s'.host.evSeq = s.host.evSeq) : RingFrame s s' :=
  ⟨hs, fun o _ => State.reg_of_regs_eq hr o⟩

theorem RingFrame.setRf (s : State) (o hi lo x : Nat) (h : 0x80000 ≤ o) : RingFrame s (s.setRf o hi lo x) :=
  ⟨by simp, fun k _ => s.reg_setRf_of_ne o hi lo x k (by omega)⟩

theorem RingFrame.inc64 (s : State) (o n : Nat) (h : 0x80000 ≤ o) : RingFrame s (s.inc64 o n) :=
  ⟨by simp, fun k _ => s.reg_inc64_of_ne o n k (by omega) (by omega)⟩

theorem RingFrame.setRing (s : State) (n : Nat) (r : Ring) : RingFrame s (s.setRing n r) := .of_regs_eq (by simp) rfl

theorem RingFrame.offer (s : State) (e : Nat) (h : Held) : RingFrame s (s.offer e h) := .of_regs_eq rfl rfl

theorem RingFrame.issueCut (r : MemReq) (f : Nat) (s : State) (a : Nat) (l : List Byte) :
    RingFrame s (State.issueCut r f s a l) := by
  induction f generalizing s a l with
  | zero => exact .refl s
  | succ f ih =>
    cases l with
    | nil => exact .refl s
    | cons b l => exact (RingFrame.of_regs_eq (State.issue_regs s _) rfl).trans (ih _ _ _)

theorem RingFrame.post (s : State) (i : Issuer) (a : Nat) (l : List Byte) : RingFrame s (s.post i a l) := .issueCut ..

theorem RingFrame.signal (s : State) (v : Nat) : RingFrame s (s.signal v) := by
  unfold State.signal
  dsimp only
  split
  · exact .setRf _ _ _ _ _ (by omega)
  · exact .of_regs_eq rfl rfl

theorem RingFrame.ringSignal (s : State) (r : Nat) : RingFrame s (s.ringSignal r) := by
  unfold State.ringSignal
  dsimp only
  split
  · split
    · exact .setRing ..
    · exact (RingFrame.setRing s r _).trans (.signal ..)
  · exact .refl s

theorem ringB_ge (r : Nat) : 0x80000 ≤ ringB r := by
  unfold ringB
  split_ifs <;> omega

theorem RingFrame.ringReturn (s : State) (r : Nat) (mid : List Byte) : RingFrame s (s.ringReturn r mid) := by
  have hb := ringB_ge r
  unfold State.ringReturn
  dsimp only
  exact (RingFrame.post s _ _ _).trans <| (RingFrame.post _ _ _ _).trans <| (RingFrame.setRing _ _ _).trans <|
    (RingFrame.setRf _ _ _ _ _ (by omega)).trans <| (RingFrame.inc64 _ _ _ (by omega)).trans (.ringSignal ..)

theorem RingFrame.bufReturn (s : State) (r : Nat) : RingFrame s (s.bufReturn r) := by
  unfold State.bufReturn
  split
  · exact .refl s
  · exact (RingFrame.setRing s _ _).trans (.ringReturn ..)

theorem RingFrame.bufPut (s : State) (r stamp : Nat) (rcd : List Byte) : RingFrame s (s.bufPut r stamp rcd).1 := by
  unfold State.bufPut
  split
  · exact .refl s
  · dsimp only
    split
    · exact .refl s
    · split
      · exact (RingFrame.post s _ _ _).trans ((RingFrame.setRing _ _ _).trans (.bufReturn ..))
      · exact (RingFrame.post s _ _ _).trans (.setRing ..)

theorem RingFrame.ringRecord (s : State) (r stamp : Nat) (rcd : List Byte) : RingFrame s (s.ringRecord r stamp rcd).1 := by
  unfold State.ringRecord
  split
  · dsimp only
    split
    · exact .bufPut ..
    · split
      · exact (RingFrame.bufReturn s r).trans (.bufPut ..)
      · exact .bufPut ..
  · exact .refl s

theorem State.ringRecord_of_off (s : State) (r stamp : Nat) (rcd : List Byte) (h : s.ringOn r = false) :
    s.ringRecord r stamp rcd = (s, false) := by
  simp [State.ringRecord, h]

/-- The state in which the record of the next event is written to the ring: the event has taken its SEQ. -/
def State.nextEvent (s : State) : State := { s with host := { s.host with evSeq := s.host.evSeq + 1 } }

/-- An event takes the next SEQ and changes no register below the HI block. -/
theorem RingFrame.eventN (s : State) (code unit count : Nat) (arg : List Byte) :
    RingFrame s.nextEvent (s.eventN code unit count arg) := by
  have hlost (x : State) : RingFrame x (x.inc 0x80020) :=
    ⟨by simp, fun o ho => by rw [State.reg_inc, if_neg (by omega)]⟩
  unfold State.eventN
  dsimp only
  split
  · split
    · exact .ringRecord ..
    · split
      · exact (RingFrame.ringRecord s.nextEvent _ _ _).trans (.of_regs_eq rfl rfl)
      · exact (RingFrame.ringRecord s.nextEvent _ _ _).trans (hlost _)
  · rw [if_neg (by simp)]
    split
    · exact .of_regs_eq rfl rfl
    · exact hlost s.nextEvent

theorem State.reg_eventN (s : State) (code unit count : Nat) (arg : List Byte) (o : Nat) (h : o < 0x80000) :
    (s.eventN code unit count arg).reg o = s.reg o := (RingFrame.eventN s code unit count arg).reg o h

/-- While the event ring is off, an event with a place on the chip waits there. -/
theorem State.eventN_events_of_ring_off (s : State) (code unit count : Nat) (arg : List Byte) (hoff : s.ringOn 128 = false)
    (hroom : s.host.events.length < 32) :
    (s.eventN code unit count arg).host.events =
      s.host.events ++ [{ code := code, unit := unit, count := count, seq := s.host.evSeq, time := s.sn, arg := arg }] := by
  have hp (stamp : Nat) (rcd : List Byte) : s.nextEvent.ringRecord 128 stamp rcd = (s.nextEvent, false) :=
    s.nextEvent.ringRecord_of_off 128 stamp rcd hoff
  simp only [State.nextEvent] at hp
  simp [State.eventN, hp, hroom]

theorem eventPosted_eventN (s : State) (code unit count : Nat) (arg : List Byte) :
    EventPosted s (s.eventN code unit count arg) code unit count :=
  ⟨(RingFrame.eventN s code unit count arg).evSeq, fun hoff hroom =>
    ⟨_, s.eventN_events_of_ring_off code unit count arg hoff hroom, rfl, rfl, rfl, rfl, rfl⟩⟩

theorem memKeep_eventN (s : State) (code unit count : Nat) (arg : List Byte) : MemKeep s (s.eventN code unit count arg) :=
  fun a => by rw [State.byte, State.byte, (RecordFrame.eventN s code unit count arg).bytes]

end Sys2Proof.Machine
end

section
/-! SUPPORT. The time base: the domains' states in TB_STATUS, a switch of the selected domain, and the reference clock (R44, R53 to
R55, R77, R603). -/

namespace Sys2Proof.Machine

/-! ### Domain states and the selected domain -/

theorem State.domSt_congr {s s' : State} (h : s'.reg 0x20004 = s.reg 0x20004) (d : Dom) : s'.domSt d = s.domSt d := by
  cases d <;> simp [State.domSt, State.rf, h]

theorem State.selDom_congr {s s' : State} (h : s'.reg 0x20004 = s.reg 0x20004) : s'.selDom = s.selDom := by
  have hsel : s'.rb 0x20004 0 = s.rb 0x20004 0 := by rw [State.rb, State.rb, h]
  rw [State.selDom, State.selDom, hsel]

/-- The bits of TB_STATUS beside the two state fields leave the states alone (R77). -/
theorem State.domSt_setRb (s : State) (i : Nat) (b : Bool) (d : Dom) (h : i = 0 ∨ 4 < i) :
    (s.setRb 0x20004 i b).domSt d = s.domSt d := by
  cases d <;> exact s.rf_setRf_of_disjoint _ _ _ _ _ _ (by omega)

theorem State.domSt_setDomSt (s : State) (d e : Dom) (v : Nat) :
    (s.setDomSt d v).domSt e = if e = d then v % 4 else s.domSt e := by
  cases d <;> cases e
  · exact s.rf_setRf_self 0x20004 2 1 v (by omega)
  · exact s.rf_setRf_of_disjoint 0x20004 2 1 v 4 3 (by omega)
  · exact s.rf_setRf_of_disjoint 0x20004 4 3 v 2 1 (by omega)
  · exact s.rf_setRf_self 0x20004 4 3 v (by omega)

theorem State.rb_setDomSt (s : State) (d : Dom) (v i : Nat) (h : i = 0 ∨ 4 < i) :
    (s.setDomSt d v).rb 0x20004 i = s.rb 0x20004 i := by
  cases d <;> exact s.rb_setRf_of_outside _ _ _ _ _ (by omega)

/-! ### A switch -/

/-- The bit that names a domain in TB_CTRL and TB_STATUS. -/
def domBit : Dom → Bool | .a => false | .b => true

theorem State.selDom_of_bit (s : State) (d : Dom) (h : s.rb 0x20004 0 = domBit d) : s.selDom = d := by
  cases d <;> simp [State.selDom, h, domBit]

/-- The state in which a switch has named its domain and has been counted, and time has not yet been told of it. -/
def State.named (s : State) (d : Dom) : State := ((s.setRb 0x20004 0 (domBit d)).setRb 0x20000 0 (domBit d)).inc 0x20008

theorem State.reg_named (s : State) (d : Dom) : (s.named d).reg 0x20004 = (s.setRb 0x20004 0 (domBit d)).reg 0x20004 := by
  rw [State.named, State.reg_inc, if_neg (by decide), State.reg_setRb_of_ne _ _ _ _ _ (by decide)]

theorem State.reg_named_count (s : State) (d : Dom) : (s.named d).reg 0x20008 = (s.reg 0x20008 + 1) % 2 ^ 32 := by
  rw [State.named, State.reg_inc, if_pos rfl, State.reg_setRb_of_ne _ _ _ _ _ (by decide),
    State.reg_setRb_of_ne _ _ _ _ _ (by decide)]

theorem State.named_clk (s : State) (d : Dom) : (s.named d).clk = s.clk := by simp [State.named]

theorem State.named_mem (s : State) (d : Dom) : (s.named d).mem = s.mem := by simp [State.named]

/-- The residual that a switch to a domain leaves to be slewed: Saffron time less the domain's time (R54). -/
def State.residTo (s : State) (d : Dom) : Int := Int.ofNat s.clk.saf - Int.ofNat (s.dom d).time

theorem State.residTo_ne_zero (s : State) (d : Dom) : s.residTo d ≠ 0 ↔ s.clk.saf ≠ (s.dom d).time := by
  simp only [State.residTo, Int.ofNat_eq_natCast]
  omega

/-- A residual takes effect: the points before and after it are kept. -/
def State.withResid (s : State) (r : Int) : State :=
  { s.keepTime with clk := { s.keepTime.clk with resid := r } }.keepTime

@[simp] theorem State.withResid_regs (s : State) (r : Int) : (s.withResid r).regs = s.regs := rfl
@[simp] theorem State.withResid_mem (s : State) (r : Int) : (s.withResid r).mem = s.mem := rfl
@[simp] theorem State.withResid_saf (s : State) (r : Int) : (s.withResid r).clk.saf = s.clk.saf := rfl
@[simp] theorem State.withResid_resid (s : State) (r : Int) : (s.withResid r).clk.resid = r := rfl

theorem State.switchTo_eq (s : State) (d : Dom) (h : s.rb 0x20004 6 = true) :
    s.switchTo d = ((s.named d).withResid (s.residTo d)).setRb 0x20004 5 (decide (s.residTo d ≠ 0)) := by
  have hlock : (s.named d).rb 0x20004 6 = true := by
    rw [State.rb, s.reg_named d]
    exact (s.rb_setRb_of_ne 0x20004 0 _ 6 (by decide)).trans h
  have hresid : (s.named d).residTo d = s.residTo d := by
    cases d <;> simp only [State.residTo, State.dom, State.named_clk]
  have heq : s.switchTo d = if (s.named d).rb 0x20004 6 then
      ((s.named d).withResid ((s.named d).residTo d)).setRb 0x20004 5 (decide ((s.named d).residTo d ≠ 0))
      else (s.named d).keepTime.firstStep := by
    cases d <;> rfl
  rw [heq, if_pos hlock, hresid]

/-- A switch after the first lock makes the difference the residual, and moves neither Saffron time nor memory. -/
theorem State.switchTo_frame (s : State) (d : Dom) (h : s.rb 0x20004 6 = true) :
    (s.switchTo d).clk.saf = s.clk.saf ∧ (s.switchTo d).clk.resid = s.residTo d ∧ (s.switchTo d).mem = s.mem := by
  simp [s.switchTo_eq d h, s.named_clk d, s.named_mem d]

/-- The registers that show a switch after the first lock (R55, R77). -/
theorem State.switchTo_shown (s : State) (d : Dom) (h : s.rb 0x20004 6 = true) :
    (s.switchTo d).selDom = d ∧ (s.switchTo d).rb 0x20004 5 = decide (s.residTo d ≠ 0) ∧
      (s.switchTo d).reg 0x20008 = (s.reg 0x20008 + 1) % 2 ^ 32 := by
  have hreg := State.reg_of_regs_eq ((s.named d).withResid_regs (s.residTo d))
  rw [s.switchTo_eq d h]
  refine ⟨?_, State.rb_setRb_self _ 0x20004 5 _ (by decide), ?_⟩
  · apply State.selDom_of_bit
    rw [State.rb_setRb_of_ne _ _ _ _ _ (by decide), State.rb, hreg, s.reg_named d]
    exact s.rb_setRb_self 0x20004 0 _ (by decide)
  · rw [State.reg_setRb_of_ne _ _ _ _ _ (by decide), hreg, s.reg_named_count d]

theorem State.selWrite_of_locked (s : State) (d : Dom) (hsel : s.selDom ≠ d) (h : s.domSt d = 2) : s.selWrite d = s.switchTo d := by
  unfold State.selWrite
  rw [if_neg hsel, if_pos h]

theorem State.selWrite_of_not_locked (s : State) (d : Dom) (hsel : s.selDom ≠ d) (h : s.domSt d ≠ 2) :
    s.selWrite d = s.eventN Code.TB_SWITCH_REFUSED 0 1 (leBytes 1 (b2n (domBit d))) := by
  unfold State.selWrite
  rw [if_neg hsel, if_neg h]
  cases d <;> rfl

/-- With no LOCKED domain there is none to switch to by itself (R53). -/
theorem State.autoSwitch_of_none_locked (s : State) (h : ∀ d, s.domSt d ≠ 2) : s.autoSwitch = s :=
  if_neg fun ⟨_, _, hother⟩ => h _ hother

/-! ### The reference clock -/

/-- The reference has stopped, and the servos have not yet left LOCKED. -/
def State.onOscillator (s : State) : State :=
  { s.useFree.keepTime with pin := { s.pin with refclk := false }, clk := { s.keepTime.clk with
      osc := Int.ofNat (s.freeVal % 40960001) - 20480000 } }.setRb 0x20004 7 false

theorem State.domSt_onOscillator (s : State) (d : Dom) : s.onOscillator.domSt d = s.domSt d :=
  (State.domSt_setRb _ 7 false d (by decide)).trans (State.domSt_congr rfl d)

theorem State.rb_onOscillator (s : State) : s.onOscillator.rb 0x20004 7 = false :=
  State.rb_setRb_self _ 0x20004 7 false (by decide)

/-- The oscillator's rate is within 20 ppm, in 1/1,024 ppb (R603). -/
theorem State.onOscillator_osc (s : State) : -20480000 ≤ s.onOscillator.clk.osc ∧ s.onOscillator.clk.osc ≤ 20480000 := by
  have h : s.onOscillator.clk.osc = Int.ofNat (s.freeVal % 40960001) - 20480000 := rfl
  rw [h, Int.ofNat_eq_natCast]
  omega

/-- A LOCKED domain enters HOLDOVER. -/
def State.holdLocked (s : State) (d : Dom) : State := if s.domSt d = 2 then s.holdover d else s

theorem State.domSt_setDom (s : State) (d e : Dom) (v : Domain) : (s.setDom d v).domSt e = s.domSt e :=
  State.domSt_congr (by cases d <;> rfl) e

theorem State.domSt_holdLocked (s : State) (d e : Dom) :
    (s.holdLocked d).domSt e = if e = d ∧ s.domSt d = 2 then 3 else s.domSt e := by
  unfold State.holdLocked
  by_cases h : s.domSt d = 2
  · simp [h, State.holdover, State.domSt_setDom, State.domSt_setDomSt]
  · simp [h]

theorem State.domSt_holdLocked_self_ne (s : State) (d : Dom) : (s.holdLocked d).domSt d ≠ 2 := by
  rw [State.domSt_holdLocked]
  by_cases h : s.domSt d = 2 <;> simp [h]

/-- What a domain's HOLDOVER leaves alone. -/
structure HoldFrame (s s' : State) : Prop where
  pin : s'.pin = s.pin
  osc : s'.clk.osc = s.clk.osc
  saf : s'.clk.saf = s.clk.saf
  free : s'.free = s.free
  mem : s'.mem = s.mem
  ok : s'.rb 0x20004 7 = s.rb 0x20004 7

theorem HoldFrame.trans {a b c : State} (h : HoldFrame a b) (k : HoldFrame b c) : HoldFrame a c :=
  ⟨k.pin.trans h.pin, k.osc.trans h.osc, k.saf.trans h.saf, k.free.trans h.free, k.mem.trans h.mem, k.ok.trans h.ok⟩

theorem HoldFrame.refl (s : State) : HoldFrame s s := ⟨rfl, rfl, rfl, rfl, rfl, rfl⟩

theorem HoldFrame.setDomSt (s : State) (d : Dom) (v : Nat) : HoldFrame s (s.setDomSt d v) := by
  have hok := s.rb_setDomSt d v 7 (by decide)
  cases d <;> exact ⟨s.setRf_pin .., congrArg Clock.osc (s.setRf_clk ..), congrArg Clock.saf (s.setRf_clk ..), s.setRf_free ..,
    s.setRf_mem .., hok⟩

theorem HoldFrame.setDom (s : State) (d : Dom) (v : Domain) : HoldFrame s (s.setDom d v) := by
  cases d <;> exact ⟨rfl, rfl, rfl, rfl, rfl, rfl⟩

theorem HoldFrame.holdLocked (s : State) (d : Dom) : HoldFrame s (s.holdLocked d) := by
  unfold State.holdLocked
  split
  · exact (HoldFrame.setDomSt s d 3).trans (.setDom ..)
  · exact .refl s

/-- The loss of the reference is its stop and the HOLDOVER of both domains where they were LOCKED: none is left to switch to. -/
theorem State.refLost_eq (s : State) : s.refLost = (s.onOscillator.holdLocked .a).holdLocked .b := by
  have heq : s.refLost = ((s.onOscillator.holdLocked .a).holdLocked .b).autoSwitch := rfl
  rw [heq, State.autoSwitch_of_none_locked]
  intro d
  cases d with
  | a =>
    rw [State.domSt_holdLocked, if_neg (by simp)]
    exact s.onOscillator.domSt_holdLocked_self_ne .a
  | b => exact State.domSt_holdLocked_self_ne _ .b

theorem State.domSt_refLost (s : State) (d : Dom) (h : s.domSt d = 2) : s.refLost.domSt d = 3 := by
  have ho := s.domSt_onOscillator d
  rw [s.refLost_eq]
  cases d <;> simp [State.domSt_holdLocked, ho, h]

theorem HoldFrame.refLost (s : State) : HoldFrame s.onOscillator s.refLost := by
  rw [s.refLost_eq]
  exact (HoldFrame.holdLocked _ .a).trans (.holdLocked _ .b)

theorem State.reg_refBack_of_ne (s : State) (o : Nat) (h : o ≠ 0x20004) : s.refBack.reg o = s.reg o :=
  State.reg_setRb_of_ne _ _ _ _ _ h

/-! ### The commands -/

theorem completes_selWrite_locked (t : Tick) (d : Dom) (s : State) (hsel : (s.advanceTo t).selDom ≠ d)
    (hst : (s.advanceTo t).domSt d = 2) (hlock : (s.advanceTo t).rb 0x20004 6 = true) :
    Completes (.selWrite t d) s fun s' =>
      s'.selDom = d ∧ s'.clk.saf = (s.advanceTo t).clk.saf ∧ s'.clk.resid = (s.advanceTo t).residTo d ∧
      s'.rb 0x20004 5 = decide ((s.advanceTo t).clk.saf ≠ ((s.advanceTo t).dom d).time) ∧
      s'.reg 0x20008 = ((s.advanceTo t).reg 0x20008 + 1) % 2 ^ 32 ∧ MemKeep (s.advanceTo t) s' := by
  refine ⟨_, rfl, ?_⟩
  rw [State.selWrite_of_locked _ d hsel hst]
  obtain ⟨hsaf, hresid, hmem⟩ := State.switchTo_frame _ d hlock
  obtain ⟨hd, hslew, hcount⟩ := State.switchTo_shown _ d hlock
  exact ⟨hd, hsaf, hresid, hslew.trans (decide_eq_decide.2 (State.residTo_ne_zero _ d)), hcount, memKeep_of_mem_eq hmem⟩

theorem completes_selWrite_refused (t : Tick) (d : Dom) (s : State) (hsel : (s.advanceTo t).selDom ≠ d)
    (hst : (s.advanceTo t).domSt d ≠ 2) :
    Completes (.selWrite t d) s fun s' =>
      s'.selDom = (s.advanceTo t).selDom ∧ s'.clk = (s.advanceTo t).clk ∧
      EventPosted (s.advanceTo t) s' Code.TB_SWITCH_REFUSED 0 ∧ MemKeep (s.advanceTo t) s' := by
  refine ⟨_, rfl, ?_⟩
  rw [State.selWrite_of_not_locked _ d hsel hst]
  exact ⟨State.selDom_congr (State.reg_eventN _ _ _ _ _ _ (by decide)), (RecordFrame.eventN ..).clk, eventPosted_eventN ..,
    memKeep_eventN _ _ _ _ _⟩

theorem completes_slewComplete (t : Tick) (s : State) (P : State → Prop) (h : (s.advanceTo t).clk.resid = 0)
    (hP : P ((s.advanceTo t).setRb 0x20004 5 false)) : Completes (.slewComplete t) s P :=
  ⟨_, rfl, by rwa [if_pos h]⟩

theorem completes_refclkLoss (t : Tick) (s : State) (P : State → Prop) (hP : P (s.advanceTo t).refLost) :
    Completes (.refclkLoss t) s P := ⟨_, rfl, hP⟩

theorem completes_refclkReturn (t : Tick) (s : State) (P : State → Prop) (hP : P (s.advanceTo t).refBack) :
    Completes (.refclkReturn t) s P := ⟨_, rfl, hP⟩

/-- Settles O26: a switch after the first lock only moves the difference into the residual, and the loss of the reference leaves no
domain LOCKED, so that no automatic switch follows it. -/
theorem saffronSelectionCommands : Obligations.SaffronSelectionCommands := by
  intro t s s1
  refine ⟨fun d hsel hst hlock => ?_, fun d hsel hst => ?_, fun hresid => ?_, ?_, ?_⟩
  · exact completes_selWrite_locked t d s hsel hst hlock
  · exact completes_selWrite_refused t d s hsel hst
  · apply completes_slewComplete t s _ hresid
    exact ⟨s1.rb_setRb_self 0x20004 5 false (by decide), s1.setRb_clk .., fun o ho => s1.reg_setRb_of_ne 0x20004 5 false o ho,
      memKeep_of_mem_eq (s1.setRb_mem ..)⟩
  · apply completes_refclkLoss
    obtain ⟨hpin, hosc, hsaf, hfree, hmem, hok⟩ := HoldFrame.refLost s1
    obtain ⟨hlow, hhigh⟩ := s1.onOscillator_osc
    rw [← hosc] at hlow hhigh
    exact ⟨congrArg Pins.refclk hpin, hok.trans s1.rb_onOscillator, fun d => s1.domSt_refLost d, hlow, hhigh, hsaf, hfree,
      memKeep_of_mem_eq hmem⟩
  · apply completes_refclkReturn
    exact ⟨rfl, State.rb_setRb_self _ 0x20004 7 true (by decide), rfl, rfl, s1.reg_refBack_of_ne, memKeep_of_mem_eq rfl⟩

end Sys2Proof.Machine
end

section
/-! SUPPORT. What recording a fault does, as a chain of single updates: the registers past the HI block, those of the cells among
them, stay as they are, and the fault counter moves by one (R473, R539). -/

namespace Sys2Proof.Machine

/-- One update of the kinds that writing a record to a ring, or recording a fault, is made of. -/
inductive RecordUpdate (s : State) : State → Prop
  | field (o hi lo x : Nat) (h : o < 0x90000) : RecordUpdate s (s.setRf o hi lo x)
  | count (o n : Nat) (h : o < 0x90000) : RecordUpdate s (s.inc o n)
  | count64 (o n : Nat) (h : o + 4 < 0x90000) : RecordUpdate s (s.inc64 o n)
  | request (r : MemReq) : RecordUpdate s (s.issue r)
  | stage (n : Nat) (e : Stage) : RecordUpdate s (s.setStage n e)
  | ring (n : Nat) (r : Ring) : RecordUpdate s (s.setRing n r)
  | vectors (l : List Nat) : RecordUpdate s { s with host := { s.host with msix := l } }
  | faults (l : List FaultRec) : RecordUpdate s { s with host := { s.host with faults := l } }
  | clove (v : Clove) : RecordUpdate s { s with rv := v }

/-- Any number of such updates. -/
abbrev RecordUpdates : State → State → Prop := Relation.ReflTransGen RecordUpdate

theorem RecordUpdate.fltSeq {s s' : State} (h : RecordUpdate s s') : s'.host.fltSeq = s.host.fltSeq := by
  cases h with
  | field | count | count64 | request | stage => simp
  | ring | vectors | faults | clove => rfl

theorem RecordUpdate.reg {s s' : State} (h : RecordUpdate s s') (o : Nat) (ho : 0x90000 ≤ o) : s'.reg o = s.reg o := by
  cases h with
  | field k hi lo x hk => exact s.reg_setRf_of_ne k hi lo x o (by omega)
  | count k n hk => rw [State.reg_inc, if_neg (by omega)]
  | count64 k n hk => exact s.reg_inc64_of_ne k n o (by omega) (by omega)
  | request | stage | ring | vectors | faults | clove => rfl

theorem RecordUpdates.fltSeq {s s' : State} (h : RecordUpdates s s') : s'.host.fltSeq = s.host.fltSeq := by
  induction h with
  | refl => rfl
  | tail _ hstep ih => exact hstep.fltSeq.trans ih

theorem RecordUpdates.reg {s s' : State} (h : RecordUpdates s s') (o : Nat) (ho : 0x90000 ≤ o) : s'.reg o = s.reg o := by
  induction h with
  | refl => rfl
  | tail _ hstep ih => exact (hstep.reg o ho).trans ih

/-! ### Records in rings -/

theorem RecordUpdates.issueCut (r : MemReq) (f : Nat) (s : State) (a : Nat) (l : List Byte) :
    RecordUpdates s (State.issueCut r f s a l) := by
  induction f generalizing s a l with
  | zero => exact .refl
  | succ f ih =>
    cases l with
    | nil => exact .refl
    | cons b l => exact (ih _ _ _).head (.request _)

theorem RecordUpdates.post (s : State) (i : Issuer) (a : Nat) (l : List Byte) : RecordUpdates s (s.post i a l) :=
  RecordUpdates.issueCut ..

theorem RecordUpdates.signal (s : State) (v : Nat) : RecordUpdates s (s.signal v) := by
  unfold State.signal
  dsimp only
  split
  · exact .single (.field _ _ _ _ (by omega))
  · exact (Relation.ReflTransGen.single (.vectors _)).tail (.stage ..)

theorem RecordUpdates.ringSignal (s : State) (r : Nat) : RecordUpdates s (s.ringSignal r) := by
  unfold State.ringSignal
  dsimp only
  split
  · split
    · exact .single (.ring ..)
    · exact (RecordUpdates.signal _ _).head (.ring ..)
  · exact .refl

theorem ringB_lt (r : Nat) : ringB r + 0x40 ≤ 0x90000 := by
  unfold ringB
  split_ifs <;> omega

theorem RecordUpdates.ringReturn (s : State) (r : Nat) (mid : List Byte) : RecordUpdates s (s.ringReturn r mid) := by
  have hb := ringB_lt r
  unfold State.ringReturn
  dsimp only
  have hpost (a b : Nat) : RecordUpdates s ((s.post (.ring r) a mid).post (.ring r) b [0]) :=
    (RecordUpdates.post s _ a mid).trans (RecordUpdates.post _ _ b [0])
  refine Relation.ReflTransGen.trans ?_ (RecordUpdates.ringSignal _ r)
  exact (((hpost _ _).tail (.ring ..)).tail (.field _ _ _ _ (by omega))).tail (.count64 _ _ (by omega))

theorem RecordUpdates.bufReturn (s : State) (r : Nat) : RecordUpdates s (s.bufReturn r) := by
  unfold State.bufReturn
  split
  · exact .refl
  · exact (RecordUpdates.ringReturn _ _ _).head (.ring ..)

theorem RecordUpdates.bufPut (s : State) (r stamp : Nat) (rcd : List Byte) : RecordUpdates s (s.bufPut r stamp rcd).1 := by
  unfold State.bufPut
  split
  · exact .refl
  · dsimp only
    split
    · exact .refl
    · split
      · exact ((RecordUpdates.post s _ _ rcd).tail (.ring ..)).trans (RecordUpdates.bufReturn _ r)
      · exact (RecordUpdates.post s _ _ rcd).tail (.ring ..)

theorem RecordUpdates.ringRecord (s : State) (r stamp : Nat) (rcd : List Byte) : RecordUpdates s (s.ringRecord r stamp rcd).1 := by
  unfold State.ringRecord
  split
  · dsimp only
    split
    · exact RecordUpdates.bufPut ..
    · split
      · exact (RecordUpdates.bufReturn s r).trans (RecordUpdates.bufPut ..)
      · exact RecordUpdates.bufPut ..
  · exact .refl

/-! ### Faults -/

theorem RecordUpdates.faultInRecovery (s : State) : RecordUpdates s s.faultInRecovery := by
  unfold State.faultInRecovery
  split
  · split
    · exact (Relation.ReflTransGen.single (.clove _)).tail (.field _ _ _ _ (by decide))
    · exact .refl
  · exact .refl

@[simp] theorem State.faultInRecovery_host (s : State) : s.faultInRecovery.host = s.host := by
  unfold State.faultInRecovery
  split
  · split
    · exact State.setRf_host ..
    · rfl
  · rfl

/-- The state in which the record of the next fault is written to the ring: the fault has taken its SEQ. -/
def State.nextFault (s : State) : State := { s with host := { s.host with fltSeq := s.host.fltSeq + 1 } }

/-- A fault takes the next SEQ; the rest is record updates. -/
theorem RecordUpdates.fault (s : State) (f : FaultRec) : RecordUpdates s.nextFault (s.fault f) := by
  have hring (stamp : Nat) (rcd : List Byte) :
      RecordUpdates s.nextFault (s.nextFault.ringRecord 129 stamp rcd).1.faultInRecovery :=
    (RecordUpdates.ringRecord ..).trans (RecordUpdates.faultInRecovery _)
  unfold State.fault
  dsimp only
  split
  · split
    · exact hring _ _
    · split
      · exact (hring _ _).tail (.faults _)
      · exact (hring _ _).tail (.count _ _ (by decide))
  · rw [if_neg (by simp)]
    split
    · exact (RecordUpdates.faultInRecovery s.nextFault).tail (.faults _)
    · exact (RecordUpdates.faultInRecovery s.nextFault).tail (.count _ _ (by decide))

theorem State.reg_fault (s : State) (f : FaultRec) (o : Nat) (ho : 0x90000 ≤ o) : (s.fault f).reg o = s.reg o :=
  (RecordUpdates.fault s f).reg o ho

/-- While the fault ring is off, a fault with a place on the chip waits there. -/
theorem State.fault_faults_of_ring_off (s : State) (f : FaultRec) (hoff : s.ringOn 129 = false)
    (hroom : s.host.faults.length < 64) :
    (s.fault f).host.faults = s.host.faults ++ [{ f with seq := s.host.fltSeq, time := s.sn }] := by
  have hp (stamp : Nat) (rcd : List Byte) : s.nextFault.ringRecord 129 stamp rcd = (s.nextFault, false) :=
    s.nextFault.ringRecord_of_off 129 stamp rcd hoff
  simp only [State.nextFault] at hp
  simp [State.fault, hp, hroom]

theorem faultRecorded_fault (s : State) (f : FaultRec) (P : FaultRec → Prop)
    (hP : P { f with seq := s.host.fltSeq, time := s.sn }) : FaultRecorded s (s.fault f) P :=
  ⟨(RecordUpdates.fault s f).fltSeq, fun hoff hroom => ⟨_, s.fault_faults_of_ring_off f hoff hroom, rfl, rfl, hP⟩⟩

/-- A register past the HI block, stored before the fault, makes no difference to its record. -/
theorem FaultRecorded.of_setReg {s s' : State} {P : FaultRec → Prop} (o v : Nat) (ho : 0x90000 ≤ o)
    (h : FaultRecorded (s.setReg o v) s' P) : FaultRecorded s s' P := by
  obtain ⟨hseq, hrec⟩ := h
  have hon : (s.setReg o v).ringOn 129 = s.ringOn 129 := by
    have hb := ringB_lt 129
    rw [State.ringOn, State.ringOn, State.rb, State.rb, s.reg_setReg_of_ne o v _ (by omega)]
  exact ⟨hseq, fun hoff => hrec (hon.trans hoff)⟩

theorem RecordFrame.memKeep {s s' : State} (h : RecordFrame s s') : MemKeep s s' := fun a => by
  rw [State.byte, State.byte, h.bytes]

end Sys2Proof.Machine
end

section
/-! SUPPORT. Writes to the slot tables through the indirect window (R104, R105, R128). -/

namespace Sys2Proof.Machine

/-! ### A write that a cell refuses -/

theorem RecordFrame.cellRefused (s : State) (n code : Nat) : RecordFrame s (s.cellRefused n code) :=
  (RecordFrame.setReg ..).trans (.fault ..)

/-- CL_FAULT shows a write that the cell refused. -/
theorem State.reg_cellRefused (s : State) (n code : Nat) (h : code < 2 ^ 16) :
    (s.cellRefused n code).reg (clB n + 0x40) = clFault code 0 0 0 := by
  rw [State.cellRefused, State.reg_fault _ _ _ (by unfold clB; omega), State.reg_setReg_self]
  unfold clFault
  omega

theorem faultRecorded_cellRefused (s : State) (n code : Nat) :
    FaultRecorded s (s.cellRefused n code) fun f => f.code = code ∧ f.origin = 3 ∧ f.cell = some (n, 0) :=
  FaultRecorded.of_setReg (clB n + 0x40) _ (by unfold clB; omega) (faultRecorded_fault _ _ _ ⟨rfl, rfl, rfl⟩)

theorem queuesKeep_of_lat_eq {s s' : State} (h : s'.lat = s.lat) (n : Nat) (qs : List Nat) : QueuesKeep s s' n qs :=
  fun m q _ => by rw [State.cell, State.cell, h]

theorem queuesKeep_setCell (s : State) (n : Nat) (c : Cell) (h : c.q = (s.cell n).q) (qs : List Nat) :
    QueuesKeep s (s.setCell n c) n qs := fun m q _ => by
  rw [State.cell_setCell]
  split
  · next hm => rw [hm, Cell.queue, Cell.queue, h]
  · rfl

/-! ### Entries of the slot tables -/

/-- The outgoing entry stored. -/
def Cell.setOutE (c : Cell) (port i v : Nat) : Cell :=
  { c with slotOut := Sparse.set (fun _ => 0) c.slotOut (port * 16 + i) (BitVec.ofNat 64 v) }

/-- The incoming entry stored. -/
def Cell.setInE (c : Cell) (port i v : Nat) : Cell :=
  { c with slotIn := Sparse.set (fun _ => 0) c.slotIn (port * 16 + i) (BitVec.ofNat 64 v) }

theorem Cell.outE_setOutE (c : Cell) (port i v : Nat) : (c.setOutE port i v).outE port i = v % 2 ^ 64 := by
  rw [Cell.outE, Cell.setOutE, Sparse.get_set_self, BitVec.toNat_ofNat]

theorem Cell.inE_setInE (c : Cell) (port i v : Nat) : (c.setInE port i v).inE port i = v % 2 ^ 64 := by
  rw [Cell.inE, Cell.setInE, Sparse.get_set_self, BitVec.toNat_ofNat]

@[simp] theorem Cell.setOutE_slotIn (c : Cell) (port i v : Nat) : (c.setOutE port i v).slotIn = c.slotIn := rfl
@[simp] theorem Cell.setOutE_q (c : Cell) (port i v : Nat) : (c.setOutE port i v).q = c.q := rfl
@[simp] theorem Cell.setInE_slotOut (c : Cell) (port i v : Nat) : (c.setInE port i v).slotOut = c.slotOut := rfl
@[simp] theorem Cell.setInE_q (c : Cell) (port i v : Nat) : (c.setInE port i v).q = c.q := rfl

/-! ### The window -/

theorem completes_clIndDataWrite (t : Tick) (n : Nat) (d : DWord) (s : State) (P : State → Prop)
    (hon : (s.advanceTo t).cellOn n = true) (hP : P ((s.advanceTo t).indWrite n d.toNat)) :
    Completes (.clIndDataWrite t n d) s P :=
  ⟨_, rfl, by rwa [if_pos hon]⟩

/-- Space 5 is the outgoing table; a running cell takes its writes too (R129). -/
theorem State.indWrite_out (s : State) (n v p port i : Nat) (h : s.indAddr n = (5, p, port, i)) (hp : port < 5) (hi : i < 16) :
    s.indWrite n v = s.slotWrite n port i v true := by
  simp [State.indWrite, h, hp, hi]

/-- Space 6 is the incoming table. -/
theorem State.indWrite_in (s : State) (n v p port i : Nat) (h : s.indAddr n = (6, p, port, i)) (hp : port < 5) (hi : i < 16) :
    s.indWrite n v = s.slotWrite n port i v false := by
  simp [State.indWrite, h, hp, hi]

section Outgoing
variable (s : State) (n port i v : Nat) (hv : v < 512) (hsrc : fld v 4 2 < 5)
include hv hsrc

theorem State.slotWrite_out_of_valid (hset : bit v 0 = true) (hold : bit ((s.cell n).outE port i) 0 = true) :
    s.slotWrite n port i v true = s.cellRefused n Code.SLOT_COLLISION := by
  simp [State.slotWrite, hset, hold, Nat.not_le.2 hv, Nat.not_le.2 hsrc]

theorem State.slotWrite_out_taken (h : bit v 0 = false ∨ (bit ((s.cell n).outE port i) 0 = false ∧ port < 4)) :
    s.slotWrite n port i v true = s.setCell n ((s.cell n).setOutE port i v) := by
  rcases h with hclear | ⟨hold, hport⟩
  · simp [State.slotWrite, hclear, Nat.not_le.2 hv, Nat.not_le.2 hsrc, Cell.setOutE]
  · simp [State.slotWrite, hold, Nat.ne_of_lt hport, Nat.not_le.2 hv, Nat.not_le.2 hsrc, Cell.setOutE]

end Outgoing

section Incoming
variable (s : State) (n port i v : Nat) (hv : v < 64) (hdest : fld v 2 1 ≠ 3)
include hv hdest

theorem State.slotWrite_in_of_valid (hset : bit v 0 = true) (hold : bit ((s.cell n).inE port i) 0 = true) :
    s.slotWrite n port i v false = s.cellRefused n Code.SLOT_COLLISION := by
  simp [State.slotWrite, hset, hold, Nat.not_le.2 hv, hdest]

theorem State.slotWrite_in_taken (h : bit v 0 = false ∨ bit ((s.cell n).inE port i) 0 = false) :
    s.slotWrite n port i v false = s.setCell n ((s.cell n).setInE port i v) := by
  rcases h with hclear | hold
  · simp [State.slotWrite, hclear, Nat.not_le.2 hv, hdest, Cell.setInE]
  · simp [State.slotWrite, hold, Nat.not_le.2 hv, hdest, Cell.setInE]

end Incoming

/-- What a write refused for SLOT_COLLISION leaves behind: both tables as they were, and the fault. -/
theorem State.slotCollision_shown (s : State) (n : Nat) :
    let s' := s.cellRefused n Code.SLOT_COLLISION
    (s'.cell n).slotOut = (s.cell n).slotOut ∧ (s'.cell n).slotIn = (s.cell n).slotIn ∧
    s'.reg (clB n + 0x40) = clFault Code.SLOT_COLLISION 0 0 0 ∧
    FaultRecorded s s' (fun f => f.code = Code.SLOT_COLLISION ∧ f.origin = 3 ∧ f.cell = some (n, 0)) ∧
    QueuesKeep s s' n [] ∧ MemKeep s s' := by
  have hframe := RecordFrame.cellRefused s n Code.SLOT_COLLISION
  have hcell : (s.cellRefused n Code.SLOT_COLLISION).cell n = s.cell n := by rw [State.cell, State.cell, hframe.lat]
  exact ⟨congrArg Cell.slotOut hcell, congrArg Cell.slotIn hcell, s.reg_cellRefused n _ (by decide),
    faultRecorded_cellRefused .., queuesKeep_of_lat_eq hframe.lat _ _, hframe.memKeep⟩

/-- Settles O20: a slot write comes to one refusal, the same for both tables, or to its entry stored. -/
theorem slotEntryWrites : Obligations.SlotEntryWrites := by
  intro t n d p port i s s1 c hon hport hi collides
  refine ⟨fun haddr hv hsrc => ⟨fun hset hold => ?_, fun htake => ?_⟩,
    fun haddr hv hdest => ⟨fun hset hold => ?_, fun htake => ?_⟩⟩
  · apply completes_clIndDataWrite t n d s _ hon
    rw [State.indWrite_out _ n _ p port i haddr hport hi, State.slotWrite_out_of_valid _ n port i _ hv hsrc hset hold]
    exact s1.slotCollision_shown n
  · apply completes_clIndDataWrite t n d s _ hon
    rw [State.indWrite_out _ n _ p port i haddr hport hi, State.slotWrite_out_taken _ n port i _ hv hsrc htake,
      State.cell_setCell, if_pos rfl]
    exact ⟨(Cell.outE_setOutE ..).trans d.toNat_mod_cancel, Cell.setOutE_slotIn .., State.setCell_regs ..,
      queuesKeep_setCell s1 n _ (c.setOutE_q port i d.toNat) [], memKeep_of_mem_eq (State.setCell_mem ..)⟩
  · apply completes_clIndDataWrite t n d s _ hon
    rw [State.indWrite_in _ n _ p port i haddr hport hi, State.slotWrite_in_of_valid _ n port i _ hv hdest hset hold]
    exact s1.slotCollision_shown n
  · apply completes_clIndDataWrite t n d s _ hon
    rw [State.indWrite_in _ n _ p port i haddr hport hi, State.slotWrite_in_taken _ n port i _ hv hdest htake,
      State.cell_setCell, if_pos rfl]
    exact ⟨(Cell.inE_setInE ..).trans d.toNat_mod_cancel, Cell.setInE_slotOut .., State.setCell_regs ..,
      queuesKeep_setCell s1 n _ (c.setInE_q port i d.toNat) [], memKeep_of_mem_eq (State.setCell_mem ..)⟩

end Sys2Proof.Machine
end

section
/-! SUPPORT. What a debug halt can do to a cell: it touches what says that a plane runs, waits or is held, and no register, queue,
table or address of a cell (R577 to R583); the breakpoints that an instruction meets when it becomes current do no more. -/

namespace Sys2Proof.Machine

/-! ### Sparse maps -/

/-- A read after a function has been applied to every listed value, by whatever relation the function keeps. -/
theorem Sparse.get_mapV_rel {α : Type} [DecidableEq α] (R : α → α → Prop) (d : Nat → α) (f : Nat → α → α) (hd : ∀ k, R (d k) (d k))
    (hf : ∀ k v, R v (f k v)) (m : List (Nat × α)) (k : Nat) : R (Sparse.get d m k) (Sparse.get d (Sparse.mapV d f m) k) := by
  induction m with
  | nil => exact hd k
  | cons e r ih =>
    change R (if k = e.1 then e.2 else _) (Sparse.get d (Sparse.set d (Sparse.mapV d f r) e.1 (f e.1 e.2)) k)
    rw [Sparse.get_set]
    split
    · exact hf e.1 e.2
    · exact ih

/-! ### Planes and cells -/

/-- A plane that a debug halt may have taken or released: registers and address as before, and still halted if it was. -/
structure PlaneHeld (v v' : Plane) : Prop where
  keep : PlaneKeep v v'
  pc : v'.pc = v.pc
  halted : v.st = .halted → v'.st = .halted

theorem PlaneKeep.refl (v : Plane) : PlaneKeep v v := ⟨rfl, rfl, rfl, rfl⟩

theorem PlaneKeep.trans {u v w : Plane} (h : PlaneKeep u v) (k : PlaneKeep v w) : PlaneKeep u w := by
  obtain ⟨hx, hk, hf, hm⟩ := h
  obtain ⟨kx, kk, kf, km⟩ := k
  exact ⟨kx.trans hx, kk.trans hk, kf.trans hf, km.trans hm⟩

theorem PlaneHeld.refl (v : Plane) : PlaneHeld v v := ⟨.refl v, rfl, id⟩

theorem PlaneHeld.trans {u v w : Plane} (h : PlaneHeld u v) (k : PlaneHeld v w) : PlaneHeld u w :=
  ⟨h.keep.trans k.keep, k.pc.trans h.pc, fun hu => k.halted (h.halted hu)⟩

/-- A cell whose planes may have been halted, and nothing else of it changed. -/
structure CellHeld (c c' : Cell) : Prop where
  rest : c' = { c with planes := c'.planes }
  plane : ∀ q, PlaneHeld (c.plane q) (c'.plane q)

theorem CellHeld.refl (c : Cell) : CellHeld c c := ⟨rfl, fun _ => .refl _⟩

theorem CellHeld.trans {a b c : Cell} (h : CellHeld a b) (k : CellHeld b c) : CellHeld a c :=
  ⟨k.rest.trans (by rw [h.rest]), fun q => (h.plane q).trans (k.plane q)⟩

theorem CellHeld.setPlane (c : Cell) (p : Nat) (v : Plane) (h : PlaneHeld (c.plane p) v) : CellHeld c (c.setPlane p v) :=
  ⟨rfl, fun q => by
    rw [Cell.plane_setPlane]
    split
    · next hq => exact hq ▸ h
    · exact .refl _⟩

/-- A plane whose wait has lost an interval (R578). -/
def Plane.delayed (v : Plane) (dt : Nat) : Plane := if v.step then v else { v with waitFrom := v.waitFrom.map (· + dt) }

theorem Cell.delay_planes (c : Cell) (dt : Nat) :
    (c.delay dt).planes = Sparse.mapV (fun _ => {}) (fun _ v => v.delayed dt) c.planes := rfl

theorem PlaneHeld.delayed (v : Plane) (dt : Nat) : PlaneHeld v (v.delayed dt) := by
  unfold Plane.delayed
  split
  · exact .refl v
  · exact ⟨.refl v, rfl, id⟩

theorem CellHeld.delay (c : Cell) (dt : Nat) : CellHeld c (c.delay dt) :=
  ⟨rfl, fun q => by
    rw [Cell.plane, Cell.plane, Cell.delay_planes]
    exact Sparse.get_mapV_rel PlaneHeld _ _ (fun _ => .refl _) (fun _ v => .delayed v dt) c.planes q⟩

/-! ### The part -/

/-- What debug halts leave alone: cells but for the hold on their planes, every register from the CL blocks on, and memory. -/
structure HaltFrame (s s' : State) : Prop where
  cell : ∀ m, CellHeld (s.cell m) (s'.cell m)
  reg : ∀ o, 0x800000 ≤ o → s'.reg o = s.reg o
  bytes : s'.mem.bytes = s.mem.bytes

theorem HaltFrame.refl (s : State) : HaltFrame s s := ⟨fun _ => .refl _, fun _ _ => rfl, rfl⟩

theorem HaltFrame.trans {a b c : State} (h : HaltFrame a b) (k : HaltFrame b c) : HaltFrame a c :=
  ⟨fun m => (h.cell m).trans (k.cell m), fun o ho => (k.reg o ho).trans (h.reg o ho), k.bytes.trans h.bytes⟩

/-- An update outside the Lattice. -/
theorem HaltFrame.of_lat_eq {s s' : State} (hlat : s'.lat = s.lat) (hreg : ∀ o, 0x800000 ≤ o → s'.reg o = s.reg o)
    (hbytes : s'.mem.bytes = s.mem.bytes) : HaltFrame s s' :=
  ⟨fun m => by rw [State.cell, State.cell, hlat]; exact .refl _, hreg, hbytes⟩

theorem HaltFrame.setCell (s : State) (n : Nat) (c : Cell) (h : CellHeld (s.cell n) c) : HaltFrame s (s.setCell n c) :=
  ⟨fun m => by
    rw [State.cell_setCell]
    split
    · next hm => exact hm ▸ h
    · exact .refl _, fun _ _ => rfl, rfl⟩

theorem HaltFrame.setCx (s : State) (n : Nat) (c : Ctx) : HaltFrame s (s.setCx n c) := .of_lat_eq rfl (fun _ _ => rfl) rfl

theorem HaltFrame.setRf (s : State) (o hi lo x : Nat) (h : o < 0x800000) : HaltFrame s (s.setRf o hi lo x) :=
  .of_lat_eq (by simp) (fun k _ => s.reg_setRf_of_ne o hi lo x k (by omega)) (by simp)

theorem HaltFrame.inc (s : State) (o n : Nat) (h : o < 0x800000) : HaltFrame s (s.inc o n) :=
  .of_lat_eq (by simp) (fun k _ => by rw [State.reg_inc, if_neg (by omega)]) (by simp)

/-- An update done once for every entry of a list. -/
theorem HaltFrame.foldl {α : Type} (f : State → α → State) (l : List α) (h : ∀ s, ∀ x ∈ l, HaltFrame s (f s x)) (s : State) :
    HaltFrame s (l.foldl f s) :=
  List.foldlRecOn l f (motive := HaltFrame s) (.refl s) fun s' hs' x hx => hs'.trans (h s' x hx)

/-! ### Pauses -/

theorem HaltFrame.settleCx (s : State) (n : Nat) : HaltFrame s (s.settleCx n) := .setCx ..

theorem HaltFrame.repauseOne (s : State) (b : Nat) : HaltFrame s (s.repauseOne b) := by
  have hsettle : HaltFrame s ((s.cxsOf b).foldl State.settleCx s) := .foldl _ _ (fun s n _ => .settleCx s n) s
  have hpaused (l : List (Nat × Nat)) : HaltFrame s { (s.cxsOf b).foldl State.settleCx s with paused := l } :=
    hsettle.trans (.of_lat_eq rfl (fun _ _ => rfl) rfl)
  unfold State.repauseOne
  dsimp only
  split
  · split
    · exact hpaused _
    · exact .refl s
  · split
    · exact .refl s
    · exact (hpaused _).trans (.foldl _ _ (fun s n _ => .setCell s n _ (.delay ..)) _)

theorem HaltFrame.repause (s : State) : HaltFrame s s.repause := .foldl _ _ (fun s b _ => .repauseOne s b) s

theorem HaltFrame.freeze (s : State) (on : Bool) : HaltFrame s (s.freeze on) := by
  have hfrozen (l : List Nat) : HaltFrame s { s with dbg := { s.dbg with frozen := l } } := .of_lat_eq rfl (fun _ _ => rfl) rfl
  unfold State.freeze
  split
  · exact (hfrozen _).trans (.repause _)
  · exact .refl s

/-! ### Debug halts -/

theorem HaltFrame.countHalt (s : State) : HaltFrame s s.countHalt :=
  (HaltFrame.inc s 0x50014 1 (by decide)).trans (.of_lat_eq rfl (fun _ _ => rfl) rfl)

theorem HaltFrame.haltPlane (s : State) (n p : Nat) : HaltFrame s (s.haltPlane n p) := by
  unfold State.haltPlane
  dsimp only
  split
  · exact .refl s
  · refine HaltFrame.trans ?_ (.countHalt _)
    refine .setCell s n _ (.setPlane _ p _ ⟨⟨rfl, rfl, rfl, rfl⟩, rfl, fun hst => ?_⟩)
    simp [hst]

theorem HaltFrame.haltCell (s : State) (n : Nat) : HaltFrame s (s.haltCell n) := .foldl _ _ (fun s p _ => .haltPlane s n p) s

/-- The registers of a context that the part has lie below the CL blocks. -/
theorem cxB_lt (n : Nat) (h : n < 100) : cxB n + 0x100 ≤ 0x800000 := by
  unfold cxB engB engFirst engineOf
  split_ifs <;> omega

theorem HaltFrame.holdCx (s : State) (n : Nat) (h : n < 100) : HaltFrame s (s.holdCx n) := by
  have hb := cxB_lt n h
  have habandon (s : State) : HaltFrame s (s.abandonCx n) := by
    unfold State.abandonCx
    split
    · exact (HaltFrame.setRf s _ 2 0 1 (by omega)).trans (.setCx ..)
    · exact .setCx ..
  exact (HaltFrame.settleCx s n).trans ((habandon _).trans ((HaltFrame.setCx _ n _).trans (.countHalt _)))

theorem HaltFrame.haltCx (s : State) (n : Nat) (h : n < 100) : HaltFrame s (s.haltCx n) := by
  unfold State.haltCx
  dsimp only
  split
  · exact .refl s
  · split
    · exact .setCx ..
    · exact .holdCx s n h

theorem HaltFrame.haltUnits (s : State) (cell ctx : Nat → Bool) : HaltFrame s (s.haltUnits cell ctx) :=
  (HaltFrame.foldl _ _ (fun s n _ => .haltCell s n) s).trans
    (.foldl _ _ (fun s n hn => .haltCx s n (List.mem_range.1 (List.mem_of_mem_filter hn))) _)

/-! ### Breakpoints -/

theorem State.reg_eventN_of_ge (s : State) (code unit count : Nat) (arg : List Byte) (o : Nat) (ho : 0x90000 ≤ o) :
    (s.eventN code unit count arg).reg o = s.reg o := by
  have hring (stamp : Nat) (rcd : List Byte) : (s.nextEvent.ringRecord 128 stamp rcd).1.reg o = s.reg o :=
    (RecordUpdates.ringRecord s.nextEvent 128 stamp rcd).reg o ho
  have hlost (x : State) : (x.inc 0x80020).reg o = x.reg o := by rw [State.reg_inc, if_neg (by omega)]
  unfold State.eventN
  dsimp only
  split
  · split
    · exact hring _ _
    · split
      · exact hring _ _
      · exact (hlost _).trans (hring _ _)
  · rw [if_neg (by simp)]
    split
    · rfl
    · exact hlost s.nextEvent

theorem HaltFrame.eventN (s : State) (code unit count : Nat) (arg : List Byte) : HaltFrame s (s.eventN code unit count arg) :=
  have hrec := RecordFrame.eventN s code unit count arg
  .of_lat_eq hrec.lat (fun o ho => s.reg_eventN_of_ge code unit count arg o (by omega)) hrec.bytes

/-- What a firing breakpoint of TYPE 1 halts: the plane, the units of a binding, or the part. -/
theorem HaltFrame.bpAct_instruction (s : State) (n unit : Nat) : HaltFrame s (s.bpAct n 1 unit) := by
  unfold State.bpAct
  dsimp only
  split
  · next h =>
    rw [h]
    exact .refl s
  · refine HaltFrame.trans ?_ (.freeze ..)
    split
    · exact .refl s
    · exact .haltPlane ..
    · exact .haltUnits ..
    · exact .haltUnits ..

theorem HaltFrame.bpMatch_instruction (s : State) (n unit : Nat) (h : n < 16) : HaltFrame s (s.bpMatch n 1 unit) := by
  have hb : bpB n + 0x3C < 0x800000 := by unfold bpB; omega
  have hcount (l : List (Nat × Nat)) : HaltFrame s { s with dbg := { s.dbg with matches_ := l } } :=
    .of_lat_eq rfl (fun _ _ => rfl) rfl
  unfold State.bpMatch
  dsimp only
  split
  · exact hcount _
  · exact (hcount _).trans <| (HaltFrame.setRf _ 0x50010 n n (b2n true) (by decide)).trans <| (HaltFrame.inc _ _ 1 hb).trans <|
      (HaltFrame.eventN _ Code.BREAKPOINT_HIT n 1 []).trans (.bpAct_instruction ..)

/-- The next instruction becomes current: only breakpoints act (R582). -/
theorem HaltFrame.becomeCurrent (s : State) (n : Nat) : HaltFrame s (s.becomeCurrent n) := by
  unfold State.becomeCurrent
  split
  · exact .foldl _ _ (fun s n hn => .bpMatch_instruction s n _ (List.mem_range.1 (List.mem_of_mem_filter hn))) s
  · exact .refl s

end Sys2Proof.Machine
end

section
/-! SUPPORT. How an instruction of a cell completes: what its plane holds then, and that other planes, the queues, accumulators,
tables and links of every cell and memory are as they were (R112 to R114, R131, R149). -/

namespace Sys2Proof.Machine

/-! ### An instruction that issues -/

/-- A cell that issues an instruction runs its meaning, which checks its own fields. -/
theorem State.runCell_issues (s : State) (n op : Nat) (f : State → Nat → Nat → Nat → CellOut) (h : s.issues n op) :
    s.runCell n (fun o => o == op) f = settleOut n (s.cell n).turn (f s n (s.cell n).turn (s.curWord n)) := by
  obtain ⟨hrun, hturn, hword⟩ := h
  simp [State.runCell, hrun, hturn, hword]

/-- The plane that holds a cell that can run runs or waits, and no debug halt holds it but for a step. -/
theorem State.canRun_plane (s : State) (n : Nat) (h : s.canRun n = true) :
    ((s.pl n (s.cell n).turn).st = .running ∨ (s.pl n (s.cell n).turn).st = .waiting) ∧
    ((s.pl n (s.cell n).turn).dbg = false ∨ (s.pl n (s.cell n).turn).step = true) := by
  simp only [State.canRun, Bool.and_eq_true, Bool.or_eq_true, beq_iff_eq, Bool.not_eq_true'] at h
  obtain ⟨⟨-, hst⟩, hdbg⟩ := h
  exact ⟨hst, hdbg⟩

theorem State.canRun_not_faulted (s : State) (n : Nat) (h : s.canRun n = true) : (s.pl n (s.cell n).turn).st ≠ .faulted := by
  rcases (s.canRun_plane n h).1 with hst | hst <;> simp [hst]

/-! ### Frames -/

theorem CellFrame.refl (s : State) : CellFrame s s :=
  ⟨fun _ => ⟨rfl, rfl, rfl, rfl, rfl⟩, ⟨⟨fun _ => ⟨rfl, rfl, rfl, rfl⟩, fun _ _ _ => rfl⟩, fun _ => ⟨rfl, rfl, rfl, rfl⟩⟩, fun _ => rfl⟩

/-- A frame from cells that differ in planes and turns alone, the CL registers and the map, and memory. -/
theorem CellFrame.of_cells {s s' : State}
    (hcell : ∀ m, s'.cell m = { s.cell m with planes := (s'.cell m).planes, turn := (s'.cell m).turn, turnCnt := (s'.cell m).turnCnt })
    (hreg : ∀ o, 0x800000 ≤ o → s'.reg o = s.reg o) (hbytes : s'.mem.bytes = s.mem.bytes) : CellFrame s s' := by
  refine ⟨fun m => ?_, ⟨⟨fun m => ?_, fun o ho _ => hreg o ho⟩, fun m => ?_⟩, fun a => by rw [State.byte, State.byte, hbytes]⟩
  all_goals rw [hcell m]; simp

theorem CellFrame.trans {a b c : State} (h : CellFrame a b) (k : CellFrame b c) : CellFrame a c := by
  obtain ⟨hcell, ⟨⟨htab, hreg⟩, hlink⟩, hmem⟩ := h
  obtain ⟨kcell, ⟨⟨ktab, kreg⟩, klink⟩, kmem⟩ := k
  refine ⟨fun m => ?_, ⟨⟨fun m => ?_, fun o ho ho' => (kreg o ho ho').trans (hreg o ho ho')⟩, fun m => ?_⟩,
    fun x => (kmem x).trans (hmem x)⟩
  · simp [hcell m, kcell m]
  · simp [htab m, ktab m]
  · simp [hlink m, klink m]

/-- A cell stored with other planes, turn and count. -/
theorem CellFrame.setCell (s : State) (n : Nat) (c : Cell)
    (h : c = { s.cell n with planes := c.planes, turn := c.turn, turnCnt := c.turnCnt }) : CellFrame s (s.setCell n c) := by
  refine .of_cells (fun m => ?_) (fun _ _ => rfl) rfl
  rw [State.cell_setCell]
  split
  · next hm => rw [hm]; exact h
  · rfl

theorem CellFrame.onPlane (s : State) (n p : Nat) (f : Plane → Plane) : CellFrame s (s.onPlane n p f) := .setCell s n _ rfl

theorem HaltFrame.cellFrame {s s' : State} (h : HaltFrame s s') : CellFrame s s' :=
  .of_cells (fun m => by rw [(h.cell m).rest]) h.reg h.bytes

theorem OthersKeep.trans {a b c : State} {n p : Nat} (h : OthersKeep a b n p) (k : OthersKeep b c n p) : OthersKeep a c n p :=
  fun m q hmq =>
    have ⟨hkeep, hpc⟩ := h m q hmq
    have ⟨kkeep, kpc⟩ := k m q hmq
    ⟨hkeep.trans kkeep, kpc.trans hpc⟩

theorem HaltFrame.planeHeld {s s' : State} (h : HaltFrame s s') (m q : Nat) : PlaneHeld (s.pl m q) (s'.pl m q) := (h.cell m).plane q

theorem HaltFrame.othersKeep {s s' : State} (h : HaltFrame s s') (n p : Nat) : OthersKeep s s' n p :=
  fun m q _ => ⟨(h.planeHeld m q).keep, (h.planeHeld m q).pc⟩

/-! ### One plane changed -/

theorem State.pl_setCell_setPlane (s : State) (n p m q : Nat) (v : Plane) :
    (s.setCell n ((s.cell n).setPlane p v)).pl m q = if m = n ∧ q = p then v else s.pl m q := by
  rw [State.pl, State.cell_setCell]
  by_cases hm : m = n
  · simp only [hm, if_true, true_and, Cell.plane_setPlane]
    rfl
  · simp [hm, State.pl]

theorem State.pl_onPlane (s : State) (n p m q : Nat) (f : Plane → Plane) :
    (s.onPlane n p f).pl m q = if m = n ∧ q = p then f (s.pl n p) else s.pl m q := s.pl_setCell_setPlane ..

theorem State.pl_onPlane_self (s : State) (n p : Nat) (f : Plane → Plane) : (s.onPlane n p f).pl n p = f (s.pl n p) := by
  rw [State.pl_onPlane, if_pos ⟨rfl, rfl⟩]

theorem OthersKeep.onPlane (s : State) (n p : Nat) (f : Plane → Plane) : OthersKeep s (s.onPlane n p f) n p := fun m q hmq => by
  rw [State.pl_onPlane, if_neg hmq]
  exact ⟨.refl _, rfl⟩

/-- A cell stored with the planes it had. -/
theorem State.pl_setCell_of_planes (s : State) (n m q : Nat) (c : Cell) (h : c.planes = (s.cell n).planes) :
    (s.setCell n c).pl m q = s.pl m q := by
  rw [State.pl, State.cell_setCell]
  split
  · next hm => rw [hm, State.pl, Cell.plane, Cell.plane, h]
  · rfl

theorem State.pl_passTurn (s : State) (n m q : Nat) : (s.passTurn n).pl m q = s.pl m q := by
  unfold State.passTurn
  split
  · rfl
  · exact s.pl_setCell_of_planes n m q _ rfl

theorem CellFrame.passTurn (s : State) (n : Nat) : CellFrame s (s.passTurn n) := by
  unfold State.passTurn
  split
  · exact .refl s
  · exact .setCell s n _ rfl

/-! ### Completion -/

/-- The plane whose instruction has completed, at the address given or the next one. -/
def Plane.retired (v : Plane) (pc : Option Nat) : Plane :=
  { v with pc := pc.getD v.nextPc, st := if v.st == .halted then .halted else .running
           waitFrom := none, deadline := none, left := none, step := false }

/-- The state in which the plane has completed its instruction and the cell has counted it. -/
def State.retire (s : State) (n p : Nat) (pc : Option Nat) : State :=
  let s := s.onPlane n p fun v => v.retired pc
  s.setCell n { s.cell n with turnCnt := (s.cell n).turnCnt + 1 }

/-- The same once the turn has passed, as it does after ROT, after a HALT and after a debug step. -/
def State.completed (s : State) (n p : Nat) (pc : Option Nat) (rot : Bool) : State :=
  if rot || (s.pl n p).st == .halted || (s.pl n p).step then (s.retire n p pc).passTurn n else s.retire n p pc

theorem State.finish_eq (s : State) (n p : Nat) (pc : Option Nat) (rot : Bool) :
    s.finish n p pc rot = (s.completed n p pc rot).becomeCurrent n := rfl

theorem Plane.retired_planeKeep (v : Plane) (pc : Option Nat) : PlaneKeep v (v.retired pc) := ⟨rfl, rfl, rfl, rfl⟩

theorem State.pl_retire (s : State) (n p m q : Nat) (pc : Option Nat) :
    (s.retire n p pc).pl m q = if m = n ∧ q = p then (s.pl n p).retired pc else s.pl m q := by
  rw [State.retire, State.pl_setCell_of_planes, State.pl_onPlane]
  rfl

theorem State.pl_completed (s : State) (n p m q : Nat) (pc : Option Nat) (rot : Bool) :
    (s.completed n p pc rot).pl m q = if m = n ∧ q = p then (s.pl n p).retired pc else s.pl m q := by
  unfold State.completed
  split
  · rw [State.pl_passTurn, State.pl_retire]
  · exact s.pl_retire n p m q pc

theorem CellFrame.completed (s : State) (n p : Nat) (pc : Option Nat) (rot : Bool) : CellFrame s (s.completed n p pc rot) := by
  have hretire : CellFrame s (s.retire n p pc) := (CellFrame.onPlane s n p _).trans (.setCell _ n _ rfl)
  unfold State.completed
  split
  · exact hretire.trans (.passTurn ..)
  · exact hretire

/-! ### Instructions that end with a change of their plane -/

/-- What an instruction comes to that leaves its plane as `v`, at the address given or the next one, and has no other effect, but
for a halt that a breakpoint at the next instruction calls for. -/
structure PlaneDone (s s' : State) (n p : Nat) (v : Plane) (pc : Option Nat) : Prop where
  plane : PlaneHeld (v.retired pc) (s'.pl n p)
  frame : CellFrame s s'
  others : OthersKeep s s' n p

theorem planeDone_finish (s : State) (n p : Nat) (pc : Option Nat) (rot : Bool) :
    PlaneDone s (s.finish n p pc rot) n p (s.pl n p) pc := by
  rw [State.finish_eq]
  have hnext := HaltFrame.becomeCurrent (s.completed n p pc rot) n
  have hplane := hnext.planeHeld n p
  rw [State.pl_completed, if_pos ⟨rfl, rfl⟩] at hplane
  have hothers : OthersKeep s (s.completed n p pc rot) n p := fun m q hmq => by
    rw [State.pl_completed, if_neg hmq]
    exact ⟨.refl _, rfl⟩
  exact ⟨hplane, (CellFrame.completed s n p pc rot).trans hnext.cellFrame, hothers.trans (hnext.othersKeep n p)⟩

theorem planeDone_finish_onPlane (s : State) (n p : Nat) (f : Plane → Plane) (pc : Option Nat) :
    PlaneDone s ((s.onPlane n p f).finish n p pc) n p (f (s.pl n p)) pc := by
  have h := planeDone_finish (s.onPlane n p f) n p pc false
  rw [State.pl_onPlane_self] at h
  exact ⟨h.plane, (CellFrame.onPlane s n p f).trans h.frame, (OthersKeep.onPlane s n p f).trans h.others⟩

section Done
variable {s s' : State} {n p : Nat} {v : Plane} {a : Option Nat} (h : PlaneDone s s' n p v a)
include h

theorem PlaneDone.keep : PlaneKeep v (s'.pl n p) := (v.retired_planeKeep a).trans h.plane.keep

theorem PlaneDone.pc : (s'.pl n p).pc = a.getD v.nextPc := h.plane.pc

/-- An instruction that has written x register `d` of its plane alone. -/
theorem PlaneDone.frameX {u : Plane} {d : Nat} {r : BitVec 64} (hx : v.x = Sparse.set (fun _ => 0) u.x d r) (hk : v.k = u.k)
    (hmark : v.mark = u.mark) (hpc : a.getD v.nextPc = u.nextPc) :
    (s'.pl n p).xb d = r ∧ PlaneFrameX u (s'.pl n p) d := by
  obtain ⟨kx, kk, -, km⟩ := h.keep
  refine ⟨?_, fun i hi => ?_, kk.trans hk, km.trans hmark, h.pc.trans hpc⟩
  · rw [Plane.xb, kx, hx, Sparse.get_set_self]
  · rw [Plane.xb, kx, hx, Sparse.get_set_of_ne _ _ _ _ _ hi, Plane.xb]

/-- An instruction that has written counter `d` of its plane alone. -/
theorem PlaneDone.frameK {u : Plane} {d : Nat} {r : BitVec 32} (hk : v.k = Sparse.set (fun _ => 0) u.k d r) (hx : v.x = u.x)
    (hflags : v.flags = u.flags) (hmark : v.mark = u.mark) :
    (s'.pl n p).kr d = r.toNat ∧ PlaneFrameK u (s'.pl n p) d := by
  obtain ⟨kx, kk, kf, km⟩ := h.keep
  refine ⟨?_, kx.trans hx, fun i hi => ?_, kf.trans hflags, km.trans hmark⟩
  · rw [Plane.kr, kk, hk, Sparse.get_set_self]
  · rw [Plane.kr, kk, hk, Sparse.get_set_of_ne _ _ _ _ _ hi, Plane.kr]

end Done

/-- A row of an instruction whose fields are checked, from what its meaning comes to. -/
theorem cellRow_of_cellOp {mk : Tick → Nat → Instr} {op : Nat} {ok : Nat → Bool} {P : State → Nat → Nat → Nat → Plane → State → Prop}
    {f : State → Nat → Nat → Nat → CellOut} (hexec : ∀ t n s, exec (mk t n) s = .next ((s.advanceTo t).cellOp n op ok f))
    (h : ∀ s n p w, ok w = true →
      P s n p w (s.pl n p) (settleOut n p (f s n p w)) ∧ OthersKeep s (settleOut n p (f s n p w)) n p) : CellRow mk op ok P := by
  intro t n s s1 p hissues hok
  refine ⟨_, hexec t n s, ?_⟩
  rw [s1.cellOp_issues n op ok f hissues hok]
  exact h s1 n p _ hok

end Sys2Proof.Machine
end

section
/-! SUPPORT. The 64-bit operations of the scalar instructions as operations on bit vectors, and the two forms of each (R149, R150). -/

namespace Sys2Proof.Machine

/-! ### Values as bit vectors -/

theorem signed_toNat (a : BitVec 64) : signed 64 a.toNat = a.toInt := by
  have hlt := a.isLt
  rw [signed, BitVec.toInt_eq_toNat_cond, Nat.mod_eq_of_lt hlt]
  by_cases h : a.toNat < 2 ^ 63
  · rw [if_pos h, if_pos (by omega)]
    rfl
  · rw [if_neg h, if_neg (by omega)]
    rfl

theorem ofNat_ofSigned (i : Int) : BitVec.ofNat 64 (ofSigned 64 i) = BitVec.ofInt 64 i := by
  apply BitVec.eq_of_toNat_eq
  rw [BitVec.toNat_ofNat, BitVec.toNat_ofInt, ofSigned]
  exact Nat.mod_eq_of_lt (Int.toNat_lt_of_ne_zero (by decide) |>.2 (Int.emod_lt_of_pos i (by decide)))

theorem immS_lt (w : Nat) : immS w < 2 ^ 32 := Nat.mod_lt _ (by decide)

/-- The second operand of an immediate form is IMM sign-extended. -/
theorem immX_eq (w : Nat) : immX w = ((BitVec.ofNat 32 (immS w)).signExtend 64).toNat := by
  have hlt := immS_lt w
  rw [immX, BitVec.toNat_signExtend, BitVec.msb_eq_decide, BitVec.toNat_setWidth, BitVec.toNat_ofNat, Nat.mod_eq_of_lt hlt,
    Nat.mod_eq_of_lt (by omega)]
  by_cases h : 2 ^ 31 ≤ immS w
  · rw [if_pos h, if_pos (by simpa using h), Nat.add_comm]
  · rw [if_neg h, if_neg (by simpa using h), Nat.add_zero]

/-! ### The operations -/

/-- The model's operation on numbers has the 64-bit result `g` and sets no flag. -/
def IsScalarOp (f : Nat → Nat → Nat × Nat) (g : BitVec 64 → BitVec 64 → BitVec 64) : Prop :=
  ∀ a b : BitVec 64, BitVec.ofNat 64 (f a.toNat b.toNat).1 = g a b ∧ (f a.toNat b.toNat).2 = 0

theorem ofNat_toNat_self (a : BitVec 64) : BitVec.ofNat 64 a.toNat = a := by rw [BitVec.ofNat_toNat, BitVec.setWidth_eq]

theorem isScalarOp_add : IsScalarOp opAdd fun a b => a + b := fun a b =>
  ⟨by rw [opAdd, BitVec.ofNat_add, ofNat_toNat_self, ofNat_toNat_self], rfl⟩

theorem isScalarOp_sub : IsScalarOp opSub fun a b => a - b := fun a b =>
  ⟨BitVec.eq_of_toNat_eq (by rw [BitVec.toNat_sub, BitVec.toNat_ofNat, opSub, Nat.add_comm]), rfl⟩

theorem isScalarOp_mul : IsScalarOp opMul fun a b => a * b := fun a b =>
  ⟨BitVec.eq_of_toNat_eq (by rw [BitVec.toNat_mul, BitVec.toNat_ofNat, opMul]), rfl⟩

theorem isScalarOp_and : IsScalarOp opAnd fun a b => a &&& b := fun a b =>
  ⟨by rw [opAnd, ← BitVec.toNat_and, ofNat_toNat_self], rfl⟩

theorem isScalarOp_or : IsScalarOp opOr fun a b => a ||| b := fun a b =>
  ⟨by rw [opOr, ← BitVec.toNat_or, ofNat_toNat_self], rfl⟩

theorem isScalarOp_xor : IsScalarOp opXor fun a b => a ^^^ b := fun a b =>
  ⟨by rw [opXor, ← BitVec.toNat_xor, ofNat_toNat_self], rfl⟩

theorem isScalarOp_shl : IsScalarOp opShl fun a b => a <<< (b.toNat % 64) := fun a b =>
  ⟨BitVec.eq_of_toNat_eq (by rw [BitVec.toNat_shiftLeft, BitVec.toNat_ofNat, opShl]), rfl⟩

theorem isScalarOp_shr : IsScalarOp opShr fun a b => a >>> (b.toNat % 64) := fun a b =>
  ⟨by rw [opShr, ← BitVec.toNat_ushiftRight, ofNat_toNat_self], rfl⟩

theorem isScalarOp_sra : IsScalarOp opSra fun a b => a.sshiftRight (b.toNat % 64) := fun a b =>
  ⟨by rw [opSra, ofNat_ofSigned, signed_toNat, ← BitVec.sshiftRight_eq], rfl⟩

/-- Of two equal values MIN gives either. -/
theorem isScalarOp_min : IsScalarOp opMin fun a b => if a.slt b then a else b := fun a b => by
  refine ⟨?_, rfl⟩
  simp only [opMin, signed_toNat, BitVec.slt_iff_toInt_lt]
  rcases lt_trichotomy a.toInt b.toInt with h | h | h
  · rw [if_pos h, if_neg (by omega), ofNat_toNat_self]
  · rw [if_neg (by omega), if_neg (by omega), BitVec.toInt_inj.1 h, ofNat_toNat_self]
  · rw [if_pos h, if_neg (by omega), ofNat_toNat_self]

theorem isScalarOp_max : IsScalarOp opMax fun a b => if a.slt b then b else a := fun a b => by
  refine ⟨?_, rfl⟩
  simp only [opMax, signed_toNat, BitVec.slt_iff_toInt_lt]
  split <;> exact ofNat_toNat_self _

/-! ### The two forms -/

/-- An instruction that writes the result of a scalar operation to x register `d`. -/
theorem scalarOp_done {f : Nat → Nat → Nat × Nat} {g : BitVec 64 → BitVec 64 → BitVec 64} (hop : IsScalarOp f g) (s : State)
    (n p d : Nat) (a b : BitVec 64) :
    let r := f a.toNat b.toNat
    let s' := settleOut n p (.done (s.onPlane n p fun v => (v.setX d r.1).flag r.2) none)
    ((s'.pl n p).xb d = g a b ∧ PlaneFrameX (s.pl n p) (s'.pl n p) d ∧ (s'.pl n p).flags = (s.pl n p).flags ∧ CellFrame s s') ∧
    OthersKeep s s' n p := by
  intro r s'
  obtain ⟨hvalue, hflags⟩ := hop a b
  have hd : PlaneDone s s' n p (((s.pl n p).setX d r.1).flag r.2) none := planeDone_finish_onPlane s n p _ none
  obtain ⟨hx, hframe⟩ := hd.frameX rfl rfl rfl rfl
  obtain ⟨-, -, hf, -⟩ := hd.keep
  refine ⟨⟨hx.trans hvalue, hframe, hf.trans ?_, hd.frame⟩, hd.others⟩
  change Nat.lor (s.pl n p).flags r.2 = _
  rw [show r.2 = 0 from hflags]
  exact Nat.or_zero _

section Forms
variable {mk : Tick → Nat → Instr} {op : Nat} {f : Nat → Nat → Nat × Nat} {g : BitVec 64 → BitVec 64 → BitVec 64}
  (hop : IsScalarOp f g)
include hop

theorem cellRow_aluR (hexec : ∀ t n s, exec (mk t n) s = .next ((s.advanceTo t).aluR n op f)) :
    CellRow mk op (fun w => okS w true true true) fun s1 n p w v s' =>
      (s'.pl n p).xb (rdS w) = g (v.xb (raS w)) (v.xb (rbS w)) ∧ PlaneFrameX v (s'.pl n p) (rdS w) ∧
      (s'.pl n p).flags = v.flags ∧ CellFrame s1 s' :=
  cellRow_of_cellOp hexec fun s n p w _ => scalarOp_done hop s n p (rdS w) ((s.pl n p).xb (raS w)) ((s.pl n p).xb (rbS w))

theorem cellRow_aluI (hexec : ∀ t n s, exec (mk t n) s = .next ((s.advanceTo t).aluI n op f immX)) :
    CellRow mk op (fun w => okS w true true false) fun s1 n p w v s' =>
      (s'.pl n p).xb (rdS w) = g (v.xb (raS w)) ((BitVec.ofNat 32 (immS w)).signExtend 64) ∧ PlaneFrameX v (s'.pl n p) (rdS w) ∧
      (s'.pl n p).flags = v.flags ∧ CellFrame s1 s' :=
  cellRow_of_cellOp hexec fun s n p w _ => by
    have h := scalarOp_done hop s n p (rdS w) ((s.pl n p).xb (raS w)) ((BitVec.ofNat 32 (immS w)).signExtend 64)
    rwa [← immX_eq] at h

end Forms

/-- Settles O5: each instruction of the two tables is a register or an immediate form of its operation. -/
theorem scalarForms : Obligations.ScalarForms := by
  refine ⟨?_, ?_⟩
  · simp only [scalarOps, List.forall_mem_cons]
    exact ⟨cellRow_aluR isScalarOp_add fun _ _ _ => rfl, cellRow_aluR isScalarOp_sub fun _ _ _ => rfl,
      cellRow_aluR isScalarOp_mul fun _ _ _ => rfl, cellRow_aluR isScalarOp_and fun _ _ _ => rfl,
      cellRow_aluR isScalarOp_or fun _ _ _ => rfl, cellRow_aluR isScalarOp_xor fun _ _ _ => rfl,
      cellRow_aluR isScalarOp_shl fun _ _ _ => rfl, cellRow_aluR isScalarOp_shr fun _ _ _ => rfl,
      cellRow_aluR isScalarOp_sra fun _ _ _ => rfl, cellRow_aluR isScalarOp_min fun _ _ _ => rfl,
      cellRow_aluR isScalarOp_max fun _ _ _ => rfl, List.forall_mem_nil _⟩
  · simp only [scalarImmOps, List.forall_mem_cons]
    exact ⟨cellRow_aluI isScalarOp_add fun _ _ _ => rfl, cellRow_aluI isScalarOp_sub fun _ _ _ => rfl,
      cellRow_aluI isScalarOp_mul fun _ _ _ => rfl, cellRow_aluI isScalarOp_and fun _ _ _ => rfl,
      cellRow_aluI isScalarOp_or fun _ _ _ => rfl, cellRow_aluI isScalarOp_xor fun _ _ _ => rfl,
      cellRow_aluI isScalarOp_shl fun _ _ _ => rfl, cellRow_aluI isScalarOp_shr fun _ _ _ => rfl,
      cellRow_aluI isScalarOp_sra fun _ _ _ => rfl, cellRow_aluI isScalarOp_min fun _ _ _ => rfl,
      cellRow_aluI isScalarOp_max fun _ _ _ => rfl, List.forall_mem_nil _⟩

end Sys2Proof.Machine
end

section
/-! SUPPORT. What the fault of a plane leaves behind: the fault shown and recorded, poison in the queues the plane owns, and registers,
accumulators, other queues and memory as they were (R92, R127, R133). -/

namespace Sys2Proof.Machine

/-! ### Poison -/

/-- A cell in which poison may have been pushed into output queues, or is owed, and whose turn may have passed. -/
structure CellPoisoned (c c' : Cell) : Prop where
  plane : ∀ q, c'.plane q = { c.plane q with owed := (c'.plane q).owed }
  queue : ∀ q, q < 16 → c'.queue q = c.queue q
  acc : c'.acc = c.acc
  apsn : c'.apsn = c.apsn

theorem CellPoisoned.refl (c : Cell) : CellPoisoned c c := ⟨fun _ => rfl, fun _ _ => rfl, rfl, rfl⟩

theorem CellPoisoned.trans {a b c : Cell} (h : CellPoisoned a b) (k : CellPoisoned b c) : CellPoisoned a c :=
  ⟨fun q => (k.plane q).trans (by rw [h.plane q]), fun q hq => (k.queue q hq).trans (h.queue q hq), k.acc.trans h.acc,
    k.apsn.trans h.apsn⟩

/-- The cells poisoned, and nothing else changed. -/
structure PoisonFrame (s s' : State) : Prop where
  cell : ∀ m, CellPoisoned (s.cell m) (s'.cell m)
  regs : s'.regs = s.regs
  host : s'.host = s.host
  mem : s'.mem = s.mem

theorem PoisonFrame.refl (s : State) : PoisonFrame s s := ⟨fun _ => .refl _, rfl, rfl, rfl⟩

theorem PoisonFrame.trans {a b c : State} (h : PoisonFrame a b) (k : PoisonFrame b c) : PoisonFrame a c :=
  ⟨fun m => (h.cell m).trans (k.cell m), k.regs.trans h.regs, k.host.trans h.host, k.mem.trans h.mem⟩

theorem PoisonFrame.setCell (s : State) (n : Nat) (c : Cell) (h : CellPoisoned (s.cell n) c) : PoisonFrame s (s.setCell n c) :=
  ⟨fun m => by
    rw [State.cell_setCell]
    split
    · next hm => exact hm ▸ h
    · exact .refl _, rfl, rfl, rfl⟩

theorem PoisonFrame.pushPoison (s : State) (n p q : Nat) : PoisonFrame s (s.pushPoison n p q) := by
  unfold State.pushPoison
  dsimp only
  split
  · refine .setCell s n _ ⟨fun _ => rfl, fun i hi => ?_, rfl, rfl⟩
    rw [Cell.push, Cell.queue_setQueue, if_neg (by unfold qoIdx; omega)]
  · refine .setCell s n _ ⟨fun i => ?_, fun _ _ => rfl, rfl, rfl⟩
    rw [Cell.plane_setPlane]
    split
    · next hi => rw [hi]
    · rfl

theorem PoisonFrame.passTurn (s : State) (n : Nat) : PoisonFrame s (s.passTurn n) := by
  unfold State.passTurn
  split
  · exact .refl s
  · exact .setCell s n _ ⟨fun _ => rfl, fun _ _ => rfl, rfl, rfl⟩

theorem PoisonFrame.pl {s s' : State} (h : PoisonFrame s s') (m q : Nat) : s'.pl m q = { s.pl m q with owed := (s'.pl m q).owed } :=
  (h.cell m).plane q

/-! ### The fault of a plane -/

/-- The plane when it has faulted. -/
def Plane.stopped (v : Plane) : Plane := { v with st := .faulted, waitFrom := none, deadline := none, dbg := false, step := false }

theorem RecordFrame.cell {s s' : State} (h : RecordFrame s s') (m : Nat) : s'.cell m = s.cell m := by
  rw [State.cell, State.cell, h.lat]

theorem FaultRecorded.of_host_eq {s s' s'' : State} {P : FaultRec → Prop} (h : FaultRecorded s s' P) (hhost : s''.host = s'.host) :
    FaultRecorded s s'' P := by
  rw [FaultRecorded, hhost]
  exact h

theorem clFault_lt (code p pc detail : Nat) (h : code < 2 ^ 16) : clFault code p pc detail < 2 ^ 32 := by
  unfold clFault
  omega

section
variable (s : State) (n p code detail arg : Nat) (addr : Option Nat)

/-- The state in which the fault of a plane is shown in CL_FAULT and recorded. -/
def State.planeRecorded : State :=
  (s.setReg (clB n + 0x40) (clFault code p (s.pl n p).pc detail)).fault (s.planeRec n p code detail arg addr (s.pl n p).pc)

theorem RecordFrame.planeRecorded : RecordFrame s (s.planeRecorded n p code detail arg addr) :=
  (RecordFrame.setReg ..).trans (.fault ..)

theorem State.reg_planeRecorded (h : code < 2 ^ 16) :
    (s.planeRecorded n p code detail arg addr).reg (clB n + 0x40) = clFault code p (s.pl n p).pc detail := by
  rw [State.planeRecorded, State.reg_fault _ _ _ (by unfold clB; omega), State.reg_setReg_self,
    Nat.mod_eq_of_lt (clFault_lt _ _ _ _ h)]

theorem faultRecorded_planeRecorded :
    FaultRecorded s (s.planeRecorded n p code detail arg addr) fun f => f.code = code ∧ f.origin = 0 ∧ f.cell = some (n, p) ∧
      f.bind = s.clBind n ∧ f.epoch = s.clEpoch n ∧ f.pc = (s.pl n p).pc ∧ f.detail = detail :=
  FaultRecorded.of_setReg (clB n + 0x40) _ (by unfold clB; omega) (faultRecorded_fault _ _ _ ⟨rfl, rfl, rfl, rfl, rfl, rfl, rfl⟩)

/-- A plane that has not faulted yet stops once its fault is recorded; then poison goes out and the turn passes. -/
theorem PoisonFrame.planeFault (hst : (s.pl n p).st ≠ .faulted) :
    PoisonFrame ((s.planeRecorded n p code detail arg addr).onPlane n p Plane.stopped) (s.planeFault n p code detail arg addr) := by
  have hpoison (l : List Nat) (s : State) : PoisonFrame s (l.foldl (fun s q => s.pushPoison n p q) s) :=
    List.foldlRecOn l _ (motive := PoisonFrame s) (.refl s) fun s' hs' q _ => hs'.trans (.pushPoison s' n p q)
  have heq : s.planeFault n p code detail arg addr =
      let r := (s.pl n p).owned.foldl (fun s q => s.pushPoison n p q)
        ((s.planeRecorded n p code detail arg addr).onPlane n p Plane.stopped)
      if (r.cell n).turn = p then r.passTurn n else r := if_neg hst
  rw [heq]
  dsimp only
  split
  · exact (hpoison ..).trans (.passTurn ..)
  · exact hpoison ..

/-- What a plane that faults at its present address leaves behind. -/
theorem State.planeFault_shown (hst : (s.pl n p).st ≠ .faulted) (hcode : code < 2 ^ 16) :
    let s' := s.planeFault n p code detail arg addr
    PlaneFaulted s s' n p code detail ∧ PlaneKeep (s.pl n p) (s'.pl n p) ∧ OthersKeep s s' n p ∧
    (∀ m q, q < 16 → (s'.cell m).queue q = (s.cell m).queue q) ∧ AccKeep s s' := by
  intro s'
  have hrec := RecordFrame.planeRecorded s n p code detail arg addr
  have hpoison := PoisonFrame.planeFault s n p code detail arg addr hst
  have hpl (m q : Nat) : (s.planeRecorded n p code detail arg addr).pl m q = s.pl m q := congrArg (Cell.plane · q) (hrec.cell m)
  have hkeep (m : Nat) :
      let c := ((s.planeRecorded n p code detail arg addr).onPlane n p Plane.stopped).cell m
      c.q = (s.cell m).q ∧ c.acc = (s.cell m).acc ∧ c.apsn = (s.cell m).apsn := by
    obtain ⟨hq, -, -, hacc, hapsn⟩ := (CellFrame.onPlane (s.planeRecorded n p code detail arg addr) n p Plane.stopped).1 m
    rw [hrec.cell m] at hq hacc hapsn
    exact ⟨hq, hacc, hapsn⟩
  have hself := hpoison.pl n p
  rw [State.pl_onPlane_self, hpl] at hself
  refine ⟨⟨by rw [hself]; rfl, ?_, ?_, fun a => ?_⟩, ?_, fun m q hmq => ?_, fun m q hq => ?_, fun m => ?_⟩
  · exact (State.reg_of_regs_eq hpoison.regs _).trans (s.reg_planeRecorded n p code detail arg addr hcode)
  · exact (faultRecorded_planeRecorded s n p code detail arg addr).of_host_eq hpoison.host
  · rw [State.byte, hpoison.mem]
    exact hrec.memKeep a
  · rw [hself]
    exact ⟨rfl, rfl, rfl, rfl⟩
  · have hother := hpoison.pl m q
    rw [State.pl_onPlane, if_neg hmq, hpl] at hother
    rw [hother]
    exact ⟨⟨rfl, rfl, rfl, rfl⟩, rfl⟩
  · obtain ⟨hqueues, -, -⟩ := hkeep m
    rw [(hpoison.cell m).queue q hq, Cell.queue, hqueues]
    rfl
  · obtain ⟨-, hacc, hapsn⟩ := hkeep m
    exact ⟨(hpoison.cell m).acc.trans hacc, (hpoison.cell m).apsn.trans hapsn⟩

end

end Sys2Proof.Machine
end

section
/-! SUPPORT. The addresses on which the SRAM instructions fault (R161). -/

namespace Sys2Proof.Machine

/-! ### Addresses -/

theorem sramBad_of_misaligned (a len : Nat) (h : a % len ≠ 0) : sramBad a len = some Code.MISALIGNED := if_pos h

theorem sramBad_of_past_end (a len : Nat) (h : a % len = 0) (hend : 49152 < a + len) : sramBad a len = some Code.ADDR_RANGE := by
  rw [sramBad, if_neg (not_not.2 h), if_pos hend]

/-- What a meaning comes to on an address that is bad for an access of `len` bytes. -/
def FaultsOnBad (f : State → Nat → Nat → Nat → CellOut) (len : Nat) (s : State) (n p w : Nat) : Prop :=
  let a := ((s.cell n).plane p).addr w
  ∀ code, sramBad a len = some code → f s n p w = .fault s code 0 0 (some a)

section Meanings
variable (s : State) (n p w : Nat)

theorem faultsOnBad_lds (hok : okM w (isDstQ (opndM w)) false = true) (ho : isDst (opndM w) = true) :
    FaultsOnBad ldsEval 16 s n p w := fun code hbad => by
  simp [ldsEval, hok, ho, hbad]

theorem faultsOnBad_sts (hok : okM w (isSrcQ (opndM w)) false = true) (ho : isSrc (opndM w) = true) :
    FaultsOnBad stsEval 16 s n p w := fun code hbad => by
  simp [stsEval, hok, ho, hbad]

section Plain
variable (hok : okM w false false = true)
include hok

theorem faultsOnBad_ldx (ho : opndM w < 16) : FaultsOnBad ldxEval 8 s n p w := fun code hbad => by
  simp [ldxEval, hok, ho, hbad]

theorem faultsOnBad_stx (ho : opndM w < 16) : FaultsOnBad stxEval 8 s n p w := fun code hbad => by
  simp [stxEval, hok, ho, hbad]

theorem faultsOnBad_accld (ho : opndM w = 24) : FaultsOnBad accldEval 64 s n p w := fun code hbad => by
  simp [accldEval, hok, ho, hbad]

theorem faultsOnBad_accst (ho : opndM w = 24) : FaultsOnBad accstEval 64 s n p w := fun code hbad => by
  simp [accstEval, hok, ho, hbad]

end Plain

end Meanings

/-! ### The statement -/

/-- A plane has faulted on an address, and SRAM, its registers, source queues and accumulators are as they were. -/
def AddressFault (s : State) (n p code : Nat) (s' : State) : Prop :=
  PlaneFaulted s s' n p code 0 ∧ PlaneKeep (s.pl n p) (s'.pl n p) ∧
  (∀ m q, q < 16 → (s'.cell m).queue q = (s.cell m).queue q) ∧ AccKeep s s'

/-- An SRAM instruction that issues faults on each address that its access does not allow. -/
theorem addressFaults_of_faultsOnBad {c : Instr} {op len n : Nat} {f : State → Nat → Nat → Nat → CellOut} {t : Tick} {s : State}
    (hexec : exec c s = .next ((s.advanceTo t).runCell n (fun o => o == op) f)) (hissues : (s.advanceTo t).issues n op)
    (hf : FaultsOnBad f len (s.advanceTo t) n ((s.advanceTo t).cell n).turn ((s.advanceTo t).curWord n)) :
    let s1 := s.advanceTo t
    let p := (s1.cell n).turn
    let a := (s1.pl n p).addr (s1.curWord n)
    (a % len ≠ 0 → Completes c s (AddressFault s1 n p Code.MISALIGNED)) ∧
    (a % len = 0 → 49152 < a + len → Completes c s (AddressFault s1 n p Code.ADDR_RANGE)) := by
  intro s1 p a
  have hfault (code : Nat) (hcode : code < 2 ^ 16) (hbad : sramBad a len = some code) : Completes c s (AddressFault s1 n p code) := by
    refine ⟨_, hexec, ?_⟩
    rw [State.runCell_issues _ n op f hissues, hf code hbad]
    obtain ⟨hshown, hkeep, -, hqueue, hacc⟩ :=
      s1.planeFault_shown n p code 0 0 (some a) (s1.canRun_not_faulted n hissues.1) hcode
    exact ⟨hshown, hkeep, hqueue, hacc⟩
  exact ⟨fun h => hfault _ (by decide) (sramBad_of_misaligned a len h),
    fun h hend => hfault _ (by decide) (sramBad_of_past_end a len h hend)⟩

/-- Settles O13: each SRAM instruction checks its address ahead of its operand's token and of every effect. -/
theorem sramAddressFaults : Obligations.SramAddressFaults := by
  intro t n s s1 p w o a faults bounds
  exact ⟨fun hi hok ho => addressFaults_of_faultsOnBad rfl hi (faultsOnBad_lds s1 n p w hok ho),
    fun hi hok ho => addressFaults_of_faultsOnBad rfl hi (faultsOnBad_sts s1 n p w hok ho),
    fun hi hok ho => addressFaults_of_faultsOnBad rfl hi (faultsOnBad_ldx s1 n p w hok ho),
    fun hi hok ho => addressFaults_of_faultsOnBad rfl hi (faultsOnBad_stx s1 n p w hok ho),
    fun hi hok ho => addressFaults_of_faultsOnBad rfl hi (faultsOnBad_accld s1 n p w hok ho),
    fun hi hok ho => addressFaults_of_faultsOnBad rfl hi (faultsOnBad_accst s1 n p w hok ho)⟩

end Sys2Proof.Machine
end

section
/-! SUPPORT. The control instructions of a cell (R113, R145, R149, R151 to R153). -/

namespace Sys2Proof.Machine

/-! ### Conditions -/

/-- COND of BR on register contents, as a condition on bit vectors (R145). -/
theorem condHolds_iff_brTaken (c : Nat) (a b : BitVec 64) : condHolds c a.toNat b.toNat = true ↔ brTaken c a b := by
  match c with
  | 0 => exact beq_iff_eq.trans BitVec.toNat_inj
  | 1 => exact bne_iff_ne.trans BitVec.toNat_inj.not
  | 2 => rw [condHolds, brTaken, signed_toNat, signed_toNat, BitVec.slt_eq_decide]
  | 3 => simp [condHolds, brTaken, signed_toNat, BitVec.slt_eq_decide]
  | 4 => rfl
  | n + 5 => simp [condHolds, brTaken, BitVec.ult_eq_decide]

/-- The mask of BRF meets FLAGS where one of the seven flags is set in both. -/
theorem and_mask_ne_zero_iff (flags m : Nat) :
    flags % 128 &&& m ≠ 0 ↔ (List.range 7).any (fun i => m.testBit i && flags.testBit i) = true := by
  have hbit (i : Nat) : (flags % 128 &&& m).testBit i = (decide (i < 7) && (m.testBit i && flags.testBit i)) := by
    rw [Nat.testBit_and, show 128 = 2 ^ 7 from rfl, Nat.testBit_mod_two_pow, Bool.and_assoc, Bool.and_comm (flags.testBit i)]
  constructor
  · intro hne
    obtain ⟨i, hi⟩ := Nat.exists_testBit_of_ne_zero hne
    rw [hbit, Bool.and_eq_true, decide_eq_true_iff] at hi
    exact List.any_eq_true.2 ⟨i, List.mem_range.2 hi.1, hi.2⟩
  · intro hany hzero
    obtain ⟨i, hi, hset⟩ := List.any_eq_true.1 hany
    have hclear := hbit i
    rw [hzero, hset, decide_eq_true (List.mem_range.1 hi)] at hclear
    simp at hclear

/-! ### Instructions that only move the address -/

theorem jump_done (s : State) (n p : Nat) (pc : Option Nat) :
    let s' := settleOut n p (.done s pc)
    ((s'.pl n p).pc = pc.getD (s.pl n p).nextPc ∧ PlaneKeep (s.pl n p) (s'.pl n p) ∧ CellFrame s s') ∧ OthersKeep s s' n p := by
  have h := planeDone_finish s n p pc false
  exact ⟨⟨h.pc, h.keep, h.frame⟩, h.others⟩

theorem cellRow_nop : CellRow .nop 0x00 (fun w => okB w false false) fun s1 n p _ v s' =>
    (s'.pl n p).pc = v.nextPc ∧ PlaneKeep v (s'.pl n p) ∧ CellFrame s1 s' :=
  cellRow_of_cellOp (fun _ _ _ => rfl) fun s n p _ _ => jump_done s n p none

theorem cellRow_halt : CellRow .halt 0x01 (fun w => okB w false false) fun s1 n p _ v s' =>
    (s'.pl n p).st = .halted ∧ (s'.pl n p).pc = v.nextPc ∧ PlaneKeep v (s'.pl n p) ∧ CellFrame s1 s' :=
  cellRow_of_cellOp (fun _ _ _ => rfl) fun s n p _ _ => by
    have h := planeDone_finish_onPlane s n p (fun v => { v with st := .halted }) none
    exact ⟨⟨h.plane.halted rfl, h.pc, h.keep, h.frame⟩, h.others⟩

theorem cellRow_jmp : CellRow .jmp 0x03 (fun w => okB w false false) fun s1 n p w v s' =>
    (s'.pl n p).pc = targetB w ∧ PlaneKeep v (s'.pl n p) ∧ CellFrame s1 s' :=
  cellRow_of_cellOp (fun _ _ _ => rfl) fun s n p w _ => jump_done s n p (some (targetB w))

theorem cellRow_br : CellRow .br 0x04 (fun w => okB w true false) fun s1 n p w v s' =>
    (brTaken (condB w) (v.xb (raB w)) (v.xb (rbB w)) → (s'.pl n p).pc = targetB w) ∧
    (¬ brTaken (condB w) (v.xb (raB w)) (v.xb (rbB w)) → (s'.pl n p).pc = v.nextPc) ∧ PlaneKeep v (s'.pl n p) ∧
    CellFrame s1 s' :=
  cellRow_of_cellOp (fun _ _ _ => rfl) fun s n p w _ => by
    let v := s.pl n p
    have hcond : condHolds (condB w) (v.xr (raB w)) (v.xr (rbB w)) = true ↔ brTaken (condB w) (v.xb (raB w)) (v.xb (rbB w)) :=
      condHolds_iff_brTaken ..
    obtain ⟨⟨hpc, hkeep, hframe⟩, hothers⟩ :=
      jump_done s n p (if condHolds (condB w) (v.xr (raB w)) (v.xr (rbB w)) then some (targetB w) else none)
    refine ⟨⟨fun htaken => hpc.trans ?_, fun hnot => hpc.trans ?_, hkeep, hframe⟩, hothers⟩
    · rw [if_pos (hcond.2 htaken)]
      rfl
    · rw [if_neg (hnot ∘ hcond.1)]
      rfl

theorem cellRow_brf : CellRow .brf 0x05 (fun w => okB w false false && decide (imm20B w < 128)) fun s1 n p w v s' =>
    (s'.pl n p).pc = (if (List.range 7).any (fun i => (imm20B w).testBit i && ((s1.cell n).flagsOf p).testBit i) then targetB w
      else v.nextPc) ∧
    PlaneKeep v (s'.pl n p) ∧ CellFrame s1 s' :=
  cellRow_of_cellOp (fun _ _ _ => rfl) fun s n p w _ => by
    have hmask := and_mask_ne_zero_iff ((s.cell n).flagsOf p) (imm20B w)
    obtain ⟨⟨hpc, hkeep, hframe⟩, hothers⟩ :=
      jump_done s n p (if (s.cell n).flagsOf p % 128 &&& imm20B w ≠ 0 then some (targetB w) else none)
    refine ⟨⟨hpc.trans ?_, hkeep, hframe⟩, hothers⟩
    rw [apply_ite (Option.getD · _)]
    exact if_congr hmask rfl rfl

/-! ### ROT -/

/-- ROT runs like the instructions that check their fields, and its turn ends. -/
theorem exec_rot_of_issues (t : Tick) (n : Nat) (s : State) (h : (s.advanceTo t).issues n 0x02)
    (hok : okB ((s.advanceTo t).curWord n) false false = true) :
    exec (.rot t n) s = .next ((s.advanceTo t).finish n ((s.advanceTo t).cell n).turn none true) := by
  obtain ⟨hrun, hturn, hword⟩ := h
  change Host.Outcome.next _ = _
  rw [if_pos (by simp [hrun, hword]), if_neg (by simp [hturn]), if_pos hok]

/-- The plane after `p` in rotation is the same in a state whose planes can run where they could. -/
theorem State.nextPlane_congr (s s' : State) (n p : Nat) (hfactor : s'.factor n = s.factor n)
    (h : ∀ k, let v := s.pl n k
              let v' := s'.pl n k
              ((v'.st == .running || v'.st == .waiting) && (!v'.dbg || v'.step)) =
              ((v.st == .running || v.st == .waiting) && (!v.dbg || v.step))) :
    s'.nextPlane n p = s.nextPlane n p := by
  unfold State.nextPlane
  rw [hfactor]
  exact congrArg (fun ok => (List.find? ok _).getD p) (funext h)

/-- With more than one plane in rotation, ROT of a plane that takes no debug step gives the turn to the next that can run. -/
theorem State.turn_finish_rot (s : State) (n : Nat) (hrun : s.canRun n = true) (hfactor : s.factor n ≠ 0)
    (hstep : (s.pl n (s.cell n).turn).step = false) :
    let s' := s.finish n (s.cell n).turn none true
    (s'.cell n).turn = s.nextPlane n (s.cell n).turn ∧ (s'.cell n).turnCnt = 0 := by
  intro s'
  let r := s.retire n (s.cell n).turn none
  have hcell : (r.cell n).turn = (s.cell n).turn := by
    simp only [r, State.retire, State.onPlane, State.cell_setCell, if_true]
    rfl
  have hpass : s.completed n (s.cell n).turn none true =
      r.setCell n { r.cell n with turn := r.nextPlane n (r.cell n).turn, turnCnt := 0 } := if_neg hfactor
  have hnext := (HaltFrame.becomeCurrent (s.completed n (s.cell n).turn none true) n).cell n |>.rest
  rw [← State.finish_eq, hpass, State.cell_setCell, if_pos rfl] at hnext
  have hsame : r.nextPlane n (s.cell n).turn = s.nextPlane n (s.cell n).turn := by
    apply State.nextPlane_congr s r n _ rfl
    intro k
    rw [State.pl_retire]
    split
    · next hk =>
      obtain ⟨hst, hdbg⟩ := s.canRun_plane n hrun
      have hheld : (s.pl n (s.cell n).turn).dbg = false := by simpa [hstep] using hdbg
      rcases hst with hst | hst <;> simp [Plane.retired, hk, hst, hheld]
    · rfl
  rw [hnext, hcell, hsame]
  exact ⟨rfl, rfl⟩

theorem cellRow_rot : CellRow .rot 0x02 (fun w => okB w false false) fun s1 n p _ v s' =>
    (s'.pl n p).pc = v.nextPc ∧ PlaneKeep v (s'.pl n p) ∧
    (s1.factor n ≠ 0 → v.step = false → (s'.cell n).turn = s1.nextPlane n p ∧ (s'.cell n).turnCnt = 0) ∧ CellFrame s1 s' := by
  intro t n s s1 p hissues hok
  have h := planeDone_finish s1 n p none true
  exact ⟨_, exec_rot_of_issues t n s hissues hok, ⟨h.pc, h.keep, s1.turn_finish_rot n hissues.1, h.frame⟩, h.others⟩

/-! ### Counters -/

theorem Plane.kr_lt (v : Plane) (i : Nat) : v.kr i < 2 ^ 32 := BitVec.isLt _

theorem PlaneKeep.frameK {v v' : Plane} (h : PlaneKeep v v') (d : Nat) : v'.kr d = v.kr d ∧ PlaneFrameK v v' d := by
  obtain ⟨hx, hk, hflags, hmark⟩ := h
  have hkr (i : Nat) : v'.kr i = v.kr i := by rw [Plane.kr, Plane.kr, hk]
  exact ⟨hkr d, hx, fun i _ => hkr i, hflags, hmark⟩

/-- An instruction that stores a counter and goes on at the address given or the next one. -/
theorem setK_done (s : State) (n p d k : Nat) (pc : Option Nat) (hk : k < 2 ^ 32) :
    let s' := settleOut n p (.done (s.onPlane n p fun v => v.setK d k) pc)
    ((s'.pl n p).kr d = k ∧ (s'.pl n p).pc = pc.getD (s.pl n p).nextPc ∧ PlaneFrameK (s.pl n p) (s'.pl n p) d ∧ CellFrame s s') ∧
    OthersKeep s s' n p := by
  have h := planeDone_finish_onPlane s n p (fun v => v.setK d k) pc
  obtain ⟨hkr, hframe⟩ := h.frameK (u := s.pl n p) rfl rfl rfl rfl
  exact ⟨⟨hkr.trans (Nat.mod_eq_of_lt hk), h.pc, hframe, h.frame⟩, h.others⟩

theorem cellRow_loop : CellRow .loopI 0x06 (fun w => okB w false true) fun s1 n p w v s' =>
    (s'.pl n p).kr (kB w) = v.kr (kB w) - 1 ∧ (s'.pl n p).pc = (if v.kr (kB w) = 0 then v.nextPc else targetB w) ∧
    PlaneFrameK v (s'.pl n p) (kB w) ∧ CellFrame s1 s' :=
  cellRow_of_cellOp (fun _ _ _ => rfl) fun s n p w _ => by
    have hlt := ((s.cell n).plane p).kr_lt (kB w)
    by_cases hk : ((s.cell n).plane p).kr (kB w) = 0
    · simp only [State.pl, hk, if_true]
      obtain ⟨⟨hpc, hkeep, hframe⟩, hothers⟩ := jump_done s n p none
      obtain ⟨hkr, hframeK⟩ := hkeep.frameK (kB w)
      exact ⟨⟨hkr.trans hk, hpc, hframeK, hframe⟩, hothers⟩
    · simp only [State.pl, hk, if_false]
      exact setK_done s n p (kB w) (((s.cell n).plane p).kr (kB w) - 1) (some (targetB w)) (by omega)

theorem cellRow_kcyc : CellRow .kcyc 0x07 (fun w => okB w false true && imm20B w != 0) fun s1 n p w v s' =>
    let k := (v.kr (kB w) + 1) % 2 ^ 32
    (s'.pl n p).kr (kB w) = (if imm20B w ≤ k then 0 else k) ∧
    (s'.pl n p).pc = (if imm20B w ≤ k then targetB w else v.nextPc) ∧ PlaneFrameK v (s'.pl n p) (kB w) ∧ CellFrame s1 s' :=
  cellRow_of_cellOp (fun _ _ _ => rfl) fun s n p w _ => by
    by_cases hk : imm20B w ≤ (((s.cell n).plane p).kr (kB w) + 1) % 2 ^ 32
    · simp only [State.pl, hk, if_true]
      exact setK_done s n p (kB w) 0 (some (targetB w)) (by decide)
    · simp only [State.pl, hk, if_false]
      exact setK_done s n p (kB w) _ none (Nat.mod_lt _ (by decide))

theorem cellRow_kcyc_zero : CellRow .kcyc 0x07 (fun w => okB w false true && imm20B w == 0) fun s1 n p _ _ s' =>
    PlaneFaulted s1 s' n p Code.INVALID_FIELD 0 := by
  intro t n s s1 p hissues hok
  have hzero : imm20B (s1.curWord n) = 0 := beq_iff_eq.1 (Bool.and_eq_true_iff.1 hok).2
  refine ⟨_, rfl, ?_⟩
  rw [State.cellOp_bad _ n 0x07 _ _ hissues (by simp [s1, hzero])]
  obtain ⟨hshown, -, hothers, -⟩ :=
    s1.planeFault_shown n p Code.INVALID_FIELD 0 0 none (s1.canRun_not_faulted n hissues.1) (by decide)
  exact ⟨hshown, hothers⟩

/-- Settles O8, a row of the table at a time. -/
theorem controlForms : Obligations.ControlForms :=
  ⟨cellRow_nop, cellRow_halt, cellRow_rot, cellRow_jmp, cellRow_br, cellRow_brf, cellRow_loop, cellRow_kcyc, cellRow_kcyc_zero⟩

end Sys2Proof.Machine
end

section
/-! SUPPORT. Register accesses that are irregular, of a whole 64-bit register, or of words where nothing answers (R3, R527). -/

namespace Sys2Proof.Machine

/-! ### The registers that a fault leaves alone -/

theorem State.reg_faultInRecovery (s : State) (o : Nat) (h : o ≠ 0x30004) : s.faultInRecovery.reg o = s.reg o := by
  unfold State.faultInRecovery
  split
  · split
    · exact State.reg_setRf_of_ne _ 0x30004 3 0 0 o h
    · rfl
  · rfl

/-- Below the HI block a fault changes at most the state of a chip-level recovery (R520). -/
theorem State.reg_fault_below (s : State) (f : FaultRec) (o : Nat) (ho : o < 0x80000) (hrv : o ≠ 0x30004) :
    (s.fault f).reg o = s.reg o := by
  have hring (stamp : Nat) (rcd : List Byte) : (s.nextFault.ringRecord 129 stamp rcd).1.faultInRecovery.reg o = s.reg o :=
    (State.reg_faultInRecovery _ o hrv).trans ((RingFrame.ringRecord ..).reg o ho)
  have hoff : s.nextFault.faultInRecovery.reg o = s.reg o := State.reg_faultInRecovery _ o hrv
  have hlost (x : State) : (x.inc 0x80024).reg o = x.reg o := by rw [State.reg_inc, if_neg (by omega)]
  unfold State.fault
  dsimp only
  split
  · split
    · exact hring _ _
    · split
      · exact hring _ _
      · exact (hlost _).trans (hring _ _)
  · rw [if_neg (by simp)]
    split
    · exact hoff
    · exact (hlost _).trans hoff

theorem State.reg_fault_outside (s : State) (f : FaultRec) (o : Nat) (ho : ¬ (0x80000 ≤ o ∧ o < 0x90000)) (hrv : o ≠ 0x30004) :
    (s.fault f).reg o = s.reg o := by
  rcases Nat.lt_or_ge o 0x80000 with hlow | hhigh
  · exact s.reg_fault_below f o hlow hrv
  · exact s.reg_fault f o (by omega)

/-- A refused store leaves a fault with ORIGIN 3, every byte of memory, and the registers outside the HI block but RV's state. -/
theorem State.refusedFault_shown (s : State) (code addr : Nat) :
    let s' := s.refusedFault code addr
    (∀ o, ¬ (0x80000 ≤ o ∧ o < 0x90000) → o ≠ 0x30004 → s'.reg o = s.reg o) ∧
    FaultRecorded s s' (fun f => f.code = code ∧ f.origin = 3) ∧ MemKeep s s' :=
  ⟨s.reg_fault_outside _, faultRecorded_fault _ _ _ ⟨rfl, rfl⟩, (RecordFrame.refusedFault s code addr).memKeep⟩

/-! ### Bytes of an answer -/

theorem ofLe_append (a b : List Byte) : ofLe (a ++ b) = ofLe a + 256 ^ a.length * ofLe b := by
  induction a with
  | nil => simp [ofLe]
  | cons x r ih =>
    simp only [List.cons_append, ofLe, ih, List.length_cons, Nat.pow_succ']
    ring

theorem ofLe_replicate_zero (n : Nat) : ofLe (List.replicate n 0) = 0 := by
  induction n with
  | zero => rfl
  | succ n ih =>
    rw [List.replicate_succ, ofLe, ih]
    rfl

/-- Two words answered one after the other, the lower first. -/
theorem ofLe_two_words (a b : Nat) : ofLe (leBytes 4 a ++ leBytes 4 b) = a % 2 ^ 32 + b % 2 ^ 32 * 2 ^ 32 := by
  rw [ofLe_append, ofLe_leBytes, ofLe_leBytes, leBytes_length]
  omega

/-- The two words of a 64-bit value are the value. -/
theorem low_add_high (v : Nat) : v % 2 ^ 32 % 2 ^ 32 + v / 2 ^ 32 % 2 ^ 32 * 2 ^ 32 = v % 2 ^ 64 := by
  omega

/-- The answer on the bus is no register. -/
theorem State.reg_bus (s : State) (b o : Nat) : { s with bus := b }.reg o = s.reg o :=
  State.reg_of_regs_eq rfl o

/-- A read completes with the state and the bytes that `readReg` gives. -/
theorem completes_registerReadClear (t : Tick) (o width : Nat) (s : State) (P : State → Prop) (s' : State) (l : List Byte)
    (h : (s.advanceTo t).pa.waiting = []) (hread : (s.advanceTo t).readReg o width = (s', l)) (hP : P { s' with bus := ofLe l }) :
    Completes (.registerReadClear t o width) s P := by
  refine ⟨_, rfl, ?_⟩
  rwa [State.paFlush_of_none_waiting _ h, hread]

/-- A read that finds nothing completes with zeros and leaves the state as it is. -/
theorem completes_read_zeros (t : Tick) (o width : Nat) (s : State) (h : (s.advanceTo t).pa.waiting = [])
    (hread : (s.advanceTo t).readReg o width = (s.advanceTo t, List.replicate width 0)) :
    let s1 := s.advanceTo t
    Completes (.registerReadClear t o width) s fun s' => s'.bus = 0 ∧ s'.regs = s1.regs ∧ s'.mem = s1.mem :=
  completes_registerReadClear t o width s _ _ _ h hread ⟨ofLe_replicate_zero width, rfl, rfl⟩

/-! ### Accesses of no width that the bus has, or off their alignment -/

/-- The accesses that R527 allows. -/
abbrev RegularAccess (o width : Nat) : Prop := (width = 4 ∨ width = 8 ∨ width = 16) ∧ o % width = 0

theorem State.readReg_irregular (s : State) (o width : Nat) (h : ¬ RegularAccess o width) :
    s.readReg o width = (s, List.replicate width 0) := if_neg h

theorem State.writeReg_irregular (s : State) (o width v : Nat) (h : ¬ RegularAccess o width) :
    s.writeReg o (leBytes width v) = s.refusedFault Code.MISALIGNED (s.global (0x2200000000 + o)) := by
  rw [State.writeReg, leBytes_length]
  exact if_neg h

/-! ### A 64-bit register read whole -/

section Pair
variable (s : State) (o : Nat) (w : RegWord)
variable (hw : regWord o = some w) (hon : s.blockOn o = true) (hcl : s.cloveAt o = false) (hh : s.hidden o = false)
  (h2 : w.words = 2) (hf : w.first = o)
include hw hon hcl hh h2 hf

/-- The second word of the answer is not read on its own: it is of the instant of the first (R527). -/
theorem State.readReg_pair (ho : o % 8 = 0) :
    s.readReg o 8 = ((s.readWord o).1,
      leBytes 4 (s.readWord o).2 ++ leBytes 4 (if w.rc then s.rcValue w / 2 ^ 32 else s.view (o + 4))) := by
  rw [State.readReg, if_pos (by simp [ho])]
  simp [State.readWords, hw, hon, hcl, hh, h2, hf]

/-- The low word of a 64-bit register that no read clears. -/
theorem State.readWord_low_plain (hrc : w.rc = false) :
    (s.readWord o).2 = s.view o ∧ (s.readWord o).1.regs = s.regs ∧ (s.readWord o).1.mem = s.mem := by
  simp only [State.readWord, hw, hon, hcl, hh, hf, hrc, h2, List.range_succ]
  by_cases hl : latches w <;> simp [hl]

/-- The low word of a 64-bit register that a read clears: what is left in both words, and that no other word changes (R15, R16). -/
theorem State.readWord_low_clears (hrc : w.rc = true) :
    let s' := (s.readWord o).1
    s'.mem = s.mem ∧ s'.reg o = s.rcFresh o 2 % 2 ^ 32 ∧ s'.reg (o + 4) = s.rcFresh o 2 / 2 ^ 32 ∧
    ∀ k, k ≠ o → k ≠ o + 4 → s'.reg k = s.reg k := by
  obtain ⟨hmem, -, -⟩ := (s.latchWord (o + 4) (s.rcValue w / 2 ^ 32 % 2 ^ 32)).clearRc_frame w
  have hreg := (s.latchWord (o + 4) (s.rcValue w / 2 ^ 32 % 2 ^ 32)).reg_clearRc_two w h2
  simp only [State.rcFresh_latchWord, State.reg_latchWord, hf] at hreg
  rw [s.readWord_low o w hw hon hcl hh hf h2 hrc]
  refine ⟨hmem, ?_, ?_, fun k hk hk4 => ?_⟩
  · rw [hreg, if_neg (by omega), if_pos rfl]
  · rw [hreg, if_pos rfl]
  · rw [hreg, if_neg hk4, if_neg hk]

end Pair

/-! ### Words where nothing answers -/

/-- No register stands at an offset, or its unit is absent or not powered (R3, R527). -/
def State.NoWord (s : State) (o : Nat) : Prop := regWord o = none ∨ s.blockOn o = false

theorem State.NoWord.off {s : State} {o : Nat} {w : RegWord} (h : s.NoWord o) (hw : regWord o = some w) : s.blockOn o = false :=
  h.resolve_left (by simp [hw])

theorem State.NoWord.readWord {s : State} {o : Nat} (h : s.NoWord o) : s.readWord o = (s, 0) := by
  unfold State.readWord
  cases hw : regWord o with
  | none => rfl
  | some w => simp [h.off hw]

theorem State.NoWord.writeWord {s : State} {o : Nat} (h : s.NoWord o) (v : Nat) : s.writeWord o v = s := by
  unfold State.writeWord
  cases hw : regWord o with
  | none => rfl
  | some w => simp [h.off hw]

/-- Such a word is read on its own: it is never the low word of a register read whole. -/
theorem State.NoWord.readWords_succ {s : State} {o : Nat} (h : s.NoWord o) (n : Nat) :
    s.readWords o (n + 1) = ((s.readWords (o + 4) n).1, leBytes 4 0 ++ (s.readWords (o + 4) n).2) := by
  rw [State.readWords, h.readWord]
  cases hw : regWord o with
  | none => rfl
  | some w => simp [h.off hw]

/-- CL_IND_DATA is a register of every cell, so where nothing answers there is none. -/
theorem State.NoWord.not_isIndData {s : State} {o : Nat} (h : s.NoWord o) : s.isIndData o = false := by
  by_contra hind
  simp only [State.isIndData, within, Bool.not_eq_false, Bool.and_eq_true, decide_eq_true_eq, beq_iff_eq] at hind
  obtain ⟨⟨⟨hlo, hhi⟩, hr⟩, hon⟩ := hind
  have ho : clB ((o - 0x800000) / 0x400) + 0x88 = o := by unfold clB; omega
  have hreg := regWord_cell ((o - 0x800000) / 0x400) 0x88 (by omega) (by decide) _ rfl
  rw [ho] at hreg
  simp [h.off hreg] at hon

theorem State.readWords_of_noWord (s : State) (o n : Nat) (h : ∀ i < n, s.NoWord (o + 4 * i)) :
    s.readWords o n = (s, List.replicate (4 * n) 0) := by
  induction n generalizing o with
  | zero => rfl
  | succ n ih =>
    have h0 : s.NoWord o := h 0 (by omega)
    have hrest := ih (o + 4) fun i hi => by simpa [Nat.mul_add, Nat.add_assoc, Nat.add_comm] using h (i + 1) (by omega)
    have hzero : leBytes 4 0 ++ List.replicate (4 * n) 0 = List.replicate (4 * (n + 1)) 0 := by
      rw [show 4 * (n + 1) = 4 + 4 * n by omega, List.replicate_add]
      rfl
    rw [h0.readWords_succ, hrest, hzero]

theorem State.writeWords_of_noWord (s : State) (o : Nat) (l : List Nat) (h : ∀ i < l.length, s.NoWord (o + 4 * i)) :
    s.writeWords o l = s := by
  induction l generalizing o with
  | nil => rfl
  | cons v r ih =>
    have h0 : s.NoWord o := h 0 (by simp)
    have hrest := ih (o + 4) fun i hi => by
      simpa [Nat.mul_add, Nat.add_assoc, Nat.add_comm] using h (i + 1) (by simpa using hi)
    cases r with
    | nil => exact h0.writeWord v
    | cons u r => rw [State.writeWords, if_neg (by simp [h0.not_isIndData]), h0.writeWord, hrest]

section NoWords
variable (s : State) (o width : Nat) (hreg : RegularAccess o width) (h : ∀ i < width / 4, s.NoWord (o + 4 * i))
include hreg h

theorem State.readReg_of_noWord : s.readReg o width = (s, List.replicate width 0) := by
  have hwidth : 4 * (width / 4) = width := by
    obtain ⟨hw, -⟩ := hreg
    omega
  rw [State.readReg, if_pos hreg, s.readWords_of_noWord o _ h, hwidth]

theorem State.writeReg_of_noWord (v : Nat) (hp : s.pa.waiting = []) : s.writeReg o (leBytes width v) = s := by
  rw [State.writeReg, leBytes_length, if_pos hreg, s.paFlush_of_none_waiting hp]
  apply State.writeWords_of_noWord
  simpa [wordsOf] using h

end NoWords

/-! ### The statement -/

/-- Settles O23: an irregular access stops at the bus, an 8-byte read of a 64-bit register is the read of its low word with the high
word beside it, and each word of an access where nothing answers reads 0 and ignores its write. -/
theorem irregularAccesses : Obligations.IrregularAccesses := by
  intro t off width value s s1 hp
  refine ⟨fun hirr => ⟨?_, ?_⟩, fun w ho hw h2 hf hon hcl hh => ?_, fun hwidth ho hno => ⟨?_, ?_⟩⟩
  · exact completes_read_zeros t off width s hp (s1.readReg_irregular off width hirr)
  · refine ⟨_, rfl, ?_⟩
    rw [State.writeReg_irregular _ off width value hirr]
    exact s1.refusedFault_shown ..
  · apply completes_registerReadClear t off 8 s _ _ _ hp (s1.readReg_pair off w hw hon hcl hh h2 hf ho)
    simp only [State.reg_bus, ofLe_two_words]
    cases hrc : w.rc with
    | false =>
      obtain ⟨hlow, hregs, hmem⟩ := s1.readWord_low_plain off w hw hon hcl hh h2 hf hrc
      exact ⟨hmem, fun _ => ⟨by rw [hlow, if_neg Bool.false_ne_true], hregs⟩, nofun⟩
    | true =>
      obtain ⟨hmem, hcleared⟩ := s1.readWord_low_clears off w hw hon hcl hh h2 hf hrc
      refine ⟨hmem, nofun, fun _ => ⟨?_, hcleared⟩⟩
      rw [s1.readWord_low off w hw hon hcl hh hf h2 hrc, if_pos rfl]
      exact low_add_high _
  · exact completes_read_zeros t off width s hp (s1.readReg_of_noWord off width ⟨hwidth, ho⟩ hno)
  · exact ⟨_, rfl, s1.writeReg_of_noWord off width ⟨hwidth, ho⟩ hno value hp⟩

end Sys2Proof.Machine
end
